-- ==== Sys2Proof/Word.lean ====
section
/-! DEFINITION. The word types of FT64v7: 00_scope R10 (64-bit values), R12 (byte). -/

namespace Sys2Proof

/-- A register value: 64 bits (00_scope R10). -/
abbrev Word := BitVec 64

/-- The addressable unit of memory (20_memory R140). -/
abbrev Byte := BitVec 8

/-- A register number within a set (30_encoding R222). -/
abbrev RegNo := BitVec 5

end Sys2Proof
end

