-- ==== Sys2Proof/Config.lean ====
section
/-! DEFINITION. What an implementation fixes (00_scope R7 and the OPEN rows of 92_eei_decisions), as plain data held in
State under the name cfg, and the free values: constants with no body for what the spec leaves unspecified. -/

namespace Sys2Proof

/-- Which memory management unit is present (20_memory R147, D23). -/
inductive MmuKind where
  | none
  | tlb
  | simple
  deriving DecidableEq, Repr

/-- Where the floating-point register set number comes from (10_state R30, D8). -/
inductive FpSetSource where
  | fstatRgs
  | statusRsOdd
  deriving DecidableEq, Repr

/-- When tininess is detected (47_float R765, U17). -/
inductive FpTininess where
  | afterRounding
  | beforeRounding
  deriving DecidableEq, Repr

/-- The NaN an operation delivers (47_float R766, U18). -/
inductive FpNanResult where
  | canonical
  | propagate
  deriving DecidableEq, Repr

/-- The result of an integer division by zero (42_muldiv R455, U12): the spec's default (all ones and the dividend), or
a free value. -/
inductive DivZero where
  | onesDividend
  | free
  deriving DecidableEq, Repr

/-- One region of the platform's memory map (20_memory R143, R148): which kinds of access it acknowledges, and whether
it is a device, which the environment answers for (70_reset_and_hazards R1056). -/
structure Region where
  base   : Nat
  size   : Nat
  read   : Bool
  write  : Bool
  exec   : Bool
  device : Bool
  deriving DecidableEq, Repr

/-- The named parameters of the spec. Each default (defaultConfig) is the spec's; log 17. -/
structure Config where
  /-- SUP_VECTOR, 00_scope R7 -/
  supVector : Bool
  /-- SUP_TXE, 00_scope R7: the call target exception, which nothing triggers (60_exceptions R983) -/
  supTxe : Bool
  /-- SUPPORT_SMT, 00_scope R7 -/
  supportSmt : Bool
  /-- SUPPORT_DBG, 00_scope R7 -/
  supportDbg : Bool
  /-- NUM_FPU, 00_scope R7 -/
  numFpu : Nat
  /-- hartid_i, 10_state R44 -/
  hartid : Word
  /-- INFO registers, 10_state R69; a missing entry is 0 -/
  info : List Word
  /-- tm_clk_hz, 10_state R68 -/
  tmClkHz : Nat
  /-- PA_BITS, 20_memory R142 -/
  paBits : Nat
  /-- the memory map, 20_memory R143 -/
  memMap : List Region
  /-- MMU_KIND, 20_memory R147 -/
  mmuKind : MmuKind
  /-- ICACHE_COHERENT, 20_memory R196 -/
  icacheCoherent : Bool
  /-- RESERVED_ENCODING = fault (true) or nop (false), 30_encoding R258 -/
  reservedFault : Bool
  /-- FBCC_OPCODE, 30_encoding R255 -/
  fbccOpcode : BitVec 6
  /-- CREG_MAP, 46_compressed R701 -/
  cregMap : List RegNo
  /-- CDISP_SIGNED, 46_compressed R702 -/
  cdispSigned : Bool
  /-- BF_WIDTH_BIAS, 41_shift_bitfield R420 -/
  bfWidthBias : Nat
  /-- DIV_BY_ZERO_RESULT, 42_muldiv R455 -/
  divByZero : DivZero
  /-- IRQ_RS_SCALE, 10_state R23 -/
  irqRsScale : Nat
  /-- PFI_HONOURS_IM, 45_system R633 -/
  pfiHonoursIm : Bool
  /-- USER_PRIV_FAULTS, 45_system R630 -/
  userPrivFaults : List String
  /-- stack_bounds_ok as an inclusive unsigned range; none accepts every value (10_state R28) -/
  stackBounds : Option (Word × Word)
  /-- rex_target_enabled for target levels 1 and 2, 45_system R650 -/
  rexEnabled1 : Bool
  rexEnabled2 : Bool
  /-- FP_SET_SOURCE, 10_state R30 -/
  fpSetSource : FpSetSource
  /-- FP_PRC_IGNORED, 47_float R762 -/
  fpPrcIgnored : Bool
  /-- RM_DYNAMIC, 47_float R763 -/
  rmDynamic : BitVec 3
  /-- FP_TININESS, 47_float R765 -/
  fpTininess : FpTininess
  /-- FP_NAN_RESULT, 47_float R766 -/
  fpNanResult : FpNanResult
  /-- FP_EQ_SIGNALS, 47_float R779 -/
  fpEqSignals : Bool
  /-- V0_IS_ORDINARY, 10_state R33 -/
  v0Ordinary : Bool
  deriving DecidableEq, Repr

/-- DESIGN CHOICE (log 14): memory answers everywhere on the 32-bit bus but in the I/O area of 20_memory R143, which is
a device window. -/
def defaultMemMap : List Region :=
  [ { base := 0x00000000, size := 0xFFD00000, read := true, write := true, exec := true, device := false },
    { base := 0xFFD00000, size := 0x00100000, read := true, write := true, exec := true, device := true },
    { base := 0xFFE00000, size := 0x00200000, read := true, write := true, exec := true, device := false } ]

/-- The default value of every parameter, as the spec gives it (00_scope R7; 92_eei_decisions; 93 part 1). -/
def defaultConfig : Config where
  supVector := true
  supTxe := false
  supportSmt := true
  supportDbg := true
  numFpu := 1
  hartid := 1
  info := []
  tmClkHz := 100000000
  paBits := 32
  memMap := defaultMemMap
  mmuKind := .none
  icacheCoherent := true
  reservedFault := true
  fbccOpcode := 0x10
  cregMap := [1, 3, 4, 11, 12, 18, 19, 20]
  cdispSigned := false
  bfWidthBias := 0
  divByZero := .onesDividend
  irqRsScale := 1
  pfiHonoursIm := false
  userPrivFaults := []
  stackBounds := .none
  rexEnabled1 := true
  rexEnabled2 := true
  fpSetSource := .fstatRgs
  fpPrcIgnored := false
  rmDynamic := 7
  fpTininess := .afterRounding
  fpNanResult := .canonical
  fpEqSignals := true
  v0Ordinary := true

/-! Free values. Nothing constrains them; each is applied to the State's counter freeIdx or to the operands. -/

/-- Result of BCDADD, BCDSUB, BCDMUL with a source nibble above 9 (93 U10; log 29). -/
opaque Config.freeBcd : Nat → Word
/-- Quotient of a division of two w-bit values by zero under DivZero.free (93 U12; log 30). -/
opaque Config.freeQuotient : Nat → Nat → Nat
/-- Remainder of a division of two w-bit values by zero under DivZero.free (93 U12; log 30). -/
opaque Config.freeRemainder : Nat → Nat → Nat
/-- Which of several matching TLB entries answers (93 U6; log 28). -/
opaque Config.freeTlbPick : Nat → Nat
/-- Whether a stale instruction byte is fetched, with ICACHE_COHERENT = false (20_memory R196; log 35). -/
opaque Config.freeStale : Nat → Nat → Bool
/-- Core clock cycles that pass in a step (10_state R45; log 11). -/
opaque Config.freeTick : Nat → Nat
/-- The reference count of a TLB entry after an aging cycle (20_memory R168; log 26). -/
opaque Config.freeAge : Nat → Nat → BitVec 32
/-- tm_clk cycles that pass in a step (10_state R68; log 11). -/
opaque Config.freeTmClk : Nat → Nat
/-- Instructions queued in a step (10_state R67; log 11). -/
opaque Config.freeIq : Nat → BitVec 40
/-- Branch misses in a step (10_state R67; log 11). -/
opaque Config.freeBm : Nat → BitVec 40
/-- Branches committed in a step (10_state R67; log 11). -/
opaque Config.freeBr : Nat → BitVec 40
/-- What a device answers at an address: the draw it is and the physical address (70_reset_and_hazards R1056; log 14). -/
opaque Config.freeDevice : Nat → Nat → Byte
/-- The signals a WAIT can name that are not true after a step (45_system R636; log 16). -/
opaque Config.freeWaitLow : Nat → List Word
/-- The time-outs of WAIT that have not elapsed after a step (45_system R636; log 16). -/
opaque Config.freeWaitRunning : Nat → List Word
/-- Whether the processor is in debug mode when an interrupt occurs (10_state R43; log 53). -/
opaque Config.freeDebugMode : Nat → Bool
/-- The page shift of the size codes 6 and 7, which are not defined (20_memory R165; log 45). -/
opaque Config.freePageShift : Nat → Nat
/-- The free-running TLB way counter after a step, before it is held at or above Wired (45_system R660; log 27). -/
opaque Config.freeWay : Nat → Nat

end Sys2Proof
end

