-- ==== Sys2Proof/Syntax.lean ====
section
/-! DEFINITION. The instructions of FT64v7 as syntax: 30_encoding. A constructor of Instr stands for one mnemonic of
spec/opcode_table.json in one operand layout; where the table has a row per length (32 and 48 bits) or per vector
element type (major opcodes 31h and 01h), the row is the value of an operand of the constructor (a form, the flag long,
the flag fp). The rows that are another name of a core instruction's words (LDI, the compressed NOP and ADDISP, PFI,
CLI, VNEG, the compressed RET and BRK) are constructors of their own. Register fields are kept as the numbers printed;
the meaning says which file of registers a number names. -/

namespace Sys2Proof

/-- The immediate of formats RI and MS: 14 bits, or 30 bits in the 48-bit form (30_encoding R224, R226). -/
inductive Imm where
  | short (v : BitVec 14)
  | long (v : BitVec 30)
  deriving DecidableEq, Repr

/-- The immediate of LUI and AUIPC: 19 bits, or 35 bits in the 48-bit form (30_encoding R225). -/
inductive UpperImm where
  | short (v : BitVec 19)
  | long (v : BitVec 35)
  deriving DecidableEq, Repr

/-- The count of a 48-bit shift: a register, or a six-bit immediate (30_encoding R230, bits R and I). -/
inductive ShiftCount where
  | reg (rb : RegNo)
  | imm (n : BitVec 6)
  deriving DecidableEq, Repr

/-- The target of JMP and CALL: 24 address bits, or a segment and 38 address bits (30_encoding R236). -/
inductive JumpTarget where
  | near (a : BitVec 24)
  | far (seg : BitVec 2) (a : BitVec 38)
  deriving DecidableEq, Repr

/-- The displacement of JAL: 14 bits, or a segment and 28 bits (30_encoding R236). -/
inductive LinkTarget where
  | near (imm : BitVec 14)
  | far (seg : BitVec 2) (imm : BitVec 28)
  deriving DecidableEq, Repr

/-- The form of a two-source floating-point instruction: the short form has no precision field (30_encoding R241). -/
inductive FpForm where
  | short (rm : BitVec 3)
  | long (prc : BitVec 4) (rm : BitVec 3)
  deriving DecidableEq, Repr

/-- The form of a floating-point flag instruction or FSYNC (30_encoding R241, 47_float R801). -/
inductive FlagForm where
  | short
  | long (prc : BitVec 4)
  deriving DecidableEq, Repr

/-- The length of a vector instruction (30_encoding R257): the long form names precision and rounding mode. -/
inductive VecLen where
  | short
  | long (prc : BitVec 4) (rm : BitVec 3)
  deriving DecidableEq, Repr

/-- The length of a vector shift: the long form also holds the amount selector S2 (48_vector R878). -/
inductive ShiftLen where
  | short
  | long (s2 : BitVec 2) (prc : BitVec 4) (rm : BitVec 3)
  deriving DecidableEq, Repr

/-- The instructions (30_encoding R243 to R256). -/
inductive Instr where
  -- Integer arithmetic, logic, compare, move (40, 41, 42)
  | addi (rt ra : RegNo) (imm : Imm)
  | slti (rt ra : RegNo) (imm : Imm)
  | sltui (rt ra : RegNo) (imm : Imm)
  | andi (rt ra : RegNo) (imm : Imm)
  | ori (rt ra : RegNo) (imm : Imm)
  | xori (rt ra : RegNo) (imm : Imm)
  | seqi (rt ra : RegNo) (imm : Imm)
  | sgtui (rt ra : RegNo) (imm : Imm)
  | sgti (rt ra : RegNo) (imm : Imm)
  | mulfi (rt ra : RegNo) (imm : Imm)
  | modi (rt ra : RegNo) (imm : Imm)
  | mului (rt ra : RegNo) (imm : Imm)
  | muli (rt ra : RegNo) (imm : Imm)
  | divui (rt ra : RegNo) (imm : Imm)
  | divi (rt ra : RegNo) (imm : Imm)
  | ldi (rt : RegNo) (imm : Imm)
  | lui (rt : RegNo) (imm : UpperImm)
  | auipc (rt : RegNo) (imm : UpperImm)
  | addv (rt ra rb : RegNo) (long : Bool)
  | add (rt ra rb : RegNo) (sz : BitVec 3)
  | sub (rt ra rb : RegNo) (sz : BitVec 3)
  | slt (rt ra rb : RegNo) (sz : BitVec 3)
  | sltu (rt ra rb : RegNo) (sz : BitVec 3)
  | and (rt ra rb : RegNo) (sz : BitVec 3)
  | or (rt ra rb : RegNo) (sz : BitVec 3)
  | xor (rt ra rb : RegNo) (sz : BitVec 3)
  | seq (rt ra rb : RegNo) (sz : BitVec 3)
  | nand (rt ra rb : RegNo)
  | nor (rt ra rb : RegNo)
  | xnor (rt ra rb : RegNo)
  | modu (rt ra rb : RegNo) (sz : BitVec 3)
  | modsu (rt ra rb : RegNo) (sz : BitVec 3)
  | mod (rt ra rb : RegNo) (sz : BitVec 3)
  | ptrdif (rt ra rb : RegNo) (sc : BitVec 3)
  | muluh (rt ra rb : RegNo) (sz : BitVec 3)
  | mulsuh (rt ra rb : RegNo) (sz : BitVec 3)
  | mulh (rt ra rb : RegNo) (sz : BitVec 3)
  | sle (rt ra rb : RegNo) (sz : BitVec 3)
  | sleu (rt ra rb : RegNo) (sz : BitVec 3)
  | mulf (rt ra rb : RegNo) (sz : BitVec 3)
  | min (rt ra rb : RegNo) (sz : BitVec 3)
  | max (rt ra rb : RegNo) (sz : BitVec 3)
  | mulu (rt ra rb : RegNo) (sz : BitVec 3)
  | mulsu (rt ra rb : RegNo) (sz : BitVec 3)
  | mul (rt ra rb : RegNo) (sz : BitVec 3)
  | fxmul (rt ra rb : RegNo) (sz : BitVec 3)
  | divu (rt ra rb : RegNo) (sz : BitVec 3)
  | divsu (rt ra rb : RegNo) (sz : BitVec 3)
  | div (rt ra rb : RegNo) (sz : BitVec 3)
  | bcdadd (rt ra rb : RegNo)
  | bcdsub (rt ra rb : RegNo)
  | bcdmul (rt ra rb : RegNo)
  | mor (rt ra rb : RegNo)
  | mxor (rt ra rb : RegNo)
  | mort (rt ra rb : RegNo)
  | mxort (rt ra rb : RegNo)
  | mov (d : BitVec 3) (rs : BitVec 6) (rt ra : RegNo)
  | chk (ra rb rc : RegNo)
  | chki (ra rb : RegNo) (imm : BitVec 14)
  | shl (rt ra rb : RegNo)
  | shlImm (rt ra : RegNo) (n : BitVec 6)
  | shlOp (op2 : BitVec 6) (sz : BitVec 3) (n : ShiftCount) (rt ra rc : RegNo)
  | shr (rt ra rb : RegNo)
  | shrImm (rt ra : RegNo) (n : BitVec 6)
  | shrOp (op2 : BitVec 6) (sz : BitVec 3) (n : ShiftCount) (rt ra rc : RegNo)
  | asl (rt ra rb : RegNo)
  | aslImm (rt ra : RegNo) (n : BitVec 6)
  | aslOp (op2 : BitVec 6) (sz : BitVec 3) (n : ShiftCount) (rt ra rc : RegNo)
  | asr (rt ra rb : RegNo)
  | asrImm (rt ra : RegNo) (n : BitVec 6)
  | asrOp (op2 : BitVec 6) (sz : BitVec 3) (n : ShiftCount) (rt ra rc : RegNo)
  | rol (rt ra rb : RegNo)
  | rolImm (rt ra : RegNo) (n : BitVec 6)
  | rolOp (op2 : BitVec 6) (sz : BitVec 3) (n : ShiftCount) (rt ra rc : RegNo)
  | ror (rt ra rb : RegNo)
  | rorImm (rt ra : RegNo) (n : BitVec 6)
  | rorOp (op2 : BitVec 6) (sz : BitVec 3) (n : ShiftCount) (rt ra rc : RegNo)
  | cntlz (rt ra : RegNo) (sz : BitVec 3)
  | cntlo (rt ra : RegNo) (sz : BitVec 3)
  | cntpop (rt ra : RegNo) (sz : BitVec 3)
  | com (rt ra : RegNo)
  | abs (rt ra : RegNo) (sz : BitVec 3)
  | not (rt ra : RegNo) (sz : BitVec 3)
  | redor (rt ra : RegNo) (sz : BitVec 3)
  | neg (rt ra : RegNo) (sz : BitVec 3)
  | zxh (rt ra : RegNo)
  | zxc (rt ra : RegNo)
  | zxb (rt ra : RegNo)
  | sxh (rt ra : RegNo)
  | sxc (rt ra : RegNo)
  | sxb (rt ra : RegNo)
  | memdb
  | memsb
  | sync
  | execBuf (n : BitVec 6)
  | chainoff
  | chainon
  | setwb (rn : RegNo)
  | wtme (ra rb : RegNo)
  | rtop (rt ra rb rc : RegNo) (sz : BitVec 3)
  | add3 (rt ra rb rc : RegNo)
  | or3 (rt ra rb rc : RegNo) (sz : BitVec 3)
  | xorOp (op2 : BitVec 6) (sz : BitVec 3) (rt ra rb rc : RegNo)
  | subv (rt ra rb : RegNo)
  | mux (rt ra rb rc : RegNo)
  | cmovez (rt ra rb rc : RegNo)
  | cmovnz (rt ra rb rc : RegNo)
  | caddnz (rt ra rb rc : RegNo)
  | cmovnzi (rt ra rb : RegNo) (imm : BitVec 16)
  | caddnzi (rt ra rb : RegNo) (imm : BitVec 16)
  | min3 (rt ra rb rc : RegNo) (sz : BitVec 3)
  | max3 (rt ra rb rc : RegNo) (sz : BitVec 3)
  | maj (rt ra rb rc : RegNo)
  | bfclr (rt : RegNo) (rg : BitVec 3) (da : BitVec 16) (bw bo : BitVec 6)
  | bfchg (rt : RegNo) (rg : BitVec 3) (da : BitVec 16) (bw bo : BitVec 6)
  | bfins (rt : RegNo) (rg : BitVec 3) (da : BitVec 16) (bw bo : BitVec 6)
  | bfinsi (rt : RegNo) (rg : BitVec 3) (da : BitVec 16) (bw bo : BitVec 6)
  | bfext (rt : RegNo) (rg : BitVec 3) (da : BitVec 16) (bw bo : BitVec 6)
  | bfextu (rt : RegNo) (rg : BitVec 3) (da : BitVec 16) (bw bo : BitVec 6)
  | bfffo (rt : RegNo) (rg : BitVec 3) (da : BitVec 16) (bw bo : BitVec 6)
  | nop (long : Bool)
  -- Memory (43)
  | lb (rt ra : RegNo) (imm : Imm)
  | lbu (rt ra : RegNo) (imm : Imm)
  | lwr (rt ra : RegNo) (imm : Imm)
  | lc (rt ra : RegNo) (disp : Imm)
  | lh (rt ra : RegNo) (disp : Imm)
  | lw (rt ra : RegNo) (disp : Imm)
  | ld (rt ra : RegNo) (disp : Imm)
  | lcu (rt ra : RegNo) (disp : Imm)
  | lhu (rt ra : RegNo) (disp : Imm)
  | lfs (rt ra : RegNo) (disp : Imm)
  | lfd (rt ra : RegNo) (disp : Imm)
  | lfq (rt ra : RegNo) (disp : Imm)
  | lvc (rt ra : RegNo) (disp : Imm)
  | lvh (rt ra : RegNo) (disp : Imm)
  | lvw (rt ra : RegNo) (disp : Imm)
  | lvcu (rt ra : RegNo) (disp : Imm)
  | lvhu (rt ra : RegNo) (disp : Imm)
  | sb (rb ra : RegNo) (disp : Imm)
  | swc (rb ra : RegNo) (disp : Imm)
  | sc (rb ra : RegNo) (disp : Imm)
  | sh (rb ra : RegNo) (disp : Imm)
  | sw (rb ra : RegNo) (disp : Imm)
  | sfs (rb ra : RegNo) (disp : Imm)
  | sfd (rb ra : RegNo) (disp : Imm)
  | sfq (rb ra : RegNo) (disp : Imm)
  | cas (rt ra : RegNo) (disp : BitVec 14)
  | pushc (rt ra : RegNo) (imm : Imm)
  | inc (amt ra : RegNo) (imm : Imm)
  | cache (cmd ra : RegNo) (imm : Imm)
  | lv (vt ra : RegNo) (imm : Imm)
  | sv (vb ra : RegNo) (disp : Imm)
  | lvbx (rt ra rc : RegNo) (sc : BitVec 2)
  | lvbux (rt ra rc : RegNo) (sc : BitVec 2)
  | lvcx (rt ra rc : RegNo) (sc : BitVec 2)
  | lvcux (rt ra rc : RegNo) (sc : BitVec 2)
  | lvhx (rt ra rc : RegNo) (sc : BitVec 2)
  | lvhux (rt ra rc : RegNo) (sc : BitVec 2)
  | lvwx (rt ra rc : RegNo) (sc : BitVec 2)
  | lcx (rt ra rc : RegNo) (sc : BitVec 2)
  | lcux (rt ra rc : RegNo) (sc : BitVec 2)
  | lbux (rt ra rc : RegNo) (sc : BitVec 2)
  | lhx (rt ra rc : RegNo) (sc : BitVec 2)
  | lhux (rt ra rc : RegNo) (sc : BitVec 2)
  | lwx (rt ra rc : RegNo) (sc : BitVec 2)
  | lbx (rt ra rc : RegNo) (sc : BitVec 2)
  | lwrx (rt ra rc : RegNo) (sc : BitVec 2)
  | leax (rt ra rc : RegNo) (sc : BitVec 2)
  | lvx (vt ra vc : RegNo) (sc : BitVec 2)
  | lvws (vt ra rc : RegNo) (sc : BitVec 2)
  | lfsx (rt ra rc : RegNo) (sc : BitVec 2)
  | lfdx (rt ra rc : RegNo) (sc : BitVec 2)
  | cachex (cmd ra rc : RegNo) (sc : BitVec 2)
  | lfqx (rt ra rc : RegNo) (sc : BitVec 2)
  | sbx (rb ra rc : RegNo) (sc : BitVec 2)
  | shx (rb ra rc : RegNo) (sc : BitVec 2)
  | swx (rb ra rc : RegNo) (sc : BitVec 2)
  | swcx (rb ra rc : RegNo) (sc : BitVec 2)
  | scx (rb ra rc : RegNo) (sc : BitVec 2)
  | casx (rt ra rc : RegNo) (sc : BitVec 2)
  | svws (vb ra rc : RegNo) (sc : BitVec 2)
  | incx (amt ra rc : RegNo) (sc : BitVec 2)
  | sfsx (rb ra rc : RegNo) (sc : BitVec 2)
  | sfdx (rb ra rc : RegNo) (sc : BitVec 2)
  | sfqx (rb ra rc : RegNo) (sc : BitVec 2)
  | svx (vb ra vc : RegNo) (sc : BitVec 2)
  | push (rb rt ra : RegNo)
  | amoSwap (rt ra rb : RegNo) (sz : BitVec 3) (acq rel : Bool)
  | amoSwapImm (rt ra : RegNo) (imm : BitVec 5) (sz : BitVec 3) (acq rel : Bool)
  | amoAdd (rt ra rb : RegNo) (sz : BitVec 3) (acq rel : Bool)
  | amoAddImm (rt ra : RegNo) (imm : BitVec 5) (sz : BitVec 3) (acq rel : Bool)
  | amoAnd (rt ra rb : RegNo) (sz : BitVec 3) (acq rel : Bool)
  | amoAndImm (rt ra : RegNo) (imm : BitVec 5) (sz : BitVec 3) (acq rel : Bool)
  | amoOr (rt ra rb : RegNo) (sz : BitVec 3) (acq rel : Bool)
  | amoOrImm (rt ra : RegNo) (imm : BitVec 5) (sz : BitVec 3) (acq rel : Bool)
  | amoXor (rt ra rb : RegNo) (sz : BitVec 3) (acq rel : Bool)
  | amoXorImm (rt ra : RegNo) (imm : BitVec 5) (sz : BitVec 3) (acq rel : Bool)
  | amoShl (rt ra rb : RegNo) (sz : BitVec 3) (acq rel : Bool)
  | amoShlImm (rt ra : RegNo) (imm : BitVec 5) (sz : BitVec 3) (acq rel : Bool)
  | amoShr (rt ra rb : RegNo) (sz : BitVec 3) (acq rel : Bool)
  | amoShrImm (rt ra : RegNo) (imm : BitVec 5) (sz : BitVec 3) (acq rel : Bool)
  | amoMin (rt ra rb : RegNo) (sz : BitVec 3) (acq rel : Bool)
  | amoMinImm (rt ra : RegNo) (imm : BitVec 5) (sz : BitVec 3) (acq rel : Bool)
  | amoMax (rt ra rb : RegNo) (sz : BitVec 3) (acq rel : Bool)
  | amoMaxImm (rt ra : RegNo) (imm : BitVec 5) (sz : BitVec 3) (acq rel : Bool)
  | amoMinu (rt ra rb : RegNo) (sz : BitVec 3) (acq rel : Bool)
  | amoMinuImm (rt ra : RegNo) (imm : BitVec 5) (sz : BitVec 3) (acq rel : Bool)
  | amoMaxu (rt ra rb : RegNo) (sz : BitVec 3) (acq rel : Bool)
  | amoMaxuImm (rt ra : RegNo) (imm : BitVec 5) (sz : BitVec 3) (acq rel : Bool)
  -- Flow control (44)
  | beq (ra rb : RegNo) (disp : BitVec 11)
  | bne (ra rb : RegNo) (disp : BitVec 11)
  | blt (ra rb : RegNo) (disp : BitVec 11)
  | bge (ra rb : RegNo) (disp : BitVec 11)
  | band (ra rb : RegNo) (disp : BitVec 11)
  | bor (ra rb : RegNo) (disp : BitVec 11)
  | bltu (ra rb : RegNo) (disp : BitVec 11)
  | bgeu (ra rb : RegNo) (disp : BitVec 11)
  | fbeq (ra rb : RegNo) (disp : BitVec 11)
  | fbne (ra rb : RegNo) (disp : BitVec 11)
  | fblt (ra rb : RegNo) (disp : BitVec 11)
  | fbge (ra rb : RegNo) (disp : BitVec 11)
  | fbun (ra rb : RegNo) (disp : BitVec 11)
  | bbs (ra : RegNo) (bit : BitVec 6) (disp : BitVec 11)
  | bbc (ra : RegNo) (bit : BitVec 6) (disp : BitVec 11)
  | beqi (ra : RegNo) (imm : BitVec 8) (disp : BitVec 11)
  | bnei (ra : RegNo) (imm : BitVec 8) (disp : BitVec 11)
  | jmp (t : JumpTarget)
  | call (t : JumpTarget)
  | jal (rt ra : RegNo) (t : LinkTarget)
  | ret (lr rt ra : RegNo) (imm : BitVec 9)
  -- System (45)
  | brk (user : BitVec 6) (skip : BitVec 5) (lvl : BitVec 4) (cause : BitVec 8) (long : Bool)
  | brkReg (user : BitVec 6) (skip : BitVec 5) (lvl : BitVec 4) (ra : RegNo) (long : Bool)
  | pfi (user : BitVec 6)
  | csrrd (ol : BitVec 2) (regno : BitVec 10) (rt ra : RegNo)
  | csrrw (ol : BitVec 2) (regno : BitVec 10) (rt ra : RegNo)
  | csrrs (ol : BitVec 2) (regno : BitVec 10) (rt ra : RegNo)
  | csrrc (ol : BitVec 2) (regno : BitVec 10) (rt ra : RegNo)
  | rex (im : BitVec 3) (pl : BitVec 8) (tgt : BitVec 2) (ra : RegNo)
  | sei (rt ra : RegNo) (m : BitVec 4)
  | cli
  | wait (ra rb : RegNo) (imm : BitVec 5)
  | rti (sema : BitVec 6) (ra : RegNo)
  | vmovTo (ct ra : RegNo)
  | vmovFrom (rt ca : RegNo)
  | tlb (cmd tn : BitVec 4) (rt ra : RegNo)
  -- Compressed (46)
  | nop16
  | addisp (amt : BitVec 5)
  | addi16 (rt : RegNo) (amt : BitVec 5)
  | ldi16 (rt : RegNo) (amt : BitVec 5)
  | brk16 (f5 : BitVec 5)
  | pfi16
  | andi16 (rt : RegNo) (amt : BitVec 5)
  | ret16 (amt : BitVec 5)
  | shli16 (rt : RegNo) (amt : BitVec 5)
  | shri16 (q : BitVec 3) (amt : BitVec 5)
  | asri16 (q : BitVec 3) (amt : BitVec 5)
  | ori16 (q : BitVec 3) (amt : BitVec 5)
  | sub16 (q r : BitVec 3)
  | and16 (q r : BitVec 3)
  | or16 (q r : BitVec 3)
  | xor16 (q r : BitVec 3)
  | call16 (addr : BitVec 10)
  | bra16 (disp : BitVec 10)
  | beqz16 (ra : RegNo) (disp : BitVec 7)
  | bnez16 (ra : RegNo) (disp : BitVec 7)
  | mov16 (ra : RegNo) (rt : BitVec 5)
  | add16 (rt : RegNo) (rb : BitVec 5)
  | jalr16 (ra : RegNo) (rt : BitVec 5)
  | push16 (rb : RegNo)
  | lhSp (rt : RegNo) (d : BitVec 5)
  | lwSp (rt : RegNo) (d : BitVec 5)
  | lhFp (rt : RegNo) (d : BitVec 5)
  | lwFp (rt : RegNo) (d : BitVec 5)
  | shSp (rb : RegNo) (d : BitVec 5)
  | swSp (rb : RegNo) (d : BitVec 5)
  | shFp (rb : RegNo) (d : BitVec 5)
  | swFp (rb : RegNo) (d : BitVec 5)
  | lhPr (r q : BitVec 3) (d : BitVec 4)
  | lwPr (r q : BitVec 3) (d : BitVec 4)
  | shPr (r q : BitVec 3) (d : BitVec 4)
  | swPr (r q : BitVec 3) (d : BitVec 4)
  -- Floating point (47)
  | fadd (rt ra rb : RegNo) (f : FpForm)
  | fsub (rt ra rb : RegNo) (f : FpForm)
  | fcmp (rt ra rb : RegNo) (f : FpForm)
  | fmul (rt ra rb : RegNo) (f : FpForm)
  | fdiv (rt ra rb : RegNo) (f : FpForm)
  | fslt (rt ra rb : RegNo) (f : FpForm)
  | fsge (rt ra rb : RegNo) (f : FpForm)
  | fsle (rt ra rb : RegNo) (f : FpForm)
  | fsgt (rt ra rb : RegNo) (f : FpForm)
  | fseq (rt ra rb : RegNo) (f : FpForm)
  | fsne (rt ra rb : RegNo) (f : FpForm)
  | fsun (rt ra rb : RegNo) (f : FpForm)
  | fmov (rt ra : RegNo) (prc : BitVec 4) (rm : BitVec 3) (long : Bool)
  | ftoi (rt ra : RegNo) (prc : BitVec 4) (rm : BitVec 3) (long : Bool)
  | itof (rt ra : RegNo) (fromX : Bool) (prc : BitVec 4) (rm : BitVec 3) (long : Bool)
  | fneg (rt ra : RegNo) (prc : BitVec 4) (rm : BitVec 3) (long : Bool)
  | fabs (rt ra : RegNo) (prc : BitVec 4) (rm : BitVec 3) (long : Bool)
  | fsign (rt ra : RegNo) (prc : BitVec 4) (rm : BitVec 3) (long : Bool)
  | fnabs (rt ra : RegNo) (prc : BitVec 4) (rm : BitVec 3) (long : Bool)
  | fcvtsd (rt ra : RegNo) (prc : BitVec 4) (rm : BitVec 3) (long : Bool)
  | fsqrt (rt ra : RegNo) (prc : BitVec 4) (rm : BitVec 3) (long : Bool)
  | ftx (ra : RegNo) (imm : BitVec 6) (f : FlagForm)
  | fcx (ra : RegNo) (imm : BitVec 6) (f : FlagForm)
  | fex (ra : RegNo) (imm : BitVec 6) (f : FlagForm)
  | fdx (ra : RegNo) (imm : BitVec 6) (f : FlagForm)
  | fsync (f : FlagForm)
  -- Vector (48)
  | vcmprss (fp : Bool) (len : VecLen) (m : BitVec 3) (vt va : RegNo)
  | vcidx (fp : Bool) (len : VecLen) (m : BitVec 3) (vt ra : RegNo)
  | vscan (fp : Bool) (len : VecLen) (m : BitVec 3) (vt ra : RegNo)
  | vabs (fp : Bool) (len : VecLen) (m : BitVec 3) (vt va : RegNo)
  | vadd (fp : Bool) (len : VecLen) (m : BitVec 3) (vt va vb : RegNo)
  | vsub (fp : Bool) (len : VecLen) (m : BitVec 3) (vt va vb : RegNo)
  | vand (fp : Bool) (len : VecLen) (m : BitVec 3) (vt va vb : RegNo)
  | vor (fp : Bool) (len : VecLen) (m : BitVec 3) (vt va vb : RegNo)
  | vxor (fp : Bool) (len : VecLen) (m : BitVec 3) (vt va vb : RegNo)
  | vxchg (fp : Bool) (len : VecLen) (m : BitVec 3) (va vb : RegNo)
  | vshl (fp : Bool) (len : ShiftLen) (m : BitVec 3) (vt va b : RegNo)
  | vshr (fp : Bool) (len : ShiftLen) (m : BitVec 3) (vt va b : RegNo)
  | vasr (fp : Bool) (len : ShiftLen) (m : BitVec 3) (vt va b : RegNo)
  | vshlv (fp : Bool) (len : VecLen) (m : BitVec 3) (vt va amt : RegNo)
  | vshrv (fp : Bool) (len : VecLen) (m : BitVec 3) (vt va amt : RegNo)
  | vadds (fp : Bool) (len : VecLen) (m : BitVec 3) (vt va rb : RegNo)
  | vsubs (fp : Bool) (len : VecLen) (m : BitVec 3) (vt va rb : RegNo)
  | vsubrs (fp : Bool) (len : VecLen) (m : BitVec 3) (vt va rb : RegNo)
  | vands (fp : Bool) (len : VecLen) (m : BitVec 3) (vt va rb : RegNo)
  | vors (fp : Bool) (len : VecLen) (m : BitVec 3) (vt va rb : RegNo)
  | vxors (fp : Bool) (len : VecLen) (m : BitVec 3) (vt va rb : RegNo)
  | vbits2v (fp : Bool) (len : VecLen) (m : BitVec 3) (vt ra : RegNo)
  | v2bits (fp : Bool) (len : VecLen) (m : BitVec 3) (rt va : RegNo)
  | veins (fp : Bool) (len : VecLen) (m : BitVec 3) (vt ra rb : RegNo)
  | vex (fp : Bool) (len : VecLen) (m : BitVec 3) (rt ra vb : RegNo)
  | vflt2int (fp : Bool) (len : VecLen) (m : BitVec 3) (vt va : RegNo)
  | vint2flt (fp : Bool) (len : VecLen) (m : BitVec 3) (vt va : RegNo)
  | vsign (fp : Bool) (len : VecLen) (m : BitVec 3) (vt va : RegNo)
  | vcntpop (fp : Bool) (len : VecLen) (m : BitVec 3) (vt va : RegNo)
  | vmuls (fp : Bool) (len : VecLen) (m : BitVec 3) (vt va rb : RegNo)
  | vdivs (fp : Bool) (len : VecLen) (m : BitVec 3) (vt va rb : RegNo)
  | vmul (fp : Bool) (len : VecLen) (m : BitVec 3) (vt va vb : RegNo)
  | vdiv (fp : Bool) (len : VecLen) (m : BitVec 3) (vt va vb : RegNo)
  | vneg (fp : Bool) (len : VecLen) (m : BitVec 3) (vt va : RegNo)
  | vsxx (fp : Bool) (len : VecLen) (m cn mt : BitVec 3) (va vb : RegNo)
  | vsxxs (fp : Bool) (len : VecLen) (m cn mt : BitVec 3) (va rb : RegNo)
  | vsxxu (len : VecLen) (m cn mt : BitVec 3) (va vb : RegNo)
  | vsxxsu (len : VecLen) (m cn mt : BitVec 3) (va rb : RegNo)
  | vmand (fp : Bool) (mt ma mb : BitVec 3)
  | vmor (fp : Bool) (mt ma mb : BitVec 3)
  | vmxor (fp : Bool) (mt ma mb : BitVec 3)
  | vmxnor (fp : Bool) (mt ma mb : BitVec 3)
  | vmpop (fp : Bool) (rt : RegNo) (ma : BitVec 3)
  | vmfill (fp : Bool) (mt : BitVec 3) (ra : RegNo)
  | vmfirst (fp : Bool) (rt : RegNo) (ma : BitVec 3)
  | vmlast (fp : Bool) (rt : RegNo) (ma : BitVec 3)
  | vsync (fp : Bool)
  deriving DecidableEq, Repr

/-- The mnemonic of the instruction's row in spec/opcode_table.json. -/
def Instr.mnemonic : Instr → String
  | .addi .. => "ADDI"
  | .slti .. => "SLTI"
  | .sltui .. => "SLTUI"
  | .andi .. => "ANDI"
  | .ori .. => "ORI"
  | .xori .. => "XORI"
  | .seqi .. => "SEQI"
  | .sgtui .. => "SGTUI"
  | .sgti .. => "SGTI"
  | .mulfi .. => "MULFI"
  | .modi .. => "MODI"
  | .mului .. => "MULUI"
  | .muli .. => "MULI"
  | .divui .. => "DIVUI"
  | .divi .. => "DIVI"
  | .ldi .. => "LDI"
  | .lui .. => "LUI"
  | .auipc .. => "AUIPC"
  | .addv .. => "ADDV"
  | .add .. => "ADD"
  | .sub .. => "SUB"
  | .slt .. => "SLT"
  | .sltu .. => "SLTU"
  | .and .. => "AND"
  | .or .. => "OR"
  | .xor .. => "XOR"
  | .seq .. => "SEQ"
  | .nand .. => "NAND"
  | .nor .. => "NOR"
  | .xnor .. => "XNOR"
  | .modu .. => "MODU"
  | .modsu .. => "MODSU"
  | .mod .. => "MOD"
  | .ptrdif .. => "PTRDIF"
  | .muluh .. => "MULUH"
  | .mulsuh .. => "MULSUH"
  | .mulh .. => "MULH"
  | .sle .. => "SLE"
  | .sleu .. => "SLEU"
  | .mulf .. => "MULF"
  | .min .. => "MIN"
  | .max .. => "MAX"
  | .mulu .. => "MULU"
  | .mulsu .. => "MULSU"
  | .mul .. => "MUL"
  | .fxmul .. => "FXMUL"
  | .divu .. => "DIVU"
  | .divsu .. => "DIVSU"
  | .div .. => "DIV"
  | .bcdadd .. => "BCDADD"
  | .bcdsub .. => "BCDSUB"
  | .bcdmul .. => "BCDMUL"
  | .mor .. => "MOR"
  | .mxor .. => "MXOR"
  | .mort .. => "MORT"
  | .mxort .. => "MXORT"
  | .mov .. => "MOV"
  | .chk .. => "CHK"
  | .chki .. => "CHK"
  | .shl .. => "SHL"
  | .shlImm .. => "SHL"
  | .shlOp .. => "SHL:[op]"
  | .shr .. => "SHR"
  | .shrImm .. => "SHR"
  | .shrOp .. => "SHR:[op]"
  | .asl .. => "ASL"
  | .aslImm .. => "ASL"
  | .aslOp .. => "ASL:[op]"
  | .asr .. => "ASR"
  | .asrImm .. => "ASR"
  | .asrOp .. => "ASR:[op]"
  | .rol .. => "ROL"
  | .rolImm .. => "ROL"
  | .rolOp .. => "ROL:[op]"
  | .ror .. => "ROR"
  | .rorImm .. => "ROR"
  | .rorOp .. => "ROR:[op]"
  | .cntlz .. => "CNTLZ"
  | .cntlo .. => "CNTLO"
  | .cntpop .. => "CNTPOP"
  | .com .. => "COM"
  | .abs .. => "ABS"
  | .not .. => "NOT"
  | .redor .. => "REDOR"
  | .neg .. => "NEG"
  | .zxh .. => "ZXH"
  | .zxc .. => "ZXC"
  | .zxb .. => "ZXB"
  | .sxh .. => "SXH"
  | .sxc .. => "SXC"
  | .sxb .. => "SXB"
  | .memdb => "MEMDB"
  | .memsb => "MEMSB"
  | .sync => "SYNC"
  | .execBuf .. => "EXEC"
  | .chainoff => "CHAINOFF"
  | .chainon => "CHAINON"
  | .setwb .. => "SETWB"
  | .wtme .. => "WTME"
  | .rtop .. => "RTOP"
  | .add3 .. => "ADD3"
  | .or3 .. => "OR3"
  | .xorOp .. => "XOR:[op]"
  | .subv .. => "SUBV"
  | .mux .. => "MUX"
  | .cmovez .. => "CMOVEZ"
  | .cmovnz .. => "CMOVNZ"
  | .caddnz .. => "CADDNZ"
  | .cmovnzi .. => "CMOVNZI"
  | .caddnzi .. => "CADDNZI"
  | .min3 .. => "MIN3"
  | .max3 .. => "MAX3"
  | .maj .. => "MAJ"
  | .bfclr .. => "BFCLR"
  | .bfchg .. => "BFCHG"
  | .bfins .. => "BFINS"
  | .bfinsi .. => "BFINSI"
  | .bfext .. => "BFEXT"
  | .bfextu .. => "BFEXTU"
  | .bfffo .. => "BFFFO"
  | .nop .. => "NOP"
  | .lb .. => "LB"
  | .lbu .. => "LBU"
  | .lwr .. => "LWR"
  | .lc .. => "LC"
  | .lh .. => "LH"
  | .lw .. => "LW"
  | .ld .. => "LD"
  | .lcu .. => "LCU"
  | .lhu .. => "LHU"
  | .lfs .. => "LFS"
  | .lfd .. => "LFD"
  | .lfq .. => "LFQ"
  | .lvc .. => "LVC"
  | .lvh .. => "LVH"
  | .lvw .. => "LVW"
  | .lvcu .. => "LVCU"
  | .lvhu .. => "LVHU"
  | .sb .. => "SB"
  | .swc .. => "SWC"
  | .sc .. => "SC"
  | .sh .. => "SH"
  | .sw .. => "SW"
  | .sfs .. => "SFS"
  | .sfd .. => "SFD"
  | .sfq .. => "SFQ"
  | .cas .. => "CAS"
  | .pushc .. => "PUSHC"
  | .inc .. => "INC"
  | .cache .. => "CACHE"
  | .lv .. => "LV"
  | .sv .. => "SV"
  | .lvbx .. => "LVBX"
  | .lvbux .. => "LVBUX"
  | .lvcx .. => "LVCX"
  | .lvcux .. => "LVCUX"
  | .lvhx .. => "LVHX"
  | .lvhux .. => "LVHUX"
  | .lvwx .. => "LVWX"
  | .lcx .. => "LCX"
  | .lcux .. => "LCUX"
  | .lbux .. => "LBUX"
  | .lhx .. => "LHX"
  | .lhux .. => "LHUX"
  | .lwx .. => "LWX"
  | .lbx .. => "LBX"
  | .lwrx .. => "LWRX"
  | .leax .. => "LEAX"
  | .lvx .. => "LVX"
  | .lvws .. => "LVWS"
  | .lfsx .. => "LFSX"
  | .lfdx .. => "LFDX"
  | .cachex .. => "CACHEX"
  | .lfqx .. => "LFQX"
  | .sbx .. => "SBX"
  | .shx .. => "SHX"
  | .swx .. => "SWX"
  | .swcx .. => "SWCX"
  | .scx .. => "SCX"
  | .casx .. => "CASX"
  | .svws .. => "SVWS"
  | .incx .. => "INCX"
  | .sfsx .. => "SFSX"
  | .sfdx .. => "SFDX"
  | .sfqx .. => "SFQX"
  | .svx .. => "SVX"
  | .push .. => "PUSH"
  | .amoSwap .. => "AMOSWAP"
  | .amoSwapImm .. => "AMOSWAPI"
  | .amoAdd .. => "AMOADD"
  | .amoAddImm .. => "AMOADDI"
  | .amoAnd .. => "AMOAND"
  | .amoAndImm .. => "AMOANDI"
  | .amoOr .. => "AMOOR"
  | .amoOrImm .. => "AMOORI"
  | .amoXor .. => "AMOXOR"
  | .amoXorImm .. => "AMOXORI"
  | .amoShl .. => "AMOSHL"
  | .amoShlImm .. => "AMOSHLI"
  | .amoShr .. => "AMOSHR"
  | .amoShrImm .. => "AMOSHRI"
  | .amoMin .. => "AMOMIN"
  | .amoMinImm .. => "AMOMINI"
  | .amoMax .. => "AMOMAX"
  | .amoMaxImm .. => "AMOMAXI"
  | .amoMinu .. => "AMOMINU"
  | .amoMinuImm .. => "AMOMINUI"
  | .amoMaxu .. => "AMOMAXU"
  | .amoMaxuImm .. => "AMOMAXUI"
  | .beq .. => "BEQ"
  | .bne .. => "BNE"
  | .blt .. => "BLT"
  | .bge .. => "BGE"
  | .band .. => "BAND"
  | .bor .. => "BOR"
  | .bltu .. => "BLTU"
  | .bgeu .. => "BGEU"
  | .fbeq .. => "FBEQ"
  | .fbne .. => "FBNE"
  | .fblt .. => "FBLT"
  | .fbge .. => "FBGE"
  | .fbun .. => "FBUN"
  | .bbs .. => "BBS"
  | .bbc .. => "BBC"
  | .beqi .. => "BEQI"
  | .bnei .. => "BNEI"
  | .jmp .. => "JMP"
  | .call .. => "CALL"
  | .jal .. => "JAL"
  | .ret .. => "RET"
  | .brk .. => "BRK"
  | .brkReg .. => "BRK"
  | .pfi .. => "PFI"
  | .csrrd .. => "CSRRD"
  | .csrrw .. => "CSRRW"
  | .csrrs .. => "CSRRS"
  | .csrrc .. => "CSRRC"
  | .rex .. => "REX"
  | .sei .. => "SEI"
  | .cli => "CLI"
  | .wait .. => "WAIT"
  | .rti .. => "RTI"
  | .vmovTo .. => "VMOV"
  | .vmovFrom .. => "VMOV"
  | .tlb .. => "TLB"
  | .nop16 => "NOP"
  | .addisp .. => "ADDISP"
  | .addi16 .. => "ADDI"
  | .ldi16 .. => "LDI"
  | .brk16 .. => "BRK"
  | .pfi16 => "PFI"
  | .andi16 .. => "ANDI"
  | .ret16 .. => "RET"
  | .shli16 .. => "SHLI"
  | .shri16 .. => "SHRI"
  | .asri16 .. => "ASRI"
  | .ori16 .. => "ORI"
  | .sub16 .. => "SUB"
  | .and16 .. => "AND"
  | .or16 .. => "OR"
  | .xor16 .. => "XOR"
  | .call16 .. => "CALL"
  | .bra16 .. => "BRA"
  | .beqz16 .. => "BEQZ"
  | .bnez16 .. => "BNEZ"
  | .mov16 .. => "MOV"
  | .add16 .. => "ADD"
  | .jalr16 .. => "JALR"
  | .push16 .. => "PUSH"
  | .lhSp .. => "LH"
  | .lwSp .. => "LW"
  | .lhFp .. => "LH"
  | .lwFp .. => "LW"
  | .shSp .. => "SH"
  | .swSp .. => "SW"
  | .shFp .. => "SH"
  | .swFp .. => "SW"
  | .lhPr .. => "LH"
  | .lwPr .. => "LW"
  | .shPr .. => "SH"
  | .swPr .. => "SW"
  | .fadd .. => "FADD"
  | .fsub .. => "FSUB"
  | .fcmp .. => "FCMP"
  | .fmul .. => "FMUL"
  | .fdiv .. => "FDIV"
  | .fslt .. => "FSLT"
  | .fsge .. => "FSGE"
  | .fsle .. => "FSLE"
  | .fsgt .. => "FSGT"
  | .fseq .. => "FSEQ"
  | .fsne .. => "FSNE"
  | .fsun .. => "FSUN"
  | .fmov .. => "FMOV"
  | .ftoi .. => "FTOI"
  | .itof .. => "ITOF"
  | .fneg .. => "FNEG"
  | .fabs .. => "FABS"
  | .fsign .. => "FSIGN"
  | .fnabs .. => "FNABS"
  | .fcvtsd .. => "FCVTSD"
  | .fsqrt .. => "FSQRT"
  | .ftx .. => "FTX"
  | .fcx .. => "FCX"
  | .fex .. => "FEX"
  | .fdx .. => "FDX"
  | .fsync .. => "FSYNC"
  | .vcmprss .. => "VCMPRSS"
  | .vcidx .. => "VCIDX"
  | .vscan .. => "VSCAN"
  | .vabs .. => "VABS"
  | .vadd .. => "VADD"
  | .vsub .. => "VSUB"
  | .vand .. => "VAND"
  | .vor .. => "VOR"
  | .vxor .. => "VXOR"
  | .vxchg .. => "VXCHG"
  | .vshl .. => "VSHL"
  | .vshr .. => "VSHR"
  | .vasr .. => "VASR"
  | .vshlv .. => "VSHLV"
  | .vshrv .. => "VSHRV"
  | .vadds .. => "VADDS"
  | .vsubs .. => "VSUBS"
  | .vsubrs .. => "VSUBRS"
  | .vands .. => "VANDS"
  | .vors .. => "VORS"
  | .vxors .. => "VXORS"
  | .vbits2v .. => "VBITS2V"
  | .v2bits .. => "V2BITS"
  | .veins .. => "VEINS"
  | .vex .. => "VEX"
  | .vflt2int .. => "VFLT2INT"
  | .vint2flt .. => "VINT2FLT"
  | .vsign .. => "VSIGN"
  | .vcntpop .. => "VCNTPOP"
  | .vmuls .. => "VMULS"
  | .vdivs .. => "VDIVS"
  | .vmul .. => "VMUL"
  | .vdiv .. => "VDIV"
  | .vneg .. => "VNEG"
  | .vsxx .. => "VSxx"
  | .vsxxs .. => "VSxxS"
  | .vsxxu .. => "VSxxU"
  | .vsxxsu .. => "VSxxSU"
  | .vmand .. => "VMAND"
  | .vmor .. => "VMOR"
  | .vmxor .. => "VMXOR"
  | .vmxnor .. => "VMXNOR"
  | .vmpop .. => "VMPOP"
  | .vmfill .. => "VMFILL"
  | .vmfirst .. => "VMFIRST"
  | .vmlast .. => "VMLAST"
  | .vsync .. => "VSYNC"

end Sys2Proof
end

