-- ==== Sys2Proof/WellFormed.lean ====
section
/-! DEFINITION. Which terms of Instr are instructions: the side conditions between fields. A term that fails one has no
encoding of its own: its word is another instruction's (an alias row of the opcode table is the one meant, 30_encoding
R221), or its displacement does not fit the size code (30_encoding R256). -/

namespace Sys2Proof

/-- The immediate as a number, before extension. -/
def Imm.nat : Imm → Nat
  | .short v => v.toNat
  | .long v => v.toNat

/-- The side conditions of a term: a displacement of a size-coded access is a multiple of the size (R256); ORI with
Ra = r0 is LDI (R264); SEI #0 with r0, r0 is CLI; BRK with S = 2, IL = 0 and cause 255 is PFI; the compressed ADDI,
LDI and ANDI rows have the NOP, ADDISP, BRK and RET words cut out (R242); VSUBRS with Rb = 0 is VNEG. -/
def Instr.wellFormed : Instr → Bool
  | .addi .. => true
  | .slti .. => true
  | .sltui .. => true
  | .andi .. => true
  | .ori _ ra _ => decide (ra ≠ 0)
  | .xori .. => true
  | .seqi .. => true
  | .sgtui .. => true
  | .sgti .. => true
  | .mulfi .. => true
  | .modi .. => true
  | .mului .. => true
  | .muli .. => true
  | .divui .. => true
  | .divi .. => true
  | .ldi .. => true
  | .lui .. => true
  | .auipc .. => true
  | .addv .. => true
  | .add .. => true
  | .sub .. => true
  | .slt .. => true
  | .sltu .. => true
  | .and .. => true
  | .or .. => true
  | .xor .. => true
  | .seq .. => true
  | .nand .. => true
  | .nor .. => true
  | .xnor .. => true
  | .modu .. => true
  | .modsu .. => true
  | .mod .. => true
  | .ptrdif .. => true
  | .muluh .. => true
  | .mulsuh .. => true
  | .mulh .. => true
  | .sle .. => true
  | .sleu .. => true
  | .mulf .. => true
  | .min .. => true
  | .max .. => true
  | .mulu .. => true
  | .mulsu .. => true
  | .mul .. => true
  | .fxmul .. => true
  | .divu .. => true
  | .divsu .. => true
  | .div .. => true
  | .bcdadd .. => true
  | .bcdsub .. => true
  | .bcdmul .. => true
  | .mor .. => true
  | .mxor .. => true
  | .mort .. => true
  | .mxort .. => true
  | .mov .. => true
  | .chk .. => true
  | .chki .. => true
  | .shl .. => true
  | .shlImm .. => true
  | .shlOp .. => true
  | .shr .. => true
  | .shrImm .. => true
  | .shrOp .. => true
  | .asl .. => true
  | .aslImm .. => true
  | .aslOp .. => true
  | .asr .. => true
  | .asrImm .. => true
  | .asrOp .. => true
  | .rol .. => true
  | .rolImm .. => true
  | .rolOp .. => true
  | .ror .. => true
  | .rorImm .. => true
  | .rorOp .. => true
  | .cntlz .. => true
  | .cntlo .. => true
  | .cntpop .. => true
  | .com .. => true
  | .abs .. => true
  | .not .. => true
  | .redor .. => true
  | .neg .. => true
  | .zxh .. => true
  | .zxc .. => true
  | .zxb .. => true
  | .sxh .. => true
  | .sxc .. => true
  | .sxb .. => true
  | .memdb => true
  | .memsb => true
  | .sync => true
  | .execBuf .. => true
  | .chainoff => true
  | .chainon => true
  | .setwb .. => true
  | .wtme .. => true
  | .rtop .. => true
  | .add3 .. => true
  | .or3 .. => true
  | .xorOp .. => true
  | .subv .. => true
  | .mux .. => true
  | .cmovez .. => true
  | .cmovnz .. => true
  | .caddnz .. => true
  | .cmovnzi .. => true
  | .caddnzi .. => true
  | .min3 .. => true
  | .max3 .. => true
  | .maj .. => true
  | .bfclr .. => true
  | .bfchg .. => true
  | .bfins .. => true
  | .bfinsi .. => true
  | .bfext .. => true
  | .bfextu .. => true
  | .bfffo .. => true
  | .nop .. => true
  | .lb .. => true
  | .lbu .. => true
  | .lwr .. => true
  | .lc _ _ disp => decide (disp.nat % 2 = 0)
  | .lh _ _ disp => decide (disp.nat % 4 = 0)
  | .lw _ _ disp => decide (disp.nat % 8 = 0)
  | .ld _ _ disp => decide (disp.nat % 16 = 0)
  | .lcu _ _ disp => decide (disp.nat % 2 = 0)
  | .lhu _ _ disp => decide (disp.nat % 4 = 0)
  | .lfs _ _ disp => decide (disp.nat % 4 = 0)
  | .lfd _ _ disp => decide (disp.nat % 8 = 0)
  | .lfq _ _ disp => decide (disp.nat % 16 = 0)
  | .lvc _ _ disp => decide (disp.nat % 2 = 0)
  | .lvh _ _ disp => decide (disp.nat % 4 = 0)
  | .lvw _ _ disp => decide (disp.nat % 8 = 0)
  | .lvcu _ _ disp => decide (disp.nat % 2 = 0)
  | .lvhu _ _ disp => decide (disp.nat % 4 = 0)
  | .sb .. => true
  | .swc .. => true
  | .sc _ _ disp => decide (disp.nat % 2 = 0)
  | .sh _ _ disp => decide (disp.nat % 4 = 0)
  | .sw _ _ disp => decide (disp.nat % 8 = 0)
  | .sfs _ _ disp => decide (disp.nat % 4 = 0)
  | .sfd _ _ disp => decide (disp.nat % 8 = 0)
  | .sfq _ _ disp => decide (disp.nat % 16 = 0)
  | .cas .. => true
  | .pushc .. => true
  | .inc .. => true
  | .cache .. => true
  | .lv .. => true
  | .sv .. => true
  | .lvbx .. => true
  | .lvbux .. => true
  | .lvcx .. => true
  | .lvcux .. => true
  | .lvhx .. => true
  | .lvhux .. => true
  | .lvwx .. => true
  | .lcx .. => true
  | .lcux .. => true
  | .lbux .. => true
  | .lhx .. => true
  | .lhux .. => true
  | .lwx .. => true
  | .lbx .. => true
  | .lwrx .. => true
  | .leax .. => true
  | .lvx .. => true
  | .lvws .. => true
  | .lfsx .. => true
  | .lfdx .. => true
  | .cachex .. => true
  | .lfqx .. => true
  | .sbx .. => true
  | .shx .. => true
  | .swx .. => true
  | .swcx .. => true
  | .scx .. => true
  | .casx .. => true
  | .svws .. => true
  | .incx .. => true
  | .sfsx .. => true
  | .sfdx .. => true
  | .sfqx .. => true
  | .svx .. => true
  | .push .. => true
  | .amoSwap .. => true
  | .amoSwapImm .. => true
  | .amoAdd .. => true
  | .amoAddImm .. => true
  | .amoAnd .. => true
  | .amoAndImm .. => true
  | .amoOr .. => true
  | .amoOrImm .. => true
  | .amoXor .. => true
  | .amoXorImm .. => true
  | .amoShl .. => true
  | .amoShlImm .. => true
  | .amoShr .. => true
  | .amoShrImm .. => true
  | .amoMin .. => true
  | .amoMinImm .. => true
  | .amoMax .. => true
  | .amoMaxImm .. => true
  | .amoMinu .. => true
  | .amoMinuImm .. => true
  | .amoMaxu .. => true
  | .amoMaxuImm .. => true
  | .beq .. => true
  | .bne .. => true
  | .blt .. => true
  | .bge .. => true
  | .band .. => true
  | .bor .. => true
  | .bltu .. => true
  | .bgeu .. => true
  | .fbeq .. => true
  | .fbne .. => true
  | .fblt .. => true
  | .fbge .. => true
  | .fbun .. => true
  | .bbs .. => true
  | .bbc .. => true
  | .beqi .. => true
  | .bnei .. => true
  | .jmp .. => true
  | .call .. => true
  | .jal .. => true
  | .ret .. => true
  | .brk _ skip lvl cause long => decide (¬ (long = false ∧ skip = 2 ∧ lvl = 0 ∧ cause = 255))
  | .brkReg .. => true
  | .pfi .. => true
  | .csrrd .. => true
  | .csrrw .. => true
  | .csrrs .. => true
  | .csrrc .. => true
  | .rex .. => true
  | .sei rt ra m => decide (¬ (rt = 0 ∧ ra = 0 ∧ m = 0))
  | .cli => true
  | .wait .. => true
  | .rti .. => true
  | .vmovTo .. => true
  | .vmovFrom .. => true
  | .tlb .. => true
  | .nop16 => true
  | .addisp .. => true
  | .addi16 rt amt => decide (rt ≠ 31 ∧ ¬ (rt = 0 ∧ amt = 0))
  | .ldi16 rt _ => decide (rt ≠ 0)
  | .brk16 f5 => decide (f5 ≠ 31)
  | .pfi16 => true
  | .andi16 rt _ => decide (rt ≠ 0)
  | .ret16 .. => true
  | .shli16 .. => true
  | .shri16 .. => true
  | .asri16 .. => true
  | .ori16 .. => true
  | .sub16 .. => true
  | .and16 .. => true
  | .or16 .. => true
  | .xor16 .. => true
  | .call16 .. => true
  | .bra16 .. => true
  | .beqz16 .. => true
  | .bnez16 .. => true
  | .mov16 .. => true
  | .add16 .. => true
  | .jalr16 .. => true
  | .push16 .. => true
  | .lhSp .. => true
  | .lwSp .. => true
  | .lhFp .. => true
  | .lwFp .. => true
  | .shSp .. => true
  | .swSp .. => true
  | .shFp .. => true
  | .swFp .. => true
  | .lhPr .. => true
  | .lwPr .. => true
  | .shPr .. => true
  | .swPr .. => true
  | .fadd .. => true
  | .fsub .. => true
  | .fcmp .. => true
  | .fmul .. => true
  | .fdiv .. => true
  | .fslt .. => true
  | .fsge .. => true
  | .fsle .. => true
  | .fsgt .. => true
  | .fseq .. => true
  | .fsne .. => true
  | .fsun .. => true
  | .fmov .. => true
  | .ftoi .. => true
  | .itof .. => true
  | .fneg .. => true
  | .fabs .. => true
  | .fsign .. => true
  | .fnabs .. => true
  | .fcvtsd .. => true
  | .fsqrt .. => true
  | .ftx .. => true
  | .fcx .. => true
  | .fex .. => true
  | .fdx .. => true
  | .fsync .. => true
  | .vcmprss .. => true
  | .vcidx .. => true
  | .vscan .. => true
  | .vabs .. => true
  | .vadd .. => true
  | .vsub .. => true
  | .vand .. => true
  | .vor .. => true
  | .vxor .. => true
  | .vxchg .. => true
  | .vshl .. => true
  | .vshr .. => true
  | .vasr .. => true
  | .vshlv .. => true
  | .vshrv .. => true
  | .vadds .. => true
  | .vsubs .. => true
  | .vsubrs _ _ _ _ _ rb => decide (rb ≠ 0)
  | .vands .. => true
  | .vors .. => true
  | .vxors .. => true
  | .vbits2v .. => true
  | .v2bits .. => true
  | .veins .. => true
  | .vex .. => true
  | .vflt2int .. => true
  | .vint2flt .. => true
  | .vsign .. => true
  | .vcntpop .. => true
  | .vmuls .. => true
  | .vdivs .. => true
  | .vmul .. => true
  | .vdiv .. => true
  | .vneg .. => true
  | .vsxx .. => true
  | .vsxxs .. => true
  | .vsxxu .. => true
  | .vsxxsu .. => true
  | .vmand .. => true
  | .vmor .. => true
  | .vmxor .. => true
  | .vmxnor .. => true
  | .vmpop .. => true
  | .vmfill .. => true
  | .vmfirst .. => true
  | .vmlast .. => true
  | .vsync .. => true

/-- The term is an instruction. -/
abbrev Instr.WellFormed (i : Instr) : Prop := i.wellFormed = true

end Sys2Proof
end

