-- ==== Sys2Proof/Decode.lean ====
section
/-! DEFINITION. Decoding and encoding: 30_encoding R220 to R258, 46_compressed R700, 48_vector R841 to R901. An
instruction word is a natural number, bit 0 of the word the bit 0 of the instruction. The decoder is total: a pattern
that no row of the maps assigns is rejected with the map's name (reserved, R258). Bits the maps print as unused are
ignored (R259). A reserved value of a field that is not part of a row's pattern (a precision, an element size, a TLB or
cache command) is decoded and treated by the instruction's meaning. The FBcc opcode is a parameter, fb (R255). The
encoder follows. -/

namespace Sys2Proof

/-- Why a word is no instruction: the map that has no row for it (30_encoding R258). -/
inductive DecodeError where
  /-- fewer bytes than the length field asks for -/
  | truncated
  /-- a blank major opcode, R243 -/
  | major
  /-- a major opcode without a form of this length, R243 -/
  | length
  /-- the register-register map, R244 -/
  | registerRegister
  /-- the single-operand map, R245 -/
  | single
  /-- the 48-bit register-register map, R246 -/
  | registerRegister48
  /-- the indexed-memory map, R247 -/
  | indexed
  /-- the shift map, R248 -/
  | shift
  /-- the floating-point map, R249 -/
  | float
  /-- the vector map, R250 -/
  | vector
  /-- the bitfield map, R252 -/
  | bitfield
  /-- the atomic map, R253 -/
  | atomic
  /-- the BCD map, R254 -/
  | bcd
  /-- a branch condition, R255 -/
  | branch
  /-- a size code, R256 -/
  | size
  /-- a VMOV direction, 48_vector R900 -/
  | vmov
  /-- the compressed table, R242 -/
  | compressed
  deriving DecidableEq, Repr

/-- What decoding gives. -/
abbrev Decoded := Except DecodeError Instr

/-- n bits of a word from bit lo upward. -/
def fld (w lo n : Nat) : BitVec n := BitVec.ofNat n (w >>> lo)

/-- n bits of a word from bit lo upward, as a number. -/
def fldNat (w lo n : Nat) : Nat := (w >>> lo) % 2 ^ n

/-! The common fields: R222. -/

def fRa (w : Nat) : RegNo := fld w 8 5
def fRt (w : Nat) : RegNo := fld w 13 5
def fRb (w : Nat) : RegNo := fld w 18 5
def fRc (w : Nat) : RegNo := fld w 23 5
def fSz (w : Nat) : BitVec 3 := fld w 23 3
def fSz48 (w : Nat) : BitVec 3 := fld w 28 3

/-! Lean's runtime cannot build a value of an inductive type from a constructor numbered above 244 that has fields, so
the definitions that build instructions have no compiled code; the kernel evaluates them. -/

noncomputable section

/-- A form that exists at 32 bits only (R243). -/
def only32 (long : Bool) (i : Instr) : Decoded := if long then .error .length else .ok i

/-- The immediate of format RI (R224). -/
def fImm (long : Bool) (w : Nat) : Imm := if long then .long (fld w 18 30) else .short (fld w 18 14)

/-- The displacement of format MS, as a number (R226). -/
def fDispNat (w : Nat) : Nat := (w >>> 23) * 32 + (w >>> 13) % 32

/-- The displacement of format MS (R226). -/
def fDisp (long : Bool) (w : Nat) : Imm :=
  if long then .long (BitVec.ofNat 30 (fDispNat w)) else .short (BitVec.ofNat 14 (fDispNat w))

/-- The immediate of format LUI (R225). -/
def fUpper (long : Bool) (w : Nat) : UpperImm :=
  if long then .long (BitVec.ofNat 35 ((w >>> 18) * 32 + (w >>> 8) % 32))
  else .short (BitVec.ofNat 19 ((w >>> 18) * 32 + (w >>> 8) % 32))

/-- The size code of a displacement field: 1 char, 2 half, 3 word, 4 double word, 0 none (R256). -/
def sizeCode (f : Nat) : Nat :=
  if f % 2 = 1 then 1 else if f % 4 = 2 then 2 else if f % 8 = 4 then 3 else if f % 16 = 8 then 4 else 0

/-- A size-coded displacement field f with its low k bits cleared (R256). -/
def sizedImm (long : Bool) (f k : Nat) : Imm :=
  if long then .long (BitVec.ofNat 30 (f / 2 ^ k * 2 ^ k)) else .short (BitVec.ofNat 14 (f / 2 ^ k * 2 ^ k))

/-- The displacement of a size-coded load (R256): format RI. -/
def fSzImm (long : Bool) (w k : Nat) : Imm := sizedImm long (w >>> 18) k

/-- The displacement of a size-coded store (R256): format MS. -/
def fSzDisp (long : Bool) (w k : Nat) : Imm := sizedImm long (fDispNat w) k

/-- The size-coded loads of opcode 20h (R256). -/
def decLoad20 (long : Bool) (w : Nat) : Decoded :=
  match sizeCode (w >>> 18) with
  | 1 => .ok (.lc (fRt w) (fRa w) (fSzImm long w 1))
  | 2 => .ok (.lh (fRt w) (fRa w) (fSzImm long w 2))
  | 3 => .ok (.lw (fRt w) (fRa w) (fSzImm long w 3))
  | 4 => .ok (.ld (fRt w) (fRa w) (fSzImm long w 4))
  | _ => .error .size

/-- The size-coded loads of opcode 21h (R256). -/
def decLoad21 (long : Bool) (w : Nat) : Decoded :=
  match sizeCode (w >>> 18) with
  | 1 => .ok (.lcu (fRt w) (fRa w) (fSzImm long w 1))
  | 2 => .ok (.lhu (fRt w) (fRa w) (fSzImm long w 2))
  | _ => .error .size

/-- The size-coded loads of opcode 1Bh (R256). -/
def decLoad1B (long : Bool) (w : Nat) : Decoded :=
  match sizeCode (w >>> 18) with
  | 2 => .ok (.lfs (fRt w) (fRa w) (fSzImm long w 2))
  | 3 => .ok (.lfd (fRt w) (fRa w) (fSzImm long w 3))
  | 4 => .ok (.lfq (fRt w) (fRa w) (fSzImm long w 4))
  | _ => .error .size

/-- The size-coded loads of opcode 3Bh (R256). -/
def decLoad3B (long : Bool) (w : Nat) : Decoded :=
  match sizeCode (w >>> 18) with
  | 1 => .ok (.lvc (fRt w) (fRa w) (fSzImm long w 1))
  | 2 => .ok (.lvh (fRt w) (fRa w) (fSzImm long w 2))
  | 3 => .ok (.lvw (fRt w) (fRa w) (fSzImm long w 3))
  | _ => .error .size

/-- The size-coded loads of opcode 11h (R256). -/
def decLoad11 (long : Bool) (w : Nat) : Decoded :=
  match sizeCode (w >>> 18) with
  | 1 => .ok (.lvcu (fRt w) (fRa w) (fSzImm long w 1))
  | 2 => .ok (.lvhu (fRt w) (fRa w) (fSzImm long w 2))
  | _ => .error .size

/-- The size-coded stores of opcode 24h (R256). -/
def decStore24 (long : Bool) (w : Nat) : Decoded :=
  match sizeCode (fDispNat w) with
  | 1 => .ok (.sc (fRb w) (fRa w) (fSzDisp long w 1))
  | 2 => .ok (.sh (fRb w) (fRa w) (fSzDisp long w 2))
  | 3 => .ok (.sw (fRb w) (fRa w) (fSzDisp long w 3))
  | _ => .error .size

/-- The size-coded stores of opcode 2Bh (R256). -/
def decStore2B (long : Bool) (w : Nat) : Decoded :=
  match sizeCode (fDispNat w) with
  | 2 => .ok (.sfs (fRb w) (fRa w) (fSzDisp long w 2))
  | 3 => .ok (.sfd (fRb w) (fRa w) (fSzDisp long w 3))
  | 4 => .ok (.sfq (fRb w) (fRa w) (fSzDisp long w 4))
  | _ => .error .size

/-- Opcode 00h: BRK and PFI (R237); the 48-bit word is BRK with bits 47:32 ignored (45_system R631 (b), log 24). -/
def decBrk (long : Bool) (w : Nat) : Decoded :=
  if fldNat w 16 1 = 1 then .ok (.brkReg (fld w 26 6) (fld w 21 5) (fld w 17 4) (fRa w) long)
  else if long = false ∧ fldNat w 8 18 = 0x40FF then .ok (.pfi (fld w 26 6))
  else .ok (.brk (fld w 26 6) (fld w 21 5) (fld w 17 4) (fld w 8 8) long)

/-- The single-operand group (R245). DESIGN CHOICE (log 54): values in bits 25:23 of SETWB and of the rest of the system
group, which R240 and part 7 of 45_system give as 0, are ignored. -/
def decSingle (w : Nat) : Decoded :=
  match fldNat w 18 5 with
  | 0x00 => .ok (.cntlz (fRt w) (fRa w) (fSz w))
  | 0x01 => .ok (.cntlo (fRt w) (fRa w) (fSz w))
  | 0x02 => .ok (.cntpop (fRt w) (fRa w) (fSz w))
  | 0x03 => .ok (.com (fRt w) (fRa w))
  | 0x04 => .ok (.abs (fRt w) (fRa w) (fSz w))
  | 0x05 => .ok (.not (fRt w) (fRa w) (fSz w))
  | 0x06 => .ok (.redor (fRt w) (fRa w) (fSz w))
  | 0x07 => .ok (.neg (fRt w) (fRa w) (fSz w))
  | 0x08 => .ok (.zxh (fRt w) (fRa w))
  | 0x09 => .ok (.zxc (fRt w) (fRa w))
  | 0x0A => .ok (.zxb (fRt w) (fRa w))
  | 0x10 => .ok .memdb
  | 0x11 => .ok .memsb
  | 0x12 => .ok .sync
  | 0x13 => .ok (.execBuf (fld w 8 6))
  | 0x14 => .ok .chainoff
  | 0x15 => .ok .chainon
  | 0x16 => .ok (.setwb (fRa w))
  | 0x18 => .ok (.sxh (fRt w) (fRa w))
  | 0x19 => .ok (.sxc (fRt w) (fRa w))
  | 0x1A => .ok (.sxb (fRt w) (fRa w))
  | 0x1D => .ok (.wtme (fRa w) (fRt w))
  | _ => .error .single

/-- The BCD group (R254). -/
def decBcd (w : Nat) : Decoded :=
  match fldNat w 23 3 with
  | 0 => .ok (.bcdadd (fRt w) (fRa w) (fRb w))
  | 1 => .ok (.bcdsub (fRt w) (fRa w) (fRb w))
  | 2 => .ok (.bcdmul (fRt w) (fRa w) (fRb w))
  | _ => .error .bcd

/-- Bit matrix multiply (R240): bit 25 is unused. -/
def decBmm (w : Nat) : Decoded :=
  match fldNat w 23 2 with
  | 0 => .ok (.mor (fRt w) (fRa w) (fRb w))
  | 1 => .ok (.mxor (fRt w) (fRa w) (fRb w))
  | 2 => .ok (.mort (fRt w) (fRa w) (fRb w))
  | _ => .ok (.mxort (fRt w) (fRa w) (fRb w))

/-- Shifts with the count in a register (R248). -/
def decShiftReg (w : Nat) : Decoded :=
  match fldNat w 23 3 with
  | 0 => .ok (.shl (fRt w) (fRa w) (fRb w))
  | 1 => .ok (.shr (fRt w) (fRa w) (fRb w))
  | 2 => .ok (.asl (fRt w) (fRa w) (fRb w))
  | 3 => .ok (.asr (fRt w) (fRa w) (fRb w))
  | 4 => .ok (.rol (fRt w) (fRa w) (fRb w))
  | 5 => .ok (.ror (fRt w) (fRa w) (fRb w))
  | _ => .error .shift

/-- Shifts by an immediate count of hi + I[22:18] (R230, R248). -/
def decShiftImm (hi w : Nat) : Decoded :=
  match fldNat w 23 3 with
  | 0 => .ok (.shlImm (fRt w) (fRa w) (BitVec.ofNat 6 (hi + fldNat w 18 5)))
  | 1 => .ok (.shrImm (fRt w) (fRa w) (BitVec.ofNat 6 (hi + fldNat w 18 5)))
  | 2 => .ok (.aslImm (fRt w) (fRa w) (BitVec.ofNat 6 (hi + fldNat w 18 5)))
  | 3 => .ok (.asrImm (fRt w) (fRa w) (BitVec.ofNat 6 (hi + fldNat w 18 5)))
  | 4 => .ok (.rolImm (fRt w) (fRa w) (BitVec.ofNat 6 (hi + fldNat w 18 5)))
  | 5 => .ok (.rorImm (fRt w) (fRa w) (BitVec.ofNat 6 (hi + fldNat w 18 5)))
  | _ => .error .shift

/-- SEI, of which CLI is the word with M4, Rt and Ra zero (R264). -/
def decSei (w : Nat) : Decoded :=
  if fldNat w 8 14 = 0 then .ok .cli else .ok (.sei (fRt w) (fRa w) (fld w 18 4))

/-- VMOV (R240, 48_vector R900). -/
def decVmov (w : Nat) : Decoded :=
  match fldNat w 18 5 with
  | 0 => .ok (.vmovTo (fRt w) (fRa w))
  | 1 => .ok (.vmovFrom (fRt w) (fRa w))
  | _ => .error .vmov

/-- The register-register group, 32 bits (R244). -/
def decRR (w : Nat) : Decoded :=
  match fldNat w 26 6 with
  | 0x00 => decBcd w
  | 0x01 => decSingle w
  | 0x02 => .ok (.addv (fRt w) (fRa w) (fRb w) false)
  | 0x03 => decBmm w
  | 0x04 => .ok (.add (fRt w) (fRa w) (fRb w) (fSz w))
  | 0x05 => .ok (.sub (fRt w) (fRa w) (fRb w) (fSz w))
  | 0x06 => .ok (.slt (fRt w) (fRa w) (fRb w) (fSz w))
  | 0x07 => .ok (.sltu (fRt w) (fRa w) (fRb w) (fSz w))
  | 0x08 => .ok (.and (fRt w) (fRa w) (fRb w) (fSz w))
  | 0x09 => .ok (.or (fRt w) (fRa w) (fRb w) (fSz w))
  | 0x0A => .ok (.xor (fRt w) (fRa w) (fRb w) (fSz w))
  | 0x0B => .ok (.seq (fRt w) (fRa w) (fRb w) (fSz w))
  | 0x0C => .ok (.nand (fRt w) (fRa w) (fRb w))
  | 0x0D => .ok (.nor (fRt w) (fRa w) (fRb w))
  | 0x0E => .ok (.xnor (fRt w) (fRa w) (fRb w))
  | 0x0F => decShiftImm 0 w
  | 0x14 => .ok (.modu (fRt w) (fRa w) (fRb w) (fSz w))
  | 0x15 => .ok (.modsu (fRt w) (fRa w) (fRb w) (fSz w))
  | 0x16 => .ok (.mod (fRt w) (fRa w) (fRb w) (fSz w))
  | 0x1E => .ok (.ptrdif (fRt w) (fRa w) (fRb w) (fSz w))
  | 0x1F => decShiftImm 32 w
  | 0x22 => .ok (.mov (fSz w) (BitVec.ofNat 6 (fldNat w 18 5)) (fRt w) (fRa w))
  | 0x23 => .ok (.mov (fSz w) (BitVec.ofNat 6 (32 + fldNat w 18 5)) (fRt w) (fRa w))
  | 0x24 => .ok (.muluh (fRt w) (fRa w) (fRb w) (fSz w))
  | 0x25 => .ok (.mulsuh (fRt w) (fRa w) (fRb w) (fSz w))
  | 0x26 => .ok (.mulh (fRt w) (fRa w) (fRb w) (fSz w))
  | 0x28 => .ok (.sle (fRt w) (fRa w) (fRb w) (fSz w))
  | 0x29 => .ok (.sleu (fRt w) (fRa w) (fRb w) (fSz w))
  | 0x2A => .ok (.mulf (fRt w) (fRa w) (fRb w) (fSz w))
  | 0x2C => .ok (.min (fRt w) (fRa w) (fRb w) (fSz w))
  | 0x2D => .ok (.max (fRt w) (fRa w) (fRb w) (fSz w))
  | 0x2F => decShiftReg w
  | 0x30 => decSei w
  | 0x31 => .ok (.wait (fRa w) (fRt w) (fRb w))
  | 0x32 => .ok (.rti (fld w 18 6) (fRa w))
  | 0x33 => decVmov w
  | 0x34 => .ok (.chk (fRa w) (fRt w) (fRb w))
  | 0x38 => .ok (.mulu (fRt w) (fRa w) (fRb w) (fSz w))
  | 0x39 => .ok (.mulsu (fRt w) (fRa w) (fRb w) (fSz w))
  | 0x3A => .ok (.mul (fRt w) (fRa w) (fRb w) (fSz w))
  | 0x3B => .ok (.fxmul (fRt w) (fRa w) (fRb w) (fSz w))
  | 0x3C => .ok (.divu (fRt w) (fRa w) (fRb w) (fSz w))
  | 0x3D => .ok (.divsu (fRt w) (fRa w) (fRb w) (fSz w))
  | 0x3E => .ok (.div (fRt w) (fRa w) (fRb w) (fSz w))
  | 0x3F => .ok (.tlb (fld w 22 4) (fld w 18 4) (fRt w) (fRa w))
  | _ => .error .registerRegister

/-- The count of a 48-bit shift (R230). -/
def fCount (w : Nat) : ShiftCount :=
  if fldNat w 29 1 = 1 then .imm (BitVec.ofNat 6 (fldNat w 28 1 * 32 + fldNat w 18 5)) else .reg (fRb w)

/-- Shifts with a second operation (R230). -/
def decShift48 (w : Nat) : Decoded :=
  match fldNat w 33 3 with
  | 0 => .ok (.shlOp (fld w 36 6) (fld w 30 3) (fCount w) (fRt w) (fRa w) (fRc w))
  | 1 => .ok (.shrOp (fld w 36 6) (fld w 30 3) (fCount w) (fRt w) (fRa w) (fRc w))
  | 2 => .ok (.aslOp (fld w 36 6) (fld w 30 3) (fCount w) (fRt w) (fRa w) (fRc w))
  | 3 => .ok (.asrOp (fld w 36 6) (fld w 30 3) (fCount w) (fRt w) (fRa w) (fRc w))
  | 4 => .ok (.rolOp (fld w 36 6) (fld w 30 3) (fCount w) (fRt w) (fRa w) (fRc w))
  | 5 => .ok (.rorOp (fld w 36 6) (fld w 30 3) (fCount w) (fRt w) (fRa w) (fRc w))
  | _ => .error .shift

/-- The CxxxNZ group (R228). -/
def decCond48 (w : Nat) : Decoded :=
  match fldNat w 39 3 with
  | 0 => .ok (.cmovnz (fRt w) (fRa w) (fRb w) (fRc w))
  | 1 => .ok (.caddnz (fRt w) (fRa w) (fRb w) (fRc w))
  | 4 => .ok (.cmovnzi (fRt w) (fRa w) (fRb w) (fld w 23 16))
  | 5 => .ok (.caddnzi (fRt w) (fRa w) (fRb w) (fld w 23 16))
  | _ => .error .registerRegister48

/-- The register-register group, 48 bits (R246). -/
def decRR48 (w : Nat) : Decoded :=
  match fldNat w 42 6 with
  | 0x00 => .ok (.rtop (fRt w) (fRa w) (fRb w) (fRc w) (fSz48 w))
  | 0x02 => .ok (.addv (fRt w) (fRa w) (fRb w) true)
  | 0x04 => .ok (.add3 (fRt w) (fRa w) (fRb w) (fRc w))
  | 0x09 => .ok (.or3 (fRt w) (fRa w) (fRb w) (fRc w) (fSz48 w))
  | 0x0A => .ok (.xorOp (fld w 36 6) (fSz48 w) (fRt w) (fRa w) (fRb w) (fRc w))
  | 0x0B => .ok (.subv (fRt w) (fRa w) (fRb w))
  | 0x1B => .ok (.mux (fRt w) (fRa w) (fRb w) (fRc w))
  | 0x28 => .ok (.cmovez (fRt w) (fRa w) (fRb w) (fRc w))
  | 0x29 => decCond48 w
  | 0x2C => .ok (.min3 (fRt w) (fRa w) (fRb w) (fRc w) (fSz48 w))
  | 0x2D => .ok (.max3 (fRt w) (fRa w) (fRb w) (fRc w) (fSz48 w))
  | 0x2E => .ok (.maj (fRt w) (fRa w) (fRb w) (fRc w))
  | 0x2F => decShift48 w
  | _ => .error .registerRegister48

/-- The data immediate of a bitfield instruction, and its width and offset fields (R231). -/
def fDa (w : Nat) : BitVec 16 := BitVec.ofNat 16 (fldNat w 33 11 * 32 + fldNat w 18 5)
def fBw (w : Nat) : BitVec 6 := BitVec.ofNat 6 (fldNat w 29 1 * 32 + fldNat w 13 5)
def fBo (w : Nat) : BitVec 6 := BitVec.ofNat 6 (fldNat w 28 1 * 32 + fldNat w 8 5)

/-- The bitfield group (R252). -/
def decBitfield (w : Nat) : Decoded :=
  match fldNat w 44 4 with
  | 1 => .ok (.bfclr (fRc w) (fld w 30 3) (fDa w) (fBw w) (fBo w))
  | 2 => .ok (.bfchg (fRc w) (fld w 30 3) (fDa w) (fBw w) (fBo w))
  | 3 => .ok (.bfins (fRc w) (fld w 30 3) (fDa w) (fBw w) (fBo w))
  | 4 => .ok (.bfinsi (fRc w) (fld w 30 3) (fDa w) (fBw w) (fBo w))
  | 5 => .ok (.bfext (fRc w) (fld w 30 3) (fDa w) (fBw w) (fBo w))
  | 6 => .ok (.bfextu (fRc w) (fld w 30 3) (fDa w) (fBw w) (fBo w))
  | 8 => .ok (.bfffo (fRc w) (fld w 30 3) (fDa w) (fBw w) (fBo w))
  | _ => .error .bitfield

/-- The indexed-memory group (R247): the index Funct4 * 4 + Fn2, Fn2 at 22:21 or 17:16. PUSH is Funct4 = Ch alone. -/
def decIndexed (w : Nat) : Decoded :=
  match fldNat w 28 4 * 4 + (if fldNat w 28 4 < 8 then fldNat w 21 2 else fldNat w 16 2) with
  | 0x00 => .ok (.lvbx (fRt w) (fRa w) (fRc w) (fld w 18 2))
  | 0x01 => .ok (.lvbux (fRt w) (fRa w) (fRc w) (fld w 18 2))
  | 0x02 => .ok (.lvcx (fRt w) (fRa w) (fRc w) (fld w 18 2))
  | 0x03 => .ok (.lvcux (fRt w) (fRa w) (fRc w) (fld w 18 2))
  | 0x04 => .ok (.lvhx (fRt w) (fRa w) (fRc w) (fld w 18 2))
  | 0x05 => .ok (.lvhux (fRt w) (fRa w) (fRc w) (fld w 18 2))
  | 0x06 => .ok (.lvwx (fRt w) (fRa w) (fRc w) (fld w 18 2))
  | 0x08 => .ok (.lcx (fRt w) (fRa w) (fRc w) (fld w 18 2))
  | 0x09 => .ok (.lcux (fRt w) (fRa w) (fRc w) (fld w 18 2))
  | 0x0A => .ok (.lbux (fRt w) (fRa w) (fRc w) (fld w 18 2))
  | 0x10 => .ok (.lhx (fRt w) (fRa w) (fRc w) (fld w 18 2))
  | 0x11 => .ok (.lhux (fRt w) (fRa w) (fRc w) (fld w 18 2))
  | 0x12 => .ok (.lwx (fRt w) (fRa w) (fRc w) (fld w 18 2))
  | 0x13 => .ok (.lbx (fRt w) (fRa w) (fRc w) (fld w 18 2))
  | 0x14 => .ok (.lwrx (fRt w) (fRa w) (fRc w) (fld w 18 2))
  | 0x18 => .ok (.leax (fRt w) (fRa w) (fRc w) (fld w 18 2))
  | 0x19 => .ok (.lvx (fRt w) (fRa w) (fRc w) (fld w 18 2))
  | 0x1A => .ok (.lvws (fRt w) (fRa w) (fRc w) (fld w 18 2))
  | 0x1C => .ok (.lfsx (fRt w) (fRa w) (fRc w) (fld w 18 2))
  | 0x1D => .ok (.lfdx (fRt w) (fRa w) (fRc w) (fld w 18 2))
  | 0x1E => .ok (.cachex (fRt w) (fRa w) (fRc w) (fld w 18 2))
  | 0x1F => .ok (.lfqx (fRt w) (fRa w) (fRc w) (fld w 18 2))
  | 0x20 => .ok (.sbx (fRb w) (fRa w) (fRc w) (fld w 13 2))
  | 0x21 => .ok (.shx (fRb w) (fRa w) (fRc w) (fld w 13 2))
  | 0x22 => .ok (.swx (fRb w) (fRa w) (fRc w) (fld w 13 2))
  | 0x23 => .ok (.swcx (fRb w) (fRa w) (fRc w) (fld w 13 2))
  | 0x24 => .ok (.scx (fRb w) (fRa w) (fRc w) (fld w 13 2))
  | 0x25 => .ok (.casx (fRb w) (fRa w) (fRc w) (fld w 13 2))
  | 0x27 => .ok (.svws (fRb w) (fRa w) (fRc w) (fld w 13 2))
  | 0x2A => .ok (.incx (fRb w) (fRa w) (fRc w) (fld w 13 2))
  | 0x2C => .ok (.sfsx (fRb w) (fRa w) (fRc w) (fld w 13 2))
  | 0x2D => .ok (.sfdx (fRb w) (fRa w) (fRc w) (fld w 13 2))
  | 0x2F => .ok (.sfqx (fRb w) (fRa w) (fRc w) (fld w 13 2))
  | 0x30 => .ok (.push (fRb w) (fRt w) (fRa w))
  | 0x31 => .ok (.push (fRb w) (fRt w) (fRa w))
  | 0x32 => .ok (.push (fRb w) (fRt w) (fRa w))
  | 0x33 => .ok (.push (fRb w) (fRt w) (fRa w))
  | 0x37 => .ok (.svx (fRb w) (fRa w) (fRc w) (fld w 13 2))
  | _ => .error .indexed

/-- Atomics, register operand (R239, R253). -/
def decAmoReg (w : Nat) : Decoded :=
  match fldNat w 28 4 with
  | 0 => .ok (.amoSwap (fRt w) (fRa w) (fRb w) (fSz w) (fldNat w 27 1 == 1) (fldNat w 26 1 == 1))
  | 1 => .ok (.amoAdd (fRt w) (fRa w) (fRb w) (fSz w) (fldNat w 27 1 == 1) (fldNat w 26 1 == 1))
  | 2 => .ok (.amoAnd (fRt w) (fRa w) (fRb w) (fSz w) (fldNat w 27 1 == 1) (fldNat w 26 1 == 1))
  | 3 => .ok (.amoOr (fRt w) (fRa w) (fRb w) (fSz w) (fldNat w 27 1 == 1) (fldNat w 26 1 == 1))
  | 4 => .ok (.amoXor (fRt w) (fRa w) (fRb w) (fSz w) (fldNat w 27 1 == 1) (fldNat w 26 1 == 1))
  | 5 => .ok (.amoShl (fRt w) (fRa w) (fRb w) (fSz w) (fldNat w 27 1 == 1) (fldNat w 26 1 == 1))
  | 6 => .ok (.amoShr (fRt w) (fRa w) (fRb w) (fSz w) (fldNat w 27 1 == 1) (fldNat w 26 1 == 1))
  | 7 => .ok (.amoMin (fRt w) (fRa w) (fRb w) (fSz w) (fldNat w 27 1 == 1) (fldNat w 26 1 == 1))
  | 8 => .ok (.amoMax (fRt w) (fRa w) (fRb w) (fSz w) (fldNat w 27 1 == 1) (fldNat w 26 1 == 1))
  | 9 => .ok (.amoMinu (fRt w) (fRa w) (fRb w) (fSz w) (fldNat w 27 1 == 1) (fldNat w 26 1 == 1))
  | 10 => .ok (.amoMaxu (fRt w) (fRa w) (fRb w) (fSz w) (fldNat w 27 1 == 1) (fldNat w 26 1 == 1))
  | _ => .error .atomic

/-- Atomics, immediate operand (R239, R253). -/
def decAmoImm (w : Nat) : Decoded :=
  match fldNat w 28 4 with
  | 0 => .ok (.amoSwapImm (fRt w) (fRa w) (fRb w) (fSz w) (fldNat w 27 1 == 1) (fldNat w 26 1 == 1))
  | 1 => .ok (.amoAddImm (fRt w) (fRa w) (fRb w) (fSz w) (fldNat w 27 1 == 1) (fldNat w 26 1 == 1))
  | 2 => .ok (.amoAndImm (fRt w) (fRa w) (fRb w) (fSz w) (fldNat w 27 1 == 1) (fldNat w 26 1 == 1))
  | 3 => .ok (.amoOrImm (fRt w) (fRa w) (fRb w) (fSz w) (fldNat w 27 1 == 1) (fldNat w 26 1 == 1))
  | 4 => .ok (.amoXorImm (fRt w) (fRa w) (fRb w) (fSz w) (fldNat w 27 1 == 1) (fldNat w 26 1 == 1))
  | 5 => .ok (.amoShlImm (fRt w) (fRa w) (fRb w) (fSz w) (fldNat w 27 1 == 1) (fldNat w 26 1 == 1))
  | 6 => .ok (.amoShrImm (fRt w) (fRa w) (fRb w) (fSz w) (fldNat w 27 1 == 1) (fldNat w 26 1 == 1))
  | 7 => .ok (.amoMinImm (fRt w) (fRa w) (fRb w) (fSz w) (fldNat w 27 1 == 1) (fldNat w 26 1 == 1))
  | 8 => .ok (.amoMaxImm (fRt w) (fRa w) (fRb w) (fSz w) (fldNat w 27 1 == 1) (fldNat w 26 1 == 1))
  | 9 => .ok (.amoMinuImm (fRt w) (fRa w) (fRb w) (fSz w) (fldNat w 27 1 == 1) (fldNat w 26 1 == 1))
  | 10 => .ok (.amoMaxuImm (fRt w) (fRa w) (fRb w) (fSz w) (fldNat w 27 1 == 1) (fldNat w 26 1 == 1))
  | _ => .error .atomic

/-- The branch displacement, in parcels (R233). -/
def fBr (w : Nat) : BitVec 11 := BitVec.ofNat 11 (fldNat w 23 9 * 4 + fldNat w 16 2)

/-- Bcc (R255). -/
def decBcc (w : Nat) : Decoded :=
  match fldNat w 13 3 with
  | 0 => .ok (.beq (fRa w) (fRb w) (fBr w))
  | 1 => .ok (.bne (fRa w) (fRb w) (fBr w))
  | 2 => .ok (.blt (fRa w) (fRb w) (fBr w))
  | 3 => .ok (.bge (fRa w) (fRb w) (fBr w))
  | 4 => .ok (.band (fRa w) (fRb w) (fBr w))
  | 5 => .ok (.bor (fRa w) (fRb w) (fBr w))
  | 6 => .ok (.bltu (fRa w) (fRb w) (fBr w))
  | 7 => .ok (.bgeu (fRa w) (fRb w) (fBr w))
  | _ => .error .branch

/-- FBcc (R255). -/
def decFbcc (w : Nat) : Decoded :=
  match fldNat w 13 3 with
  | 0 => .ok (.fbeq (fRa w) (fRb w) (fBr w))
  | 1 => .ok (.fbne (fRa w) (fRb w) (fBr w))
  | 2 => .ok (.fblt (fRa w) (fRb w) (fBr w))
  | 3 => .ok (.fbge (fRa w) (fRb w) (fBr w))
  | 7 => .ok (.fbun (fRa w) (fRb w) (fBr w))
  | _ => .error .branch

/-- The bit number of BBS and BBC (R233). -/
def fBit (w : Nat) : BitVec 6 := BitVec.ofNat 6 (fldNat w 18 5 * 2 + fldNat w 15 1)

/-- BBS and BBC (R255). -/
def decBb (w : Nat) : Decoded :=
  match fldNat w 13 2 with
  | 0 => .ok (.bbs (fRa w) (fBit w) (fBr w))
  | 1 => .ok (.bbc (fRa w) (fBit w) (fBr w))
  | _ => .error .branch

/-- The immediate of BEQI and BNEI (R233). -/
def fBImm (w : Nat) : BitVec 8 := BitVec.ofNat 8 (fldNat w 18 5 * 8 + fldNat w 13 3)

/-- The target of JMP and CALL (R236). -/
def fJump (long : Bool) (w : Nat) : JumpTarget :=
  if long then .far (fld w 46 2) (fld w 8 38) else .near (fld w 8 24)

/-- The target of JAL (R236). -/
def fLink (long : Bool) (w : Nat) : LinkTarget :=
  if long then .far (fld w 46 2) (fld w 18 28) else .near (fld w 18 14)

/-- The CSR instructions (R235). -/
def decCsr (w : Nat) : Decoded :=
  match fldNat w 30 2 with
  | 0 => .ok (.csrrd (fld w 28 2) (fld w 18 10) (fRt w) (fRa w))
  | 1 => .ok (.csrrw (fld w 28 2) (fld w 18 10) (fRt w) (fRa w))
  | 2 => .ok (.csrrs (fld w 28 2) (fld w 18 10) (fRt w) (fRa w))
  | _ => .ok (.csrrc (fld w 28 2) (fld w 18 10) (fRt w) (fRa w))

/-- The form of a two-source floating-point instruction (R241). -/
def fFp (long : Bool) (w : Nat) : FpForm :=
  if long then .long (fld w 31 4) (fld w 28 3) else .short (fld w 23 3)

/-- The form of a flag instruction (47_float R801). -/
def fFlag (long : Bool) (w : Nat) : FlagForm := if long then .long (fld w 31 4) else .short

/-- The precision and rounding mode of a one-source floating-point instruction (R241). -/
def fPrc (long : Bool) (w : Nat) : BitVec 4 := if long then fld w 31 4 else fld w 18 4
def fRm (long : Bool) (w : Nat) : BitVec 3 := if long then fld w 28 3 else fld w 23 3

/-- The floating-point group, function code f (R249). DESIGN CHOICE (log 47, log 54): values in bit 22 of a short one-source
word and in bits 17:13 of FTX, FCX, FEX and FDX, which 47_float gives as 0, are ignored. -/
def decFloat (long : Bool) (w f : Nat) : Decoded :=
  match f with
  | 0x04 => .ok (.fadd (fRt w) (fRa w) (fRb w) (fFp long w))
  | 0x05 => .ok (.fsub (fRt w) (fRa w) (fRb w) (fFp long w))
  | 0x06 => .ok (.fcmp (fRt w) (fRa w) (fRb w) (fFp long w))
  | 0x08 => .ok (.fmul (fRt w) (fRa w) (fRb w) (fFp long w))
  | 0x09 => .ok (.fdiv (fRt w) (fRa w) (fRb w) (fFp long w))
  | 0x10 => .ok (.fmov (fRt w) (fRa w) (fPrc long w) (fRm long w) long)
  | 0x12 => .ok (.ftoi (fRt w) (fRa w) (fPrc long w) (fRm long w) long)
  | 0x13 => .ok (.itof (fRt w) (fRa w) (fldNat w 22 1 == 1) (fPrc long w) (fRm long w) long)
  | 0x14 => .ok (.fneg (fRt w) (fRa w) (fPrc long w) (fRm long w) long)
  | 0x15 => .ok (.fabs (fRt w) (fRa w) (fPrc long w) (fRm long w) long)
  | 0x16 => .ok (.fsign (fRt w) (fRa w) (fPrc long w) (fRm long w) long)
  | 0x18 => .ok (.fnabs (fRt w) (fRa w) (fPrc long w) (fRm long w) long)
  | 0x19 => .ok (.fcvtsd (fRt w) (fRa w) (fPrc long w) (fRm long w) long)
  | 0x1D => .ok (.fsqrt (fRt w) (fRa w) (fPrc long w) (fRm long w) long)
  | 0x20 => .ok (.ftx (fRa w) (fld w 18 6) (fFlag long w))
  | 0x21 => .ok (.fcx (fRa w) (fld w 18 6) (fFlag long w))
  | 0x22 => .ok (.fex (fRa w) (fld w 18 6) (fFlag long w))
  | 0x23 => .ok (.fdx (fRa w) (fld w 18 6) (fFlag long w))
  | 0x36 => .ok (.fsync (fFlag long w))
  | 0x38 => .ok (.fslt (fRt w) (fRa w) (fRb w) (fFp long w))
  | 0x39 => .ok (.fsge (fRt w) (fRa w) (fRb w) (fFp long w))
  | 0x3A => .ok (.fsle (fRt w) (fRa w) (fRb w) (fFp long w))
  | 0x3B => .ok (.fsgt (fRt w) (fRa w) (fRb w) (fFp long w))
  | 0x3C => .ok (.fseq (fRt w) (fRa w) (fRb w) (fFp long w))
  | 0x3D => .ok (.fsne (fRt w) (fRa w) (fRb w) (fFp long w))
  | 0x3E => .ok (.fsun (fRt w) (fRa w) (fRb w) (fFp long w))
  | _ => .error .float

/-- The form of a vector instruction, its mask register, and the form of a vector shift (R257, 48_vector R842, R878). -/
def fLen (long : Bool) (w : Nat) : VecLen := if long then .long (fld w 26 4) (fld w 23 3) else .short
def fVm (long : Bool) (w : Nat) : BitVec 3 := if long then fld w 39 3 else fld w 23 3
def fShLen (long : Bool) (w : Nat) : ShiftLen :=
  if long then .long (fld w 30 2) (fld w 26 4) (fld w 23 3) else .short

/-- The condition of a vector compare: the function's own bit above I[17:16] (48_vector R893). -/
def fCn (alt w : Nat) : BitVec 3 := BitVec.ofNat 3 (alt * 4 + fldNat w 16 2)

/-- The mask-register group, 32 bits only (R250, 48_vector R895 to R899). DESIGN CHOICE (log 54): values in the bits that
R895 calls zero are ignored. -/
def decMask (fp : Bool) (w : Nat) : Decoded :=
  match fldNat w 23 3 with
  | 0 => .ok (.vmand fp (fld w 13 3) (fld w 8 3) (fld w 18 3))
  | 1 => .ok (.vmor fp (fld w 13 3) (fld w 8 3) (fld w 18 3))
  | 2 => .ok (.vmxor fp (fld w 13 3) (fld w 8 3) (fld w 18 3))
  | 3 => .ok (.vmxnor fp (fld w 13 3) (fld w 8 3) (fld w 18 3))
  | 4 => .ok (.vmpop fp (fRt w) (fld w 8 3))
  | 5 => .ok (.vmfill fp (fld w 13 3) (fRa w))
  | 6 => .ok (.vmfirst fp (fRt w) (fld w 8 3))
  | _ => .ok (.vmlast fp (fRt w) (fld w 8 3))

/-- VSUBRS, of which VNEG is the word with Rb = 0 (R264). -/
def decVsubrs (fp long : Bool) (w : Nat) : Decoded :=
  if fldNat w 18 5 = 0 then .ok (.vneg fp (fLen long w) (fVm long w) (fRt w) (fRa w))
  else .ok (.vsubrs fp (fLen long w) (fVm long w) (fRt w) (fRa w) (fRb w))

/-- The vector group, function code f (R250, 48_vector R893, R903). DESIGN CHOICE (log 54): values in the fields that
R901 gives VSYNC, and in bits 22:18, which R869 gives VABS, as zero are ignored. -/
def decVector (fp long : Bool) (w f : Nat) : Decoded :=
  match f with
  | 0x00 => .ok (.vcmprss fp (fLen long w) (fVm long w) (fRt w) (fRa w))
  | 0x01 => .ok (.vcidx fp (fLen long w) (fVm long w) (fRt w) (fRa w))
  | 0x02 => .ok (.vscan fp (fLen long w) (fVm long w) (fRt w) (fRa w))
  | 0x03 => .ok (.vabs fp (fLen long w) (fVm long w) (fRt w) (fRa w))
  | 0x04 => .ok (.vadd fp (fLen long w) (fVm long w) (fRt w) (fRa w) (fRb w))
  | 0x05 => .ok (.vsub fp (fLen long w) (fVm long w) (fRt w) (fRa w) (fRb w))
  | 0x06 => .ok (.vsxx fp (fLen long w) (fVm long w) (fCn 0 w) (fld w 13 3) (fRa w) (fRb w))
  | 0x07 => .ok (.vsxxs fp (fLen long w) (fVm long w) (fCn 0 w) (fld w 13 3) (fRa w) (fRb w))
  | 0x08 => .ok (.vand fp (fLen long w) (fVm long w) (fRt w) (fRa w) (fRb w))
  | 0x09 => .ok (.vor fp (fLen long w) (fVm long w) (fRt w) (fRa w) (fRb w))
  | 0x0A => .ok (.vxor fp (fLen long w) (fVm long w) (fRt w) (fRa w) (fRb w))
  | 0x0B => .ok (.vxchg fp (fLen long w) (fVm long w) (fRa w) (fRb w))
  | 0x0C => .ok (.vshl fp (fShLen long w) (fVm long w) (fRt w) (fRa w) (fRb w))
  | 0x0D => .ok (.vshr fp (fShLen long w) (fVm long w) (fRt w) (fRa w) (fRb w))
  | 0x0E => .ok (.vasr fp (fShLen long w) (fVm long w) (fRt w) (fRa w) (fRb w))
  | 0x0F => .ok (.vsxxs fp (fLen long w) (fVm long w) (fCn 1 w) (fld w 13 3) (fRa w) (fRb w))
  | 0x10 => .ok (.vshlv fp (fLen long w) (fVm long w) (fRt w) (fRa w) (fRb w))
  | 0x11 => .ok (.vshrv fp (fLen long w) (fVm long w) (fRt w) (fRa w) (fRb w))
  | 0x14 => .ok (.vadds fp (fLen long w) (fVm long w) (fRt w) (fRa w) (fRb w))
  | 0x15 => .ok (.vsubs fp (fLen long w) (fVm long w) (fRt w) (fRa w) (fRb w))
  | 0x16 => decVsubrs fp long w
  | 0x17 => if fp then .error .vector else .ok (.vsxxsu (fLen long w) (fVm long w) (fCn 0 w) (fld w 13 3) (fRa w) (fRb w))
  | 0x18 => .ok (.vands fp (fLen long w) (fVm long w) (fRt w) (fRa w) (fRb w))
  | 0x19 => .ok (.vors fp (fLen long w) (fVm long w) (fRt w) (fRa w) (fRb w))
  | 0x1A => .ok (.vxors fp (fLen long w) (fVm long w) (fRt w) (fRa w) (fRb w))
  | 0x1F => if fp then .error .vector else .ok (.vsxxsu (fLen long w) (fVm long w) (fCn 1 w) (fld w 13 3) (fRa w) (fRb w))
  | 0x20 => .ok (.vbits2v fp (fLen long w) (fVm long w) (fRt w) (fRa w))
  | 0x21 => .ok (.v2bits fp (fLen long w) (fVm long w) (fRt w) (fRa w))
  | 0x22 => .ok (.veins fp (fLen long w) (fVm long w) (fRt w) (fRa w) (fRb w))
  | 0x23 => .ok (.vex fp (fLen long w) (fVm long w) (fRt w) (fRa w) (fRb w))
  | 0x24 => .ok (.vflt2int fp (fLen long w) (fVm long w) (fRt w) (fRa w))
  | 0x25 => .ok (.vint2flt fp (fLen long w) (fVm long w) (fRt w) (fRa w))
  | 0x26 => .ok (.vsign fp (fLen long w) (fVm long w) (fRt w) (fRa w))
  | 0x27 => if fp then .error .vector else .ok (.vsxxu (fLen long w) (fVm long w) (fCn 0 w) (fld w 13 3) (fRa w) (fRb w))
  | 0x28 => .ok (.vcntpop fp (fLen long w) (fVm long w) (fRt w) (fRa w))
  | 0x2A => .ok (.vmuls fp (fLen long w) (fVm long w) (fRt w) (fRa w) (fRb w))
  | 0x2E => .ok (.vdivs fp (fLen long w) (fVm long w) (fRt w) (fRa w) (fRb w))
  | 0x2F => if fp then .error .vector else .ok (.vsxxu (fLen long w) (fVm long w) (fCn 1 w) (fld w 13 3) (fRa w) (fRb w))
  | 0x30 => if long then .error .vector else decMask fp w
  | 0x36 => if long then .error .vector else .ok (.vsync fp)
  | 0x3A => .ok (.vmul fp (fLen long w) (fVm long w) (fRt w) (fRa w) (fRb w))
  | 0x3E => .ok (.vdiv fp (fLen long w) (fVm long w) (fRt w) (fRa w) (fRb w))
  | 0x3F => .ok (.vsxx fp (fLen long w) (fVm long w) (fCn 1 w) (fld w 13 3) (fRa w) (fRb w))
  | _ => .error .vector

/-- ORI, of which LDI is the word with Ra = 0 (R264). -/
def decOri (long : Bool) (w : Nat) : Decoded :=
  if fldNat w 8 5 = 0 then .ok (.ldi (fRt w) (fImm long w)) else .ok (.ori (fRt w) (fRa w) (fImm long w))

/-- The function code of a group with Funct6 at the top (R221). -/
def funct6 (long : Bool) (w : Nat) : Nat := if long then fldNat w 42 6 else fldNat w 26 6

/-- The major opcode map (R243) but for FBcc, of 32 bits (long = false) or 48 bits (long = true). -/
def decodeMajor (long : Bool) (w : Nat) : Decoded :=
  match fldNat w 0 6 with
  | 0x00 => decBrk long w
  | 0x01 => decVector true long w (funct6 long w)
  | 0x02 => if long then decRR48 w else decRR w
  | 0x03 => .ok (.auipc (fRt w) (fUpper long w))
  | 0x04 => .ok (.addi (fRt w) (fRa w) (fImm long w))
  | 0x05 => if long then .error .length else decCsr w
  | 0x06 => .ok (.slti (fRt w) (fRa w) (fImm long w))
  | 0x07 => .ok (.sltui (fRt w) (fRa w) (fImm long w))
  | 0x08 => .ok (.andi (fRt w) (fRa w) (fImm long w))
  | 0x09 => decOri long w
  | 0x0A => .ok (.xori (fRt w) (fRa w) (fImm long w))
  | 0x0B => .ok (.seqi (fRt w) (fRa w) (fImm long w))
  | 0x0D => only32 long (.rex (fld w 26 3) (fld w 18 8) (fld w 13 2) (fRa w))
  | 0x0F => decFloat long w (funct6 long w)
  | 0x11 => decLoad11 long w
  | 0x12 => only32 long (.bnei (fRa w) (fBImm w) (fBr w))
  | 0x13 => .ok (.lb (fRt w) (fRa w) (fImm long w))
  | 0x14 => .ok (.pushc (fRt w) (fRa w) (fImm long w))
  | 0x15 => .ok (.sb (fRb w) (fRa w) (fDisp long w))
  | 0x16 => if long then .error .length else decIndexed w
  | 0x17 => .ok (.swc (fRb w) (fRa w) (fDisp long w))
  | 0x18 => .ok (.jal (fRt w) (fRa w) (fLink long w))
  | 0x19 => .ok (.call (fJump long w))
  | 0x1A => .ok (.inc (fRt w) (fRa w) (fImm long w))
  | 0x1B => decLoad1B long w
  | 0x1C => .ok (.sgtui (fRt w) (fRa w) (fImm long w))
  | 0x1D => .ok (.lwr (fRt w) (fRa w) (fImm long w))
  | 0x1E => .ok (.cache (fRt w) (fRa w) (fImm long w))
  | 0x20 => decLoad20 long w
  | 0x21 => decLoad21 long w
  | 0x22 => if long then decBitfield w else .error .length
  | 0x23 => .ok (.lbu (fRt w) (fRa w) (fImm long w))
  | 0x24 => decStore24 long w
  | 0x25 => only32 long (.cas (fRt w) (fRa w) (fld w 18 14))
  | 0x26 => if long then .error .length else decBb w
  | 0x27 => .ok (.lui (fRt w) (fUpper long w))
  | 0x28 => .ok (.jmp (fJump long w))
  | 0x29 => only32 long (.ret (fRb w) (fRt w) (fRa w) (fld w 23 9))
  | 0x2A => .ok (.mulfi (fRt w) (fRa w) (fImm long w))
  | 0x2B => decStore2B long w
  | 0x2C => .ok (.sgti (fRt w) (fRa w) (fImm long w))
  | 0x2E => .ok (.modi (fRt w) (fRa w) (fImm long w))
  | 0x2F => if long then .error .length else decAmoReg w
  | 0x30 => if long then .error .length else decBcc w
  | 0x31 => decVector false long w (funct6 long w)
  | 0x32 => only32 long (.beqi (fRa w) (fBImm w) (fBr w))
  | 0x34 => only32 long (.chki (fRa w) (fRt w) (fld w 18 14))
  | 0x36 => .ok (.lv (fRt w) (fRa w) (fImm long w))
  | 0x37 => .ok (.sv (fRb w) (fRa w) (fDisp long w))
  | 0x38 => .ok (.mului (fRt w) (fRa w) (fImm long w))
  | 0x3A => .ok (.muli (fRt w) (fRa w) (fImm long w))
  | 0x3B => decLoad3B long w
  | 0x3C => .ok (.divui (fRt w) (fRa w) (fImm long w))
  | 0x3D => .ok (.nop long)
  | 0x3E => .ok (.divi (fRt w) (fRa w) (fImm long w))
  | 0x3F => if long then .error .length else decAmoImm w
  | _ => .error .major

/-- An instruction of 32 or 48 bits. The FBcc opcode (R255) comes before the map: where fb is an opcode that the map
assigns, FBcc takes its place (log 43). -/
def decodeWord (fb : BitVec 6) (long : Bool) (w : Nat) : Decoded :=
  if fld w 0 6 = fb then if long then .error .length else decFbcc w else decodeMajor long w

/-- Whether the map of R243, without FBcc, assigns an opcode to nothing. -/
def blankMajor (op : BitVec 6) : Bool := [0x0C, 0x0E, 0x10, 0x1F, 0x2D, 0x33, 0x35, 0x39].contains op

/-! The compressed table: R242, 46_compressed R700. -/

def cF5 (w : Nat) : BitVec 5 := BitVec.ofNat 5 (fldNat w 8 4 * 2 + fldNat w 5 1)
def cG5 (w : Nat) : RegNo := fld w 0 5
def cQ3 (w : Nat) : BitVec 3 := fld w 0 3
def cR3 (w : Nat) : BitVec 3 := BitVec.ofNat 3 (fldNat w 8 2 * 2 + fldNat w 5 1)
def cD4 (w : Nat) : BitVec 4 := BitVec.ofNat 4 (fldNat w 10 2 * 4 + fldNat w 3 2)
def cD10 (w : Nat) : BitVec 10 := BitVec.ofNat 10 ((fldNat w 8 4 * 2 + fldNat w 5 1) * 32 + fldNat w 0 5)
def cD7 (w : Nat) : BitVec 7 := BitVec.ofNat 7 (fldNat w 8 6 * 2 + fldNat w 5 1)

/-- Op4 = 0, L2 = 2: NOP, ADDISP, ADDI. -/
def decC0 (w : Nat) : Decoded :=
  if cG5 w = 31 then .ok (.addisp (cF5 w))
  else if cG5 w = 0 ∧ cF5 w = 0 then .ok .nop16
  else .ok (.addi16 (cG5 w) (cF5 w))

/-- Op4 = 1, L2 = 2: LDI, BRK, PFI. -/
def decC1 (w : Nat) : Decoded :=
  if cG5 w = 0 then (if cF5 w = 31 then .ok .pfi16 else .ok (.brk16 (cF5 w))) else .ok (.ldi16 (cG5 w) (cF5 w))

/-- Op4 = 2, L2 = 2: ANDI, RET. -/
def decC2 (w : Nat) : Decoded :=
  if cG5 w = 0 then .ok (.ret16 (cF5 w)) else .ok (.andi16 (cG5 w) (cF5 w))

/-- Op4 = 4, L2 = 2, G5[4:3] = 3: SUB, AND, OR, XOR. -/
def decC4r (w : Nat) : Decoded :=
  match fldNat w 10 2 with
  | 0 => .ok (.sub16 (cQ3 w) (cR3 w))
  | 1 => .ok (.and16 (cQ3 w) (cR3 w))
  | 2 => .ok (.or16 (cQ3 w) (cR3 w))
  | _ => .ok (.xor16 (cQ3 w) (cR3 w))

/-- Op4 = 4, L2 = 2: SHRI, ASRI, ORI and the register forms. -/
def decC4 (w : Nat) : Decoded :=
  match fldNat w 3 2 with
  | 0 => .ok (.shri16 (cQ3 w) (cF5 w))
  | 1 => .ok (.asri16 (cQ3 w) (cF5 w))
  | 2 => .ok (.ori16 (cQ3 w) (cF5 w))
  | _ => decC4r w

/-- Op4 = 3, L2 = 3: PUSH; the segment-register rows (F5 ≠ 0) are reserved (46_compressed R734). -/
def decC3 (w : Nat) : Decoded := if cF5 w = 0 then .ok (.push16 (cG5 w)) else .error .compressed

/-- The L2 = 2 half of the table. -/
def decodeC2 (w : Nat) : Decoded :=
  match fldNat w 12 4 with
  | 0 => decC0 w
  | 1 => decC1 w
  | 2 => decC2 w
  | 3 => .ok (.shli16 (cG5 w) (cF5 w))
  | 4 => decC4 w
  | 5 => .ok (.call16 (cD10 w))
  | 6 => .error .compressed
  | 7 => .ok (.bra16 (cD10 w))
  | n => if n < 12 then .ok (.beqz16 (cG5 w) (cD7 w)) else .ok (.bnez16 (cG5 w) (cD7 w))

/-- The L2 = 3 half of the table. -/
def decodeC3 (w : Nat) : Decoded :=
  match fldNat w 12 4 with
  | 0 => .ok (.mov16 (cG5 w) (cF5 w))
  | 1 => .ok (.add16 (cG5 w) (cF5 w))
  | 2 => .ok (.jalr16 (cG5 w) (cF5 w))
  | 3 => decC3 w
  | 4 => .ok (.lhSp (cG5 w) (cF5 w))
  | 5 => .ok (.lwSp (cG5 w) (cF5 w))
  | 6 => .ok (.lhFp (cG5 w) (cF5 w))
  | 7 => .ok (.lwFp (cG5 w) (cF5 w))
  | 8 => .ok (.shSp (cG5 w) (cF5 w))
  | 9 => .ok (.swSp (cG5 w) (cF5 w))
  | 10 => .ok (.shFp (cG5 w) (cF5 w))
  | 11 => .ok (.swFp (cG5 w) (cF5 w))
  | 12 => .ok (.lhPr (cR3 w) (cQ3 w) (cD4 w))
  | 13 => .ok (.lwPr (cR3 w) (cQ3 w) (cD4 w))
  | 14 => .ok (.shPr (cR3 w) (cQ3 w) (cD4 w))
  | _ => .ok (.swPr (cR3 w) (cQ3 w) (cD4 w))

/-- The length in bytes from L2, bits 7:6 of the first byte (R220). -/
def lengthOf (b : Nat) : Nat :=
  match fldNat b 6 2 with
  | 0 => 4
  | 1 => 6
  | _ => 2

/-- The instruction whose word is w; the length is that of its L2 field. -/
def decodeNat (fb : BitVec 6) (w : Nat) : Decoded :=
  match fldNat w 6 2 with
  | 0 => decodeWord fb false w
  | 1 => decodeWord fb true w
  | 2 => decodeC2 w
  | _ => decodeC3 w

/-- The word of a list of bytes, the first byte least significant (20_memory R141). -/
def wordOfBytes : List Byte → Nat
  | [] => 0
  | b :: bs => b.toNat + 256 * wordOfBytes bs

/-- n bytes of a word, the least significant first (20_memory R141). -/
def bytesOfWord : Nat → Nat → List Byte
  | 0, _ => []
  | n + 1, w => BitVec.ofNat 8 w :: bytesOfWord n (w / 256)

/-- Decoding a list of bytes: the instruction at its head and the rest of the list (R221). -/
def decode (fb : BitVec 6) (bs : List Byte) : Except DecodeError (Instr × List Byte) :=
  match bs with
  | [] => .error .truncated
  | b :: _ =>
    let n := lengthOf b.toNat
    if bs.length < n then .error .truncated
    else
      match decodeNat fb (wordOfBytes (bs.take n)) with
      | .ok i => .ok (i, bs.drop n)
      | .error e => .error e

end

/-! The encoder, from the same layouts. -/

/-- The L2 field of a form. -/
def Imm.l2 : Imm → Nat
  | .short _ => 0
  | .long _ => 1

def l2Of (long : Bool) : Nat := if long then 1 else 0

/-- Format RI (R224), with the field f at 31:18 or 47:18. -/
def encRI (op l2 rt ra f : Nat) : Nat := op + 2 ^ 6 * l2 + 2 ^ 8 * ra + 2 ^ 13 * rt + 2 ^ 18 * f

/-- Format MS (R226). -/
def encMS (op l2 rb ra f : Nat) : Nat :=
  op + 2 ^ 6 * l2 + 2 ^ 8 * ra + 2 ^ 13 * (f % 32) + 2 ^ 18 * rb + 2 ^ 23 * (f / 32)

/-- Format LUI (R225). -/
def encUpper (op rt : Nat) : UpperImm → Nat
  | .short v => op + 2 ^ 8 * (v.toNat % 32) + 2 ^ 13 * rt + 2 ^ 18 * (v.toNat / 32)
  | .long v => op + 2 ^ 6 + 2 ^ 8 * (v.toNat % 32) + 2 ^ 13 * rt + 2 ^ 18 * (v.toNat / 32)

/-- Format RR (R227), with z at 25:23. -/
def encRR (f z rt ra rb : Nat) : Nat := 0x02 + 2 ^ 8 * ra + 2 ^ 13 * rt + 2 ^ 18 * rb + 2 ^ 23 * z + 2 ^ 26 * f

/-- Format RR, 48 bits (R228): Op2 at 41:36, Sz3 at 30:28. -/
def encRR48 (f op2 z rt ra rb rc : Nat) : Nat :=
  0x02 + 2 ^ 6 + 2 ^ 8 * ra + 2 ^ 13 * rt + 2 ^ 18 * rb + 2 ^ 23 * rc + 2 ^ 28 * z + 2 ^ 36 * op2 + 2 ^ 42 * f

/-- The 48-bit shift (R230). -/
def encShift48 (f3 op2 z rt ra rc : Nat) : ShiftCount → Nat
  | .reg rb => 0x02 + 2 ^ 6 + 2 ^ 8 * ra + 2 ^ 13 * rt + 2 ^ 18 * rb.toNat + 2 ^ 23 * rc + 2 ^ 30 * z + 2 ^ 33 * f3
      + 2 ^ 36 * op2 + 2 ^ 42 * 0x2F
  | .imm n => 0x02 + 2 ^ 6 + 2 ^ 8 * ra + 2 ^ 13 * rt + 2 ^ 18 * (n.toNat % 32) + 2 ^ 23 * rc + 2 ^ 28 * (n.toNat / 32)
      + 2 ^ 29 + 2 ^ 30 * z + 2 ^ 33 * f3 + 2 ^ 36 * op2 + 2 ^ 42 * 0x2F

/-- Format BF (R231). -/
def encBF (f rt rg da bw bo : Nat) : Nat :=
  0x22 + 2 ^ 6 + 2 ^ 8 * (bo % 32) + 2 ^ 13 * (bw % 32) + 2 ^ 18 * (da % 32) + 2 ^ 23 * rt + 2 ^ 28 * (bo / 32)
    + 2 ^ 29 * (bw / 32) + 2 ^ 30 * rg + 2 ^ 33 * (da / 32) + 2 ^ 44 * f

/-- Format MXL (R234). -/
def encMXL (f4 fn2 rt ra rc sc : Nat) : Nat :=
  0x16 + 2 ^ 8 * ra + 2 ^ 13 * rt + 2 ^ 18 * sc + 2 ^ 21 * fn2 + 2 ^ 23 * rc + 2 ^ 28 * f4

/-- Format MXS (R234). -/
def encMXS (f4 fn2 rb ra rc sc : Nat) : Nat :=
  0x16 + 2 ^ 8 * ra + 2 ^ 13 * sc + 2 ^ 16 * fn2 + 2 ^ 18 * rb + 2 ^ 23 * rc + 2 ^ 28 * f4

/-- Format AMO (R239). -/
def encAmo (op f4 rt ra b z : Nat) (acq rel : Bool) : Nat :=
  op + 2 ^ 8 * ra + 2 ^ 13 * rt + 2 ^ 18 * b + 2 ^ 23 * z + 2 ^ 26 * rel.toNat + 2 ^ 27 * acq.toNat + 2 ^ 28 * f4

/-- Format BD (R233). -/
def encBD (op cond ra rb d : Nat) : Nat :=
  op + 2 ^ 8 * ra + 2 ^ 13 * cond + 2 ^ 16 * (d % 4) + 2 ^ 18 * rb + 2 ^ 23 * (d / 4)

/-- Format BB (R233). -/
def encBB (cnd ra bit d : Nat) : Nat :=
  0x26 + 2 ^ 8 * ra + 2 ^ 13 * cnd + 2 ^ 15 * (bit % 2) + 2 ^ 16 * (d % 4) + 2 ^ 18 * (bit / 2) + 2 ^ 23 * (d / 4)

/-- Format BE (R233). -/
def encBE (op ra imm d : Nat) : Nat :=
  op + 2 ^ 8 * ra + 2 ^ 13 * (imm % 8) + 2 ^ 16 * (d % 4) + 2 ^ 18 * (imm / 8) + 2 ^ 23 * (d / 4)

/-- Format JC (R236). -/
def encJC (op : Nat) : JumpTarget → Nat
  | .near a => op + 2 ^ 8 * a.toNat
  | .far seg a => op + 2 ^ 6 + 2 ^ 8 * a.toNat + 2 ^ 46 * seg.toNat

/-- JAL (R236). -/
def encJal (rt ra : Nat) : LinkTarget → Nat
  | .near imm => 0x18 + 2 ^ 8 * ra + 2 ^ 13 * rt + 2 ^ 18 * imm.toNat
  | .far seg imm => 0x18 + 2 ^ 6 + 2 ^ 8 * ra + 2 ^ 13 * rt + 2 ^ 18 * imm.toNat + 2 ^ 46 * seg.toNat

/-- BRK (R237): c holds bits 15:8, k is bit 16. -/
def encBrk (user skip lvl k c l2 : Nat) : Nat :=
  2 ^ 6 * l2 + 2 ^ 8 * c + 2 ^ 16 * k + 2 ^ 17 * lvl + 2 ^ 21 * skip + 2 ^ 26 * user

/-- CSR (R235). -/
def encCsr (op2 ol regno rt ra : Nat) : Nat :=
  0x05 + 2 ^ 8 * ra + 2 ^ 13 * rt + 2 ^ 18 * regno + 2 ^ 28 * ol + 2 ^ 30 * op2

/-- Floating point, two sources (R241). -/
def encF2 (f rt ra rb : Nat) : FpForm → Nat
  | .short rm => 0x0F + 2 ^ 8 * ra + 2 ^ 13 * rt + 2 ^ 18 * rb + 2 ^ 23 * rm.toNat + 2 ^ 26 * f
  | .long prc rm => 0x0F + 2 ^ 6 + 2 ^ 8 * ra + 2 ^ 13 * rt + 2 ^ 18 * rb + 2 ^ 28 * rm.toNat + 2 ^ 31 * prc.toNat
      + 2 ^ 42 * f

/-- Floating point, one source (R241); m is bit 22. -/
def encF1 (f rt ra m prc rm : Nat) (long : Bool) : Nat :=
  if long then 0x0F + 2 ^ 6 + 2 ^ 8 * ra + 2 ^ 13 * rt + 2 ^ 22 * m + 2 ^ 28 * rm + 2 ^ 31 * prc + 2 ^ 42 * f
  else 0x0F + 2 ^ 8 * ra + 2 ^ 13 * rt + 2 ^ 18 * prc + 2 ^ 22 * m + 2 ^ 23 * rm + 2 ^ 26 * f

/-- Floating-point flag instructions (R241, 47_float R801). -/
def encFF (f ra imm : Nat) : FlagForm → Nat
  | .short => 0x0F + 2 ^ 8 * ra + 2 ^ 18 * imm + 2 ^ 26 * f
  | .long prc => 0x0F + 2 ^ 6 + 2 ^ 8 * ra + 2 ^ 18 * imm + 2 ^ 31 * prc.toNat + 2 ^ 42 * f

def vecOp (fp : Bool) : Nat := if fp then 0x01 else 0x31

/-- Vector formats (R257): the three register places t, a, b. -/
def encV (fp : Bool) (f m t a b : Nat) : VecLen → Nat
  | .short => vecOp fp + 2 ^ 8 * a + 2 ^ 13 * t + 2 ^ 18 * b + 2 ^ 23 * m + 2 ^ 26 * f
  | .long prc rm => vecOp fp + 2 ^ 6 + 2 ^ 8 * a + 2 ^ 13 * t + 2 ^ 18 * b + 2 ^ 23 * rm.toNat + 2 ^ 26 * prc.toNat
      + 2 ^ 39 * m + 2 ^ 42 * f

/-- Vector shifts (48_vector R878). -/
def encVSh (fp : Bool) (f m t a b : Nat) : ShiftLen → Nat
  | .short => vecOp fp + 2 ^ 8 * a + 2 ^ 13 * t + 2 ^ 18 * b + 2 ^ 23 * m + 2 ^ 26 * f
  | .long s2 prc rm => vecOp fp + 2 ^ 6 + 2 ^ 8 * a + 2 ^ 13 * t + 2 ^ 18 * b + 2 ^ 23 * rm.toNat
      + 2 ^ 26 * prc.toNat + 2 ^ 30 * s2.toNat + 2 ^ 39 * m + 2 ^ 42 * f

/-- The target place of a vector compare: Cn[1:0] above Vmt (48_vector R893). -/
def cmpPlace (cn mt : Nat) : Nat := cn % 4 * 8 + mt

/-- The function of a vector compare: f, or g when Cn[2] is set (48_vector R893). -/
def cmpFunct (cn f g : Nat) : Nat := if cn / 4 = 0 then f else g

/-- A compressed word: base pattern, F5, G5 (46_compressed R700). -/
def encC (base f5 g5 : Nat) : Nat := base + g5 + 2 ^ 5 * (f5 % 2) + 2 ^ 8 * (f5 / 2)

/-- A compressed word with Disp7 (46_compressed R700). -/
def encC7 (base d g5 : Nat) : Nat := base + g5 + 2 ^ 5 * (d % 2) + 2 ^ 8 * (d / 2)

/-- A compressed word with two primed registers and d4 (46_compressed R743). -/
def encCd (base r q d : Nat) : Nat :=
  base + q + 2 ^ 3 * (d % 4) + 2 ^ 5 * (r % 2) + 2 ^ 8 * (r / 2) + 2 ^ 10 * (d / 4)

/-- The word of a well-formed instruction, for an FBcc opcode. -/
def encodeWord (fb : BitVec 6) : Instr → Nat
  | .addi rt ra imm => encRI 0x04 imm.l2 rt.toNat ra.toNat imm.nat
  | .slti rt ra imm => encRI 0x06 imm.l2 rt.toNat ra.toNat imm.nat
  | .sltui rt ra imm => encRI 0x07 imm.l2 rt.toNat ra.toNat imm.nat
  | .andi rt ra imm => encRI 0x08 imm.l2 rt.toNat ra.toNat imm.nat
  | .ori rt ra imm => encRI 0x09 imm.l2 rt.toNat ra.toNat imm.nat
  | .xori rt ra imm => encRI 0x0A imm.l2 rt.toNat ra.toNat imm.nat
  | .seqi rt ra imm => encRI 0x0B imm.l2 rt.toNat ra.toNat imm.nat
  | .sgtui rt ra imm => encRI 0x1C imm.l2 rt.toNat ra.toNat imm.nat
  | .sgti rt ra imm => encRI 0x2C imm.l2 rt.toNat ra.toNat imm.nat
  | .mulfi rt ra imm => encRI 0x2A imm.l2 rt.toNat ra.toNat imm.nat
  | .modi rt ra imm => encRI 0x2E imm.l2 rt.toNat ra.toNat imm.nat
  | .mului rt ra imm => encRI 0x38 imm.l2 rt.toNat ra.toNat imm.nat
  | .muli rt ra imm => encRI 0x3A imm.l2 rt.toNat ra.toNat imm.nat
  | .divui rt ra imm => encRI 0x3C imm.l2 rt.toNat ra.toNat imm.nat
  | .divi rt ra imm => encRI 0x3E imm.l2 rt.toNat ra.toNat imm.nat
  | .ldi rt imm => encRI 0x09 imm.l2 rt.toNat 0 imm.nat
  | .lui rt imm => encUpper 0x27 rt.toNat imm
  | .auipc rt imm => encUpper 0x03 rt.toNat imm
  | .addv rt ra rb long => if long then encRR48 0x02 0 0 rt.toNat ra.toNat rb.toNat 0 else encRR 0x02 0 rt.toNat ra.toNat rb.toNat
  | .add rt ra rb sz => encRR 0x04 sz.toNat rt.toNat ra.toNat rb.toNat
  | .sub rt ra rb sz => encRR 0x05 sz.toNat rt.toNat ra.toNat rb.toNat
  | .slt rt ra rb sz => encRR 0x06 sz.toNat rt.toNat ra.toNat rb.toNat
  | .sltu rt ra rb sz => encRR 0x07 sz.toNat rt.toNat ra.toNat rb.toNat
  | .and rt ra rb sz => encRR 0x08 sz.toNat rt.toNat ra.toNat rb.toNat
  | .or rt ra rb sz => encRR 0x09 sz.toNat rt.toNat ra.toNat rb.toNat
  | .xor rt ra rb sz => encRR 0x0A sz.toNat rt.toNat ra.toNat rb.toNat
  | .seq rt ra rb sz => encRR 0x0B sz.toNat rt.toNat ra.toNat rb.toNat
  | .nand rt ra rb => encRR 0x0C 0 rt.toNat ra.toNat rb.toNat
  | .nor rt ra rb => encRR 0x0D 0 rt.toNat ra.toNat rb.toNat
  | .xnor rt ra rb => encRR 0x0E 0 rt.toNat ra.toNat rb.toNat
  | .modu rt ra rb sz => encRR 0x14 sz.toNat rt.toNat ra.toNat rb.toNat
  | .modsu rt ra rb sz => encRR 0x15 sz.toNat rt.toNat ra.toNat rb.toNat
  | .mod rt ra rb sz => encRR 0x16 sz.toNat rt.toNat ra.toNat rb.toNat
  | .ptrdif rt ra rb sc => encRR 0x1E sc.toNat rt.toNat ra.toNat rb.toNat
  | .muluh rt ra rb sz => encRR 0x24 sz.toNat rt.toNat ra.toNat rb.toNat
  | .mulsuh rt ra rb sz => encRR 0x25 sz.toNat rt.toNat ra.toNat rb.toNat
  | .mulh rt ra rb sz => encRR 0x26 sz.toNat rt.toNat ra.toNat rb.toNat
  | .sle rt ra rb sz => encRR 0x28 sz.toNat rt.toNat ra.toNat rb.toNat
  | .sleu rt ra rb sz => encRR 0x29 sz.toNat rt.toNat ra.toNat rb.toNat
  | .mulf rt ra rb sz => encRR 0x2A sz.toNat rt.toNat ra.toNat rb.toNat
  | .min rt ra rb sz => encRR 0x2C sz.toNat rt.toNat ra.toNat rb.toNat
  | .max rt ra rb sz => encRR 0x2D sz.toNat rt.toNat ra.toNat rb.toNat
  | .mulu rt ra rb sz => encRR 0x38 sz.toNat rt.toNat ra.toNat rb.toNat
  | .mulsu rt ra rb sz => encRR 0x39 sz.toNat rt.toNat ra.toNat rb.toNat
  | .mul rt ra rb sz => encRR 0x3A sz.toNat rt.toNat ra.toNat rb.toNat
  | .fxmul rt ra rb sz => encRR 0x3B sz.toNat rt.toNat ra.toNat rb.toNat
  | .divu rt ra rb sz => encRR 0x3C sz.toNat rt.toNat ra.toNat rb.toNat
  | .divsu rt ra rb sz => encRR 0x3D sz.toNat rt.toNat ra.toNat rb.toNat
  | .div rt ra rb sz => encRR 0x3E sz.toNat rt.toNat ra.toNat rb.toNat
  | .bcdadd rt ra rb => encRR 0x00 0 rt.toNat ra.toNat rb.toNat
  | .bcdsub rt ra rb => encRR 0x00 1 rt.toNat ra.toNat rb.toNat
  | .bcdmul rt ra rb => encRR 0x00 2 rt.toNat ra.toNat rb.toNat
  | .mor rt ra rb => encRR 0x03 0 rt.toNat ra.toNat rb.toNat
  | .mxor rt ra rb => encRR 0x03 1 rt.toNat ra.toNat rb.toNat
  | .mort rt ra rb => encRR 0x03 2 rt.toNat ra.toNat rb.toNat
  | .mxort rt ra rb => encRR 0x03 3 rt.toNat ra.toNat rb.toNat
  | .mov d rs rt ra => encRR (0x22 + rs.toNat / 32) d.toNat rt.toNat ra.toNat (rs.toNat % 32)
  | .chk ra rb rc => encRR 0x34 0 rb.toNat ra.toNat rc.toNat
  | .chki ra rb imm => encRI 0x34 0 rb.toNat ra.toNat imm.toNat
  | .shl rt ra rb => encRR 0x2F 0 rt.toNat ra.toNat rb.toNat
  | .shlImm rt ra n => encRR (0x0F + 16 * (n.toNat / 32)) 0 rt.toNat ra.toNat (n.toNat % 32)
  | .shlOp op2 sz n rt ra rc => encShift48 0 op2.toNat sz.toNat rt.toNat ra.toNat rc.toNat n
  | .shr rt ra rb => encRR 0x2F 1 rt.toNat ra.toNat rb.toNat
  | .shrImm rt ra n => encRR (0x0F + 16 * (n.toNat / 32)) 1 rt.toNat ra.toNat (n.toNat % 32)
  | .shrOp op2 sz n rt ra rc => encShift48 1 op2.toNat sz.toNat rt.toNat ra.toNat rc.toNat n
  | .asl rt ra rb => encRR 0x2F 2 rt.toNat ra.toNat rb.toNat
  | .aslImm rt ra n => encRR (0x0F + 16 * (n.toNat / 32)) 2 rt.toNat ra.toNat (n.toNat % 32)
  | .aslOp op2 sz n rt ra rc => encShift48 2 op2.toNat sz.toNat rt.toNat ra.toNat rc.toNat n
  | .asr rt ra rb => encRR 0x2F 3 rt.toNat ra.toNat rb.toNat
  | .asrImm rt ra n => encRR (0x0F + 16 * (n.toNat / 32)) 3 rt.toNat ra.toNat (n.toNat % 32)
  | .asrOp op2 sz n rt ra rc => encShift48 3 op2.toNat sz.toNat rt.toNat ra.toNat rc.toNat n
  | .rol rt ra rb => encRR 0x2F 4 rt.toNat ra.toNat rb.toNat
  | .rolImm rt ra n => encRR (0x0F + 16 * (n.toNat / 32)) 4 rt.toNat ra.toNat (n.toNat % 32)
  | .rolOp op2 sz n rt ra rc => encShift48 4 op2.toNat sz.toNat rt.toNat ra.toNat rc.toNat n
  | .ror rt ra rb => encRR 0x2F 5 rt.toNat ra.toNat rb.toNat
  | .rorImm rt ra n => encRR (0x0F + 16 * (n.toNat / 32)) 5 rt.toNat ra.toNat (n.toNat % 32)
  | .rorOp op2 sz n rt ra rc => encShift48 5 op2.toNat sz.toNat rt.toNat ra.toNat rc.toNat n
  | .cntlz rt ra sz => encRR 0x01 sz.toNat rt.toNat ra.toNat 0x00
  | .cntlo rt ra sz => encRR 0x01 sz.toNat rt.toNat ra.toNat 0x01
  | .cntpop rt ra sz => encRR 0x01 sz.toNat rt.toNat ra.toNat 0x02
  | .com rt ra => encRR 0x01 0 rt.toNat ra.toNat 0x03
  | .abs rt ra sz => encRR 0x01 sz.toNat rt.toNat ra.toNat 0x04
  | .not rt ra sz => encRR 0x01 sz.toNat rt.toNat ra.toNat 0x05
  | .redor rt ra sz => encRR 0x01 sz.toNat rt.toNat ra.toNat 0x06
  | .neg rt ra sz => encRR 0x01 sz.toNat rt.toNat ra.toNat 0x07
  | .zxh rt ra => encRR 0x01 0 rt.toNat ra.toNat 0x08
  | .zxc rt ra => encRR 0x01 0 rt.toNat ra.toNat 0x09
  | .zxb rt ra => encRR 0x01 0 rt.toNat ra.toNat 0x0A
  | .sxh rt ra => encRR 0x01 0 rt.toNat ra.toNat 0x18
  | .sxc rt ra => encRR 0x01 0 rt.toNat ra.toNat 0x19
  | .sxb rt ra => encRR 0x01 0 rt.toNat ra.toNat 0x1A
  | .memdb => encRR 0x01 0 0 0 0x10
  | .memsb => encRR 0x01 0 0 0 0x11
  | .sync => encRR 0x01 0 0 0 0x12
  | .execBuf n => encRR 0x01 0 (n.toNat / 32) (n.toNat % 32) 0x13
  | .chainoff => encRR 0x01 0 0 0 0x14
  | .chainon => encRR 0x01 0 0 0 0x15
  | .setwb rn => encRR 0x01 0 0 rn.toNat 0x16
  | .wtme ra rb => encRR 0x01 0 rb.toNat ra.toNat 0x1D
  | .rtop rt ra rb rc sz => encRR48 0x00 0 sz.toNat rt.toNat ra.toNat rb.toNat rc.toNat
  | .add3 rt ra rb rc => encRR48 0x04 0 0 rt.toNat ra.toNat rb.toNat rc.toNat
  | .or3 rt ra rb rc sz => encRR48 0x09 0 sz.toNat rt.toNat ra.toNat rb.toNat rc.toNat
  | .xorOp op2 sz rt ra rb rc => encRR48 0x0A op2.toNat sz.toNat rt.toNat ra.toNat rb.toNat rc.toNat
  | .subv rt ra rb => encRR48 0x0B 0 0 rt.toNat ra.toNat rb.toNat 0
  | .mux rt ra rb rc => encRR48 0x1B 0 0 rt.toNat ra.toNat rb.toNat rc.toNat
  | .cmovez rt ra rb rc => encRR48 0x28 0 0 rt.toNat ra.toNat rb.toNat rc.toNat
  | .cmovnz rt ra rb rc => encRR48 0x29 0 0 rt.toNat ra.toNat rb.toNat rc.toNat
  | .caddnz rt ra rb rc => encRR48 0x29 8 0 rt.toNat ra.toNat rb.toNat rc.toNat
  | .cmovnzi rt ra rb imm => 0x02 + 2 ^ 6 + 2 ^ 8 * ra.toNat + 2 ^ 13 * rt.toNat + 2 ^ 18 * rb.toNat + 2 ^ 23 * imm.toNat + 2 ^ 39 * 4 + 2 ^ 42 * 0x29
  | .caddnzi rt ra rb imm => 0x02 + 2 ^ 6 + 2 ^ 8 * ra.toNat + 2 ^ 13 * rt.toNat + 2 ^ 18 * rb.toNat + 2 ^ 23 * imm.toNat + 2 ^ 39 * 5 + 2 ^ 42 * 0x29
  | .min3 rt ra rb rc sz => encRR48 0x2C 0 sz.toNat rt.toNat ra.toNat rb.toNat rc.toNat
  | .max3 rt ra rb rc sz => encRR48 0x2D 0 sz.toNat rt.toNat ra.toNat rb.toNat rc.toNat
  | .maj rt ra rb rc => encRR48 0x2E 0 0 rt.toNat ra.toNat rb.toNat rc.toNat
  | .bfclr rt rg da bw bo => encBF 1 rt.toNat rg.toNat da.toNat bw.toNat bo.toNat
  | .bfchg rt rg da bw bo => encBF 2 rt.toNat rg.toNat da.toNat bw.toNat bo.toNat
  | .bfins rt rg da bw bo => encBF 3 rt.toNat rg.toNat da.toNat bw.toNat bo.toNat
  | .bfinsi rt rg da bw bo => encBF 4 rt.toNat rg.toNat da.toNat bw.toNat bo.toNat
  | .bfext rt rg da bw bo => encBF 5 rt.toNat rg.toNat da.toNat bw.toNat bo.toNat
  | .bfextu rt rg da bw bo => encBF 6 rt.toNat rg.toNat da.toNat bw.toNat bo.toNat
  | .bfffo rt rg da bw bo => encBF 8 rt.toNat rg.toNat da.toNat bw.toNat bo.toNat
  | .nop long => 0x3D + 2 ^ 6 * l2Of long
  | .lb rt ra imm => encRI 0x13 imm.l2 rt.toNat ra.toNat imm.nat
  | .lbu rt ra imm => encRI 0x23 imm.l2 rt.toNat ra.toNat imm.nat
  | .lwr rt ra imm => encRI 0x1D imm.l2 rt.toNat ra.toNat imm.nat
  | .lc rt ra disp => encRI 0x20 disp.l2 rt.toNat ra.toNat (disp.nat + 1)
  | .lh rt ra disp => encRI 0x20 disp.l2 rt.toNat ra.toNat (disp.nat + 2)
  | .lw rt ra disp => encRI 0x20 disp.l2 rt.toNat ra.toNat (disp.nat + 4)
  | .ld rt ra disp => encRI 0x20 disp.l2 rt.toNat ra.toNat (disp.nat + 8)
  | .lcu rt ra disp => encRI 0x21 disp.l2 rt.toNat ra.toNat (disp.nat + 1)
  | .lhu rt ra disp => encRI 0x21 disp.l2 rt.toNat ra.toNat (disp.nat + 2)
  | .lfs rt ra disp => encRI 0x1B disp.l2 rt.toNat ra.toNat (disp.nat + 2)
  | .lfd rt ra disp => encRI 0x1B disp.l2 rt.toNat ra.toNat (disp.nat + 4)
  | .lfq rt ra disp => encRI 0x1B disp.l2 rt.toNat ra.toNat (disp.nat + 8)
  | .lvc rt ra disp => encRI 0x3B disp.l2 rt.toNat ra.toNat (disp.nat + 1)
  | .lvh rt ra disp => encRI 0x3B disp.l2 rt.toNat ra.toNat (disp.nat + 2)
  | .lvw rt ra disp => encRI 0x3B disp.l2 rt.toNat ra.toNat (disp.nat + 4)
  | .lvcu rt ra disp => encRI 0x11 disp.l2 rt.toNat ra.toNat (disp.nat + 1)
  | .lvhu rt ra disp => encRI 0x11 disp.l2 rt.toNat ra.toNat (disp.nat + 2)
  | .sb rb ra disp => encMS 0x15 disp.l2 rb.toNat ra.toNat disp.nat
  | .swc rb ra disp => encMS 0x17 disp.l2 rb.toNat ra.toNat disp.nat
  | .sc rb ra disp => encMS 0x24 disp.l2 rb.toNat ra.toNat (disp.nat + 1)
  | .sh rb ra disp => encMS 0x24 disp.l2 rb.toNat ra.toNat (disp.nat + 2)
  | .sw rb ra disp => encMS 0x24 disp.l2 rb.toNat ra.toNat (disp.nat + 4)
  | .sfs rb ra disp => encMS 0x2B disp.l2 rb.toNat ra.toNat (disp.nat + 2)
  | .sfd rb ra disp => encMS 0x2B disp.l2 rb.toNat ra.toNat (disp.nat + 4)
  | .sfq rb ra disp => encMS 0x2B disp.l2 rb.toNat ra.toNat (disp.nat + 8)
  | .cas rt ra disp => encRI 0x25 0 rt.toNat ra.toNat disp.toNat
  | .pushc rt ra imm => encRI 0x14 imm.l2 rt.toNat ra.toNat imm.nat
  | .inc amt ra imm => encRI 0x1A imm.l2 amt.toNat ra.toNat imm.nat
  | .cache cmd ra imm => encRI 0x1E imm.l2 cmd.toNat ra.toNat imm.nat
  | .lv vt ra imm => encRI 0x36 imm.l2 vt.toNat ra.toNat imm.nat
  | .sv vb ra disp => encMS 0x37 disp.l2 vb.toNat ra.toNat disp.nat
  | .lvbx rt ra rc sc => encMXL 0 0 rt.toNat ra.toNat rc.toNat sc.toNat
  | .lvbux rt ra rc sc => encMXL 0 1 rt.toNat ra.toNat rc.toNat sc.toNat
  | .lvcx rt ra rc sc => encMXL 0 2 rt.toNat ra.toNat rc.toNat sc.toNat
  | .lvcux rt ra rc sc => encMXL 0 3 rt.toNat ra.toNat rc.toNat sc.toNat
  | .lvhx rt ra rc sc => encMXL 1 0 rt.toNat ra.toNat rc.toNat sc.toNat
  | .lvhux rt ra rc sc => encMXL 1 1 rt.toNat ra.toNat rc.toNat sc.toNat
  | .lvwx rt ra rc sc => encMXL 1 2 rt.toNat ra.toNat rc.toNat sc.toNat
  | .lcx rt ra rc sc => encMXL 2 0 rt.toNat ra.toNat rc.toNat sc.toNat
  | .lcux rt ra rc sc => encMXL 2 1 rt.toNat ra.toNat rc.toNat sc.toNat
  | .lbux rt ra rc sc => encMXL 2 2 rt.toNat ra.toNat rc.toNat sc.toNat
  | .lhx rt ra rc sc => encMXL 4 0 rt.toNat ra.toNat rc.toNat sc.toNat
  | .lhux rt ra rc sc => encMXL 4 1 rt.toNat ra.toNat rc.toNat sc.toNat
  | .lwx rt ra rc sc => encMXL 4 2 rt.toNat ra.toNat rc.toNat sc.toNat
  | .lbx rt ra rc sc => encMXL 4 3 rt.toNat ra.toNat rc.toNat sc.toNat
  | .lwrx rt ra rc sc => encMXL 5 0 rt.toNat ra.toNat rc.toNat sc.toNat
  | .leax rt ra rc sc => encMXL 6 0 rt.toNat ra.toNat rc.toNat sc.toNat
  | .lvx vt ra vc sc => encMXL 6 1 vt.toNat ra.toNat vc.toNat sc.toNat
  | .lvws vt ra rc sc => encMXL 6 2 vt.toNat ra.toNat rc.toNat sc.toNat
  | .lfsx rt ra rc sc => encMXL 7 0 rt.toNat ra.toNat rc.toNat sc.toNat
  | .lfdx rt ra rc sc => encMXL 7 1 rt.toNat ra.toNat rc.toNat sc.toNat
  | .cachex cmd ra rc sc => encMXL 7 2 cmd.toNat ra.toNat rc.toNat sc.toNat
  | .lfqx rt ra rc sc => encMXL 7 3 rt.toNat ra.toNat rc.toNat sc.toNat
  | .sbx rb ra rc sc => encMXS 8 0 rb.toNat ra.toNat rc.toNat sc.toNat
  | .shx rb ra rc sc => encMXS 8 1 rb.toNat ra.toNat rc.toNat sc.toNat
  | .swx rb ra rc sc => encMXS 8 2 rb.toNat ra.toNat rc.toNat sc.toNat
  | .swcx rb ra rc sc => encMXS 8 3 rb.toNat ra.toNat rc.toNat sc.toNat
  | .scx rb ra rc sc => encMXS 9 0 rb.toNat ra.toNat rc.toNat sc.toNat
  | .casx rt ra rc sc => encMXS 9 1 rt.toNat ra.toNat rc.toNat sc.toNat
  | .svws vb ra rc sc => encMXS 9 3 vb.toNat ra.toNat rc.toNat sc.toNat
  | .incx amt ra rc sc => encMXS 10 2 amt.toNat ra.toNat rc.toNat sc.toNat
  | .sfsx rb ra rc sc => encMXS 11 0 rb.toNat ra.toNat rc.toNat sc.toNat
  | .sfdx rb ra rc sc => encMXS 11 1 rb.toNat ra.toNat rc.toNat sc.toNat
  | .sfqx rb ra rc sc => encMXS 11 3 rb.toNat ra.toNat rc.toNat sc.toNat
  | .svx vb ra vc sc => encMXS 13 3 vb.toNat ra.toNat vc.toNat sc.toNat
  | .push rb rt ra => 0x16 + 2 ^ 8 * ra.toNat + 2 ^ 13 * rt.toNat + 2 ^ 18 * rb.toNat + 2 ^ 28 * 0xC
  | .amoSwap rt ra rb sz acq rel => encAmo 0x2F 0 rt.toNat ra.toNat rb.toNat sz.toNat acq rel
  | .amoSwapImm rt ra imm sz acq rel => encAmo 0x3F 0 rt.toNat ra.toNat imm.toNat sz.toNat acq rel
  | .amoAdd rt ra rb sz acq rel => encAmo 0x2F 1 rt.toNat ra.toNat rb.toNat sz.toNat acq rel
  | .amoAddImm rt ra imm sz acq rel => encAmo 0x3F 1 rt.toNat ra.toNat imm.toNat sz.toNat acq rel
  | .amoAnd rt ra rb sz acq rel => encAmo 0x2F 2 rt.toNat ra.toNat rb.toNat sz.toNat acq rel
  | .amoAndImm rt ra imm sz acq rel => encAmo 0x3F 2 rt.toNat ra.toNat imm.toNat sz.toNat acq rel
  | .amoOr rt ra rb sz acq rel => encAmo 0x2F 3 rt.toNat ra.toNat rb.toNat sz.toNat acq rel
  | .amoOrImm rt ra imm sz acq rel => encAmo 0x3F 3 rt.toNat ra.toNat imm.toNat sz.toNat acq rel
  | .amoXor rt ra rb sz acq rel => encAmo 0x2F 4 rt.toNat ra.toNat rb.toNat sz.toNat acq rel
  | .amoXorImm rt ra imm sz acq rel => encAmo 0x3F 4 rt.toNat ra.toNat imm.toNat sz.toNat acq rel
  | .amoShl rt ra rb sz acq rel => encAmo 0x2F 5 rt.toNat ra.toNat rb.toNat sz.toNat acq rel
  | .amoShlImm rt ra imm sz acq rel => encAmo 0x3F 5 rt.toNat ra.toNat imm.toNat sz.toNat acq rel
  | .amoShr rt ra rb sz acq rel => encAmo 0x2F 6 rt.toNat ra.toNat rb.toNat sz.toNat acq rel
  | .amoShrImm rt ra imm sz acq rel => encAmo 0x3F 6 rt.toNat ra.toNat imm.toNat sz.toNat acq rel
  | .amoMin rt ra rb sz acq rel => encAmo 0x2F 7 rt.toNat ra.toNat rb.toNat sz.toNat acq rel
  | .amoMinImm rt ra imm sz acq rel => encAmo 0x3F 7 rt.toNat ra.toNat imm.toNat sz.toNat acq rel
  | .amoMax rt ra rb sz acq rel => encAmo 0x2F 8 rt.toNat ra.toNat rb.toNat sz.toNat acq rel
  | .amoMaxImm rt ra imm sz acq rel => encAmo 0x3F 8 rt.toNat ra.toNat imm.toNat sz.toNat acq rel
  | .amoMinu rt ra rb sz acq rel => encAmo 0x2F 9 rt.toNat ra.toNat rb.toNat sz.toNat acq rel
  | .amoMinuImm rt ra imm sz acq rel => encAmo 0x3F 9 rt.toNat ra.toNat imm.toNat sz.toNat acq rel
  | .amoMaxu rt ra rb sz acq rel => encAmo 0x2F 10 rt.toNat ra.toNat rb.toNat sz.toNat acq rel
  | .amoMaxuImm rt ra imm sz acq rel => encAmo 0x3F 10 rt.toNat ra.toNat imm.toNat sz.toNat acq rel
  | .beq ra rb disp => encBD 0x30 0 ra.toNat rb.toNat disp.toNat
  | .bne ra rb disp => encBD 0x30 1 ra.toNat rb.toNat disp.toNat
  | .blt ra rb disp => encBD 0x30 2 ra.toNat rb.toNat disp.toNat
  | .bge ra rb disp => encBD 0x30 3 ra.toNat rb.toNat disp.toNat
  | .band ra rb disp => encBD 0x30 4 ra.toNat rb.toNat disp.toNat
  | .bor ra rb disp => encBD 0x30 5 ra.toNat rb.toNat disp.toNat
  | .bltu ra rb disp => encBD 0x30 6 ra.toNat rb.toNat disp.toNat
  | .bgeu ra rb disp => encBD 0x30 7 ra.toNat rb.toNat disp.toNat
  | .fbeq ra rb disp => encBD fb.toNat 0 ra.toNat rb.toNat disp.toNat
  | .fbne ra rb disp => encBD fb.toNat 1 ra.toNat rb.toNat disp.toNat
  | .fblt ra rb disp => encBD fb.toNat 2 ra.toNat rb.toNat disp.toNat
  | .fbge ra rb disp => encBD fb.toNat 3 ra.toNat rb.toNat disp.toNat
  | .fbun ra rb disp => encBD fb.toNat 7 ra.toNat rb.toNat disp.toNat
  | .bbs ra bit disp => encBB 0 ra.toNat bit.toNat disp.toNat
  | .bbc ra bit disp => encBB 1 ra.toNat bit.toNat disp.toNat
  | .beqi ra imm disp => encBE 0x32 ra.toNat imm.toNat disp.toNat
  | .bnei ra imm disp => encBE 0x12 ra.toNat imm.toNat disp.toNat
  | .jmp t => encJC 0x28 t
  | .call t => encJC 0x19 t
  | .jal rt ra t => encJal rt.toNat ra.toNat t
  | .ret lr rt ra imm => 0x29 + 2 ^ 8 * ra.toNat + 2 ^ 13 * rt.toNat + 2 ^ 18 * lr.toNat + 2 ^ 23 * imm.toNat
  | .brk user skip lvl cause long => encBrk user.toNat skip.toNat lvl.toNat 0 cause.toNat (l2Of long)
  | .brkReg user skip lvl ra long => encBrk user.toNat skip.toNat lvl.toNat 1 ra.toNat (l2Of long)
  | .pfi user => encBrk user.toNat 2 0 0 255 0
  | .csrrd ol regno rt ra => encCsr 0 ol.toNat regno.toNat rt.toNat ra.toNat
  | .csrrw ol regno rt ra => encCsr 1 ol.toNat regno.toNat rt.toNat ra.toNat
  | .csrrs ol regno rt ra => encCsr 2 ol.toNat regno.toNat rt.toNat ra.toNat
  | .csrrc ol regno rt ra => encCsr 3 ol.toNat regno.toNat rt.toNat ra.toNat
  | .rex im pl tgt ra => 0x0D + 2 ^ 8 * ra.toNat + 2 ^ 13 * tgt.toNat + 2 ^ 18 * pl.toNat + 2 ^ 26 * im.toNat
  | .sei rt ra m => encRR 0x30 0 rt.toNat ra.toNat m.toNat
  | .cli => encRR 0x30 0 0 0 0
  | .wait ra rb imm => encRR 0x31 0 rb.toNat ra.toNat imm.toNat
  | .rti sema ra => encRR 0x32 (sema.toNat / 32) 0 ra.toNat (sema.toNat % 32)
  | .vmovTo ct ra => encRR 0x33 0 ct.toNat ra.toNat 0
  | .vmovFrom rt ca => encRR 0x33 0 rt.toNat ca.toNat 1
  | .tlb cmd tn rt ra => 0x02 + 2 ^ 8 * ra.toNat + 2 ^ 13 * rt.toNat + 2 ^ 18 * tn.toNat + 2 ^ 22 * cmd.toNat + 2 ^ 26 * 0x3F
  | .nop16 => 0x0080
  | .addisp amt => encC 0x009F amt.toNat 0
  | .addi16 rt amt => encC 0x0080 amt.toNat rt.toNat
  | .ldi16 rt amt => encC 0x1080 amt.toNat rt.toNat
  | .brk16 f5 => encC 0x1080 f5.toNat 0
  | .pfi16 => 0x1FA0
  | .andi16 rt amt => encC 0x2080 amt.toNat rt.toNat
  | .ret16 amt => encC 0x2080 amt.toNat 0
  | .shli16 rt amt => encC 0x3080 amt.toNat rt.toNat
  | .shri16 q amt => encC 0x4080 amt.toNat q.toNat
  | .asri16 q amt => encC 0x4088 amt.toNat q.toNat
  | .ori16 q amt => encC 0x4090 amt.toNat q.toNat
  | .sub16 q r => encCd 0x4098 r.toNat q.toNat 0
  | .and16 q r => encCd 0x4498 r.toNat q.toNat 0
  | .or16 q r => encCd 0x4898 r.toNat q.toNat 0
  | .xor16 q r => encCd 0x4C98 r.toNat q.toNat 0
  | .call16 addr => encC 0x5080 (addr.toNat / 32) (addr.toNat % 32)
  | .bra16 disp => encC 0x7080 (disp.toNat / 32) (disp.toNat % 32)
  | .beqz16 ra disp => encC7 0x8080 disp.toNat ra.toNat
  | .bnez16 ra disp => encC7 0xC080 disp.toNat ra.toNat
  | .mov16 ra rt => encC 0x00C0 rt.toNat ra.toNat
  | .add16 rt rb => encC 0x10C0 rb.toNat rt.toNat
  | .jalr16 ra rt => encC 0x20C0 rt.toNat ra.toNat
  | .push16 rb => encC 0x30C0 0 rb.toNat
  | .lhSp rt d => encC 0x40C0 d.toNat rt.toNat
  | .lwSp rt d => encC 0x50C0 d.toNat rt.toNat
  | .lhFp rt d => encC 0x60C0 d.toNat rt.toNat
  | .lwFp rt d => encC 0x70C0 d.toNat rt.toNat
  | .shSp rb d => encC 0x80C0 d.toNat rb.toNat
  | .swSp rb d => encC 0x90C0 d.toNat rb.toNat
  | .shFp rb d => encC 0xA0C0 d.toNat rb.toNat
  | .swFp rb d => encC 0xB0C0 d.toNat rb.toNat
  | .lhPr r q d => encCd 0xC0C0 r.toNat q.toNat d.toNat
  | .lwPr r q d => encCd 0xD0C0 r.toNat q.toNat d.toNat
  | .shPr r q d => encCd 0xE0C0 r.toNat q.toNat d.toNat
  | .swPr r q d => encCd 0xF0C0 r.toNat q.toNat d.toNat
  | .fadd rt ra rb f => encF2 0x04 rt.toNat ra.toNat rb.toNat f
  | .fsub rt ra rb f => encF2 0x05 rt.toNat ra.toNat rb.toNat f
  | .fcmp rt ra rb f => encF2 0x06 rt.toNat ra.toNat rb.toNat f
  | .fmul rt ra rb f => encF2 0x08 rt.toNat ra.toNat rb.toNat f
  | .fdiv rt ra rb f => encF2 0x09 rt.toNat ra.toNat rb.toNat f
  | .fslt rt ra rb f => encF2 0x38 rt.toNat ra.toNat rb.toNat f
  | .fsge rt ra rb f => encF2 0x39 rt.toNat ra.toNat rb.toNat f
  | .fsle rt ra rb f => encF2 0x3A rt.toNat ra.toNat rb.toNat f
  | .fsgt rt ra rb f => encF2 0x3B rt.toNat ra.toNat rb.toNat f
  | .fseq rt ra rb f => encF2 0x3C rt.toNat ra.toNat rb.toNat f
  | .fsne rt ra rb f => encF2 0x3D rt.toNat ra.toNat rb.toNat f
  | .fsun rt ra rb f => encF2 0x3E rt.toNat ra.toNat rb.toNat f
  | .fmov rt ra prc rm long => encF1 0x10 rt.toNat ra.toNat 0 prc.toNat rm.toNat long
  | .ftoi rt ra prc rm long => encF1 0x12 rt.toNat ra.toNat 0 prc.toNat rm.toNat long
  | .itof rt ra fromX prc rm long => encF1 0x13 rt.toNat ra.toNat fromX.toNat prc.toNat rm.toNat long
  | .fneg rt ra prc rm long => encF1 0x14 rt.toNat ra.toNat 0 prc.toNat rm.toNat long
  | .fabs rt ra prc rm long => encF1 0x15 rt.toNat ra.toNat 0 prc.toNat rm.toNat long
  | .fsign rt ra prc rm long => encF1 0x16 rt.toNat ra.toNat 0 prc.toNat rm.toNat long
  | .fnabs rt ra prc rm long => encF1 0x18 rt.toNat ra.toNat 0 prc.toNat rm.toNat long
  | .fcvtsd rt ra prc rm long => encF1 0x19 rt.toNat ra.toNat 0 prc.toNat rm.toNat long
  | .fsqrt rt ra prc rm long => encF1 0x1D rt.toNat ra.toNat 0 prc.toNat rm.toNat long
  | .ftx ra imm f => encFF 0x20 ra.toNat imm.toNat f
  | .fcx ra imm f => encFF 0x21 ra.toNat imm.toNat f
  | .fex ra imm f => encFF 0x22 ra.toNat imm.toNat f
  | .fdx ra imm f => encFF 0x23 ra.toNat imm.toNat f
  | .fsync f => encFF 0x36 0 0 f
  | .vcmprss fp len m vt va => encV fp 0x00 m.toNat vt.toNat va.toNat 0 len
  | .vcidx fp len m vt ra => encV fp 0x01 m.toNat vt.toNat ra.toNat 0 len
  | .vscan fp len m vt ra => encV fp 0x02 m.toNat vt.toNat ra.toNat 0 len
  | .vabs fp len m vt va => encV fp 0x03 m.toNat vt.toNat va.toNat 0 len
  | .vadd fp len m vt va vb => encV fp 0x04 m.toNat vt.toNat va.toNat vb.toNat len
  | .vsub fp len m vt va vb => encV fp 0x05 m.toNat vt.toNat va.toNat vb.toNat len
  | .vand fp len m vt va vb => encV fp 0x08 m.toNat vt.toNat va.toNat vb.toNat len
  | .vor fp len m vt va vb => encV fp 0x09 m.toNat vt.toNat va.toNat vb.toNat len
  | .vxor fp len m vt va vb => encV fp 0x0A m.toNat vt.toNat va.toNat vb.toNat len
  | .vxchg fp len m va vb => encV fp 0x0B m.toNat 0 va.toNat vb.toNat len
  | .vshl fp len m vt va b => encVSh fp 0x0C m.toNat vt.toNat va.toNat b.toNat len
  | .vshr fp len m vt va b => encVSh fp 0x0D m.toNat vt.toNat va.toNat b.toNat len
  | .vasr fp len m vt va b => encVSh fp 0x0E m.toNat vt.toNat va.toNat b.toNat len
  | .vshlv fp len m vt va amt => encV fp 0x10 m.toNat vt.toNat va.toNat amt.toNat len
  | .vshrv fp len m vt va amt => encV fp 0x11 m.toNat vt.toNat va.toNat amt.toNat len
  | .vadds fp len m vt va rb => encV fp 0x14 m.toNat vt.toNat va.toNat rb.toNat len
  | .vsubs fp len m vt va rb => encV fp 0x15 m.toNat vt.toNat va.toNat rb.toNat len
  | .vsubrs fp len m vt va rb => encV fp 0x16 m.toNat vt.toNat va.toNat rb.toNat len
  | .vands fp len m vt va rb => encV fp 0x18 m.toNat vt.toNat va.toNat rb.toNat len
  | .vors fp len m vt va rb => encV fp 0x19 m.toNat vt.toNat va.toNat rb.toNat len
  | .vxors fp len m vt va rb => encV fp 0x1A m.toNat vt.toNat va.toNat rb.toNat len
  | .vbits2v fp len m vt ra => encV fp 0x20 m.toNat vt.toNat ra.toNat 0 len
  | .v2bits fp len m rt va => encV fp 0x21 m.toNat rt.toNat va.toNat 0 len
  | .veins fp len m vt ra rb => encV fp 0x22 m.toNat vt.toNat ra.toNat rb.toNat len
  | .vex fp len m rt ra vb => encV fp 0x23 m.toNat rt.toNat ra.toNat vb.toNat len
  | .vflt2int fp len m vt va => encV fp 0x24 m.toNat vt.toNat va.toNat 0 len
  | .vint2flt fp len m vt va => encV fp 0x25 m.toNat vt.toNat va.toNat 0 len
  | .vsign fp len m vt va => encV fp 0x26 m.toNat vt.toNat va.toNat 0 len
  | .vcntpop fp len m vt va => encV fp 0x28 m.toNat vt.toNat va.toNat 0 len
  | .vmuls fp len m vt va rb => encV fp 0x2A m.toNat vt.toNat va.toNat rb.toNat len
  | .vdivs fp len m vt va rb => encV fp 0x2E m.toNat vt.toNat va.toNat rb.toNat len
  | .vmul fp len m vt va vb => encV fp 0x3A m.toNat vt.toNat va.toNat vb.toNat len
  | .vdiv fp len m vt va vb => encV fp 0x3E m.toNat vt.toNat va.toNat vb.toNat len
  | .vneg fp len m vt va => encV fp 0x16 m.toNat vt.toNat va.toNat 0 len
  | .vsxx fp len m cn mt va vb => encV fp (cmpFunct cn.toNat 0x06 0x3F) m.toNat (cmpPlace cn.toNat mt.toNat) va.toNat vb.toNat len
  | .vsxxs fp len m cn mt va rb => encV fp (cmpFunct cn.toNat 0x07 0x0F) m.toNat (cmpPlace cn.toNat mt.toNat) va.toNat rb.toNat len
  | .vsxxu len m cn mt va vb => encV false (cmpFunct cn.toNat 0x27 0x2F) m.toNat (cmpPlace cn.toNat mt.toNat) va.toNat vb.toNat len
  | .vsxxsu len m cn mt va rb => encV false (cmpFunct cn.toNat 0x17 0x1F) m.toNat (cmpPlace cn.toNat mt.toNat) va.toNat rb.toNat len
  | .vmand fp mt ma mb => encV fp 0x30 0 mt.toNat ma.toNat mb.toNat .short
  | .vmor fp mt ma mb => encV fp 0x30 1 mt.toNat ma.toNat mb.toNat .short
  | .vmxor fp mt ma mb => encV fp 0x30 2 mt.toNat ma.toNat mb.toNat .short
  | .vmxnor fp mt ma mb => encV fp 0x30 3 mt.toNat ma.toNat mb.toNat .short
  | .vmpop fp rt ma => encV fp 0x30 4 rt.toNat ma.toNat 0 .short
  | .vmfill fp mt ra => encV fp 0x30 5 mt.toNat ra.toNat 0 .short
  | .vmfirst fp rt ma => encV fp 0x30 6 rt.toNat ma.toNat 0 .short
  | .vmlast fp rt ma => encV fp 0x30 7 rt.toNat ma.toNat 0 .short
  | .vsync fp => encV fp 0x36 0 0 0 0 .short

/-- The bytes of a well-formed instruction, in memory order. -/
def encode (fb : BitVec 6) (i : Instr) : List Byte := bytesOfWord (lengthOf (encodeWord fb i)) (encodeWord fb i)

/-- The instruction read from the bits w, laid out low byte first with zeros above nbits, for the default FBcc
opcode. -/
noncomputable def decodeTableWord (nbits w : Nat) : Option Instr :=
  match decode defaultConfig.fbccOpcode (bytesOfWord 6 (w % 2 ^ nbits)) with
  | .ok (i, _) => some i
  | .error _ => none

end Sys2Proof
end

