-- ==== Sys2Proof/Machine/Bits.lean ====
section
/-! DEFINITION. Bit fields: 00_scope R8, R10. -/

namespace Sys2Proof.Machine

/-- v[lo+n-1 : lo] (00_scope R8). -/
def field {m : Nat} (w : BitVec m) (lo n : Nat) : BitVec n := w.extractLsb' lo n

/-- The n ones of a field at bit lo of an m-bit value. -/
def fieldMask (m lo n : Nat) : BitVec m := ((BitVec.allOnes n).setWidth m) <<< lo

/-- w with the field at bit lo replaced by v. -/
def setField {m : Nat} (w : BitVec m) (lo : Nat) {n : Nat} (v : BitVec n) : BitVec m :=
  (w &&& ~~~ (fieldMask m lo n)) ||| (v.setWidth m <<< lo)

/-- Bit k of a word. -/
def bitAt {m : Nat} (w : BitVec m) (k : Nat) : Bool := field w k 1 == 1

/-- w with bit k set to b. -/
def setBitAt {m : Nat} (w : BitVec m) (k : Nat) (b : Bool) : BitVec m := setField w k (BitVec.ofBool b)

/-- The word 1 or 0 of a condition (40_integer_alu R330). -/
def boolWord {m : Nat} (b : Bool) : BitVec m := if b then 1 else 0

/-- sext_64 (00_scope R10). -/
def sext64 {n : Nat} (v : BitVec n) : Word := v.signExtend 64

/-- zext_64 (00_scope R10). -/
def zext64 {n : Nat} (v : BitVec n) : Word := v.setWidth 64

end Sys2Proof.Machine
end

