-- ==== Sys2Proof/Machine/State.lean ====
section
/-! DEFINITION. The state of FT64v7 as plain data: 10_state, 20_memory R160 to R176, 45_system R662 to R675. Fields marked
"model" are the model's own, not the spec's (log 17, log 18). -/

namespace Sys2Proof.Machine

/-- Data by key, with a default for a key that is not listed: keys rising, no entry equal to the default
(Sys2Proof.Machine.Store). -/
abbrev Store (α : Type) := List (Nat × α)

/-- Four like registers (DBAD, TVEC). -/
structure Bank4 where
  r0 : Word
  r1 : Word
  r2 : Word
  r3 : Word
  deriving DecidableEq, Repr

/-- Eight like registers (the vector mask registers, EPC). -/
structure Bank8 where
  r0 : Word
  r1 : Word
  r2 : Word
  r3 : Word
  r4 : Word
  r5 : Word
  r6 : Word
  r7 : Word
  deriving DecidableEq, Repr

/-- The control and status registers with storage (10_state R42 to R66). -/
structure Csrs where
  /-- CR0, R43 -/
  cr0 : Word
  /-- PCR and PCR2, R46 -/
  pcr : Word
  pcr2 : Word
  /-- AEC, R47 -/
  aec : Word
  /-- PMR, R48 -/
  pmr : Word
  /-- CAUSE at operating levels 0, 1, 2, R41 R49 -/
  cause0 : BitVec 16
  cause1 : BitVec 16
  cause2 : BitVec 16
  /-- BADADDR at operating levels 0, 1, 2, R41 R50 -/
  badaddr0 : Word
  badaddr1 : Word
  badaddr2 : Word
  /-- SCRATCH, R50 -/
  scratch : Word
  /-- WBRCD, R51 -/
  wbrcd : Word
  /-- BAD_INSTR, R52 -/
  badInstr : Word
  /-- SEMA, R53 -/
  sema : Word
  /-- VM_SEMA, R54 -/
  vmSema : Word
  /-- KEYS, R55 -/
  keys : Word
  /-- TCB and WRS, R56 -/
  tcb : Word
  wrs : Word
  /-- FSTAT, R57 -/
  fstat : Word
  /-- DBAD0 to DBAD3, DBCR, R58 -/
  dbad : Bank4
  dbcr : Word
  /-- DBSR, R59 -/
  dbsr : Word
  /-- CAS, R60 -/
  cas : Word
  /-- TVEC[0..3], R63 -/
  tvec : Bank4
  /-- the trap state stacks, R61 -/
  imStack : BitVec 32
  olStack : BitVec 32
  plStack : BitVec 64
  rsStack : BitVec 48
  brsStack : BitVec 48
  /-- STATUS, R62 -/
  status : Word
  /-- EPC[0..7], R65 -/
  epc : Bank8
  /-- CODEBUF[0..63], R66; an unlisted buffer is 0 -/
  codebuf : Store Word
  deriving DecidableEq, Repr

/-- The free-running counters (10_state R45, R67, R68). -/
structure Counters where
  /-- TICK, R45 -/
  tick : Word
  /-- cycles of tm_clk, of which TIME is the seconds and the rest, R68 -/
  tmClk : Nat
  /-- IQ_CTR, BM_CTR, IRQ_CTR, BR_CTR, R67 -/
  iqCtr : BitVec 40
  bmCtr : BitVec 40
  irqCtr : BitVec 40
  brCtr : BitVec 40
  /-- INSTRET, R67 -/
  instret : Word
  deriving DecidableEq, Repr

/-- A TLB entry (20_memory R161) but for its reference count: the attribute word has the layout of R166. -/
structure TlbEntry where
  vpn : Word
  ppn : Word
  attr : Word
  deriving DecidableEq, Repr

/-- The TLB and its registers (20_memory R160 to R168). -/
structure TlbState where
  /-- R160 -/
  enabled : Bool
  /-- 256 entries, R161; an unlisted one is all zero -/
  entries : Store TlbEntry
  /-- the reference counts of the 256 entries, R161; an unlisted one is 0 -/
  refcnts : Store (BitVec 32)
  /-- the aging counter, R168 -/
  aging : BitVec 24
  /-- the internal registers, R164 -/
  wired : Word
  index : Word
  random : BitVec 4
  pageSize : Word
  virtPage : Word
  physPage : Word
  asid : Word
  ma : Word
  pta : Word
  ptc : Word
  afc : BitVec 24
  deriving DecidableEq, Repr

/-- What the current instruction did to the trap state (model, log 18). -/
inductive Event where
  /-- it completed without taking a trap -/
  | completed
  /-- it completed and its own effect was to take a trap: BRK, PFI with a request (45_system R631, R633) -/
  | entered
  /-- it raised an exception (00_scope R11 raise) -/
  | raised
  /-- it has not completed: WAIT stalls (45_system R636) -/
  | stalled
  deriving DecidableEq, Repr

/-- The machine. -/
structure State where
  /-- model: the named parameters of the spec (00_scope R7), log 17 -/
  cfg : Config
  /-- the program counter, 10_state R37 -/
  pc : Word
  /-- model: the length of the current instruction in bytes (00_scope R11), log 18 -/
  ilen : Nat
  /-- model: the word of the current instruction, for BAD_INSTR (60_exceptions R962), log 18 -/
  ir : Word
  /-- model: what the current instruction did to the trap state, log 18 -/
  event : Event
  /-- model: the buffered instruction word that EXEC hands to the step (45_system R670), log 50 -/
  pending : Option Word
  /-- model: the index of the next free value, log 18 -/
  freeIdx : Nat
  /-- the interrupt inputs, 60_exceptions R950 (pins, log 15) -/
  irqLevel : BitVec 4
  irqCause : BitVec 8
  /-- the reset input, 70_reset_and_hazards R1020 (a pin, log 42) -/
  resetPin : Bool
  /-- the signals a WAIT can name that are not true now, 45_system R636 (pins, log 16) -/
  waitLow : List Word
  /-- the time-outs of WAIT that have not elapsed now, 45_system R636 (pins, log 16) -/
  waitRunning : List Word
  /-- the general registers, 10_state R20: key set * 32 + number; an unlisted register is 0 -/
  xs : Store Word
  /-- the vector registers, 10_state R32: key register * 64 + element; an unlisted element is 0 -/
  v : Store Word
  /-- the vector mask registers, 10_state R34 -/
  vm : Bank8
  /-- VL, 10_state R35 -/
  vl : BitVec 7
  /-- the control and status registers -/
  csr : Csrs
  /-- the counters -/
  ctr : Counters
  /-- vchain, 45_system R675 -/
  vchain : Bool
  /-- segsel[0..2]: ZS, ES, HS, 10_state R70 -/
  segZs : BitVec 24
  segEs : BitVec 24
  segHs : BitVec 24
  /-- the load reservation, 10_state R71 -/
  resvValid : Bool
  resvAddr : Word
  /-- model: the physical address of the reserved word, which stores are compared with (20_memory R198), log 34 -/
  resvPa : Nat
  /-- the TLB -/
  tlb : TlbState
  /-- the simplified MMU's map tables, 20_memory R172: key map * 1024 + index; an unlisted entry is 0 -/
  mapTab : Store (BitVec 21)
  /-- tag_enable, 45_system R672: key map * 1024 + page; an unlisted bit is false -/
  tagEnable : Store Bool
  /-- dcache_enabled, 45_system R662 -/
  dcacheEnabled : Bool
  /-- bytes stored to since the last instruction-cache invalidate, with what they were (20_memory R196, log 35) -/
  icacheStale : Store (Option Byte)
  /-- memory, 20_memory R140: an unlisted byte is 0 (log 13) -/
  mem : List Host.Cell
  deriving DecidableEq, Repr

/-- No fault: every documented error of this hardware is an exception that the machine takes (60_exceptions R940). -/
inductive Fault where
  deriving DecidableEq, Repr

/-- Why the model refuses to go on. All of these are safe: no claim is made about what the machine does then. -/
inductive Refusal where
  /-- raised by an arm of exec whose instruction has no meaning yet; safe -/
  | notModelled (mnemonic : String)
  /-- raised by a step with, or a write that sets, CR0.SMT = 1 (10_state R24, 92 D6): the spec refuses it; safe -/
  | smtMode
  /-- raised by a step with, or a write that sets, CR0.PRED = 1 (10_state R38, 92 D5): the spec refuses it; safe -/
  | predicatedExecution
  deriving DecidableEq, Repr

/-- What one instruction or one step gives. -/
abbrev Outcome := Host.Outcome State Fault Refusal

/-- Four zero registers. -/
def Bank4.zero : Bank4 := { r0 := 0, r1 := 0, r2 := 0, r3 := 0 }

/-- Eight registers with the value w. -/
def Bank8.all (w : Word) : Bank8 :=
  { r0 := w, r1 := w, r2 := w, r3 := w, r4 := w, r5 := w, r6 := w, r7 := w }

/-- The CSRs after reset: 70_reset_and_hazards R1021. -/
def Csrs.reset : Csrs where
  cr0 := 0
  pcr := 0
  pcr2 := 0
  aec := 0
  pmr := 0
  cause0 := 0
  cause1 := 0
  cause2 := 0
  badaddr0 := 0
  badaddr1 := 0
  badaddr2 := 0
  scratch := 0
  wbrcd := 0
  badInstr := 0
  sema := 0
  vmSema := 0
  keys := 0
  tcb := 0
  wrs := 15
  fstat := 0
  dbad := Bank4.zero
  dbcr := 0
  dbsr := 0
  cas := 0
  tvec := Bank4.zero
  imStack := 0x77777777
  olStack := 0
  plStack := 0
  rsStack := 0x208208208208
  brsStack := 0x208208208208
  status := 15
  epc := Bank8.all 0
  codebuf := []

/-- The counters after reset: 70_reset_and_hazards R1021. -/
def Counters.reset : Counters where
  tick := 0
  tmClk := 0
  iqCtr := 0
  bmCtr := 0
  irqCtr := 0
  brCtr := 0
  instret := 0

/-- The TLB after reset: 20_memory R160, R168, 70_reset_and_hazards R1021. -/
def TlbState.reset : TlbState where
  enabled := false
  entries := []
  refcnts := []
  aging := 20000
  wired := 0
  index := 0
  random := 15
  pageSize := 0
  virtPage := 0
  physPage := 0
  asid := 0
  ma := 0
  pta := 0
  ptc := 0
  afc := 20000

/-- The machine right after reset: 70_reset_and_hazards R1021, 10_state R74. -/
def State.reset : State where
  cfg := defaultConfig
  pc := 0xFFFFFFFFFFFC0100
  ilen := 4
  ir := 0
  event := .completed
  pending := none
  freeIdx := 0
  irqLevel := 0
  irqCause := 0
  resetPin := false
  waitLow := []
  waitRunning := []
  xs := []
  v := []
  vm := Bank8.all 0xFFFFFFFFFFFFFFFF
  vl := 0
  csr := Csrs.reset
  ctr := Counters.reset
  vchain := false
  segZs := 0
  segEs := 0
  segHs := 0
  resvValid := false
  resvAddr := 0
  resvPa := 0
  tlb := TlbState.reset
  mapTab := []
  tagEnable := []
  dcacheEnabled := false
  icacheStale := []
  mem := []

end Sys2Proof.Machine
end

