-- ==== Sys2Proof/Machine/Store.lean ====
section
/-! DEFINITION. Data by key in one canonical form: keys strictly rising, no entry equal to the default. -/

namespace Sys2Proof.Machine

/-- The value at a key; d where nothing is listed. -/
def storeGet {α : Type} (d : α) : Store α → Nat → α
  | [], _ => d
  | (k, w) :: t, a => if k = a then w else storeGet d t a

/-- The store with v at key a; the default value removes the entry. -/
def storeSet {α : Type} [DecidableEq α] (d : α) : Store α → Nat → α → Store α
  | [], a, v => if v = d then [] else [(a, v)]
  | (k, w) :: t, a, v =>
    if a < k then (if v = d then (k, w) :: t else (a, v) :: (k, w) :: t)
    else if a = k then (if v = d then t else (a, v) :: t)
    else (k, w) :: storeSet d t a v

/-- The canonical form. -/
abbrev StoreWf {α : Type} (d : α) (m : Store α) : Prop :=
  m.Pairwise (fun p q => p.1 < q.1) ∧ ∀ p ∈ m, p.2 ≠ d

/-- Memory's canonical form; an unlisted byte is 0 (log 13). -/
abbrev Memory.wf (m : List Host.Cell) : Prop := StoreWf (0 : Byte) m

/-- Register k (modulo 4) of four. -/
def bank4Get (b : Bank4) (k : Nat) : Word :=
  match k % 4 with
  | 0 => b.r0
  | 1 => b.r1
  | 2 => b.r2
  | _ => b.r3

/-- Four registers with register k (modulo 4) replaced. -/
def bank4Set (b : Bank4) (k : Nat) (w : Word) : Bank4 :=
  match k % 4 with
  | 0 => { b with r0 := w }
  | 1 => { b with r1 := w }
  | 2 => { b with r2 := w }
  | _ => { b with r3 := w }

/-- Register k (modulo 8) of eight. -/
def bank8Get (b : Bank8) (k : Nat) : Word :=
  match k % 8 with
  | 0 => b.r0
  | 1 => b.r1
  | 2 => b.r2
  | 3 => b.r3
  | 4 => b.r4
  | 5 => b.r5
  | 6 => b.r6
  | _ => b.r7

/-- Eight registers with register k (modulo 8) replaced. -/
def bank8Set (b : Bank8) (k : Nat) (w : Word) : Bank8 :=
  match k % 8 with
  | 0 => { b with r0 := w }
  | 1 => { b with r1 := w }
  | 2 => { b with r2 := w }
  | 3 => { b with r3 := w }
  | 4 => { b with r4 := w }
  | 5 => { b with r5 := w }
  | 6 => { b with r6 := w }
  | _ => { b with r7 := w }

end Sys2Proof.Machine
end

