-- ==== Sys2Proof/Machine/Ops.lean ====
section
/-! DEFINITION. The named operations every meaning is written over: registers (10_state R20 to R35), taking an exception
and returning from one (60_exceptions R960, R975), address translation (20_memory R147 to R175) and memory accesses
(20_memory R150 to R152). -/

namespace Sys2Proof.Machine

/-! ## Results of a part of an instruction -/

/-- What a part of an instruction gives: a value and the state reached; or the cause of the exception it raises, with
the state holding the effects already done (60_exceptions R944). -/
inductive Res (α : Type) where
  | ok (a : α) (s : State)
  | exc (cause : BitVec 8) (s : State)
  deriving DecidableEq, Repr

/-- One part after another. -/
def Res.andThen {α β : Type} (m : Res α) (f : α → State → Res β) : Res β :=
  match m with
  | .ok a s => f a s
  | .exc c s => .exc c s

/-! ## Cause codes: 60_exceptions R941 -/

def causeIBE : BitVec 8 := 1
def causeEXF : BitVec 8 := 2
def causeTLB : BitVec 8 := 4
def causeSSM : BitVec 8 := 32
def causeDBG : BitVec 8 := 33
def causeUNIMP : BitVec 8 := 37
def causeFLT : BitVec 8 := 38
def causeCHK : BitVec 8 := 39
def causeDBZ : BitVec 8 := 40
def causeOFL : BitVec 8 := 41
def causeALN : BitVec 8 := 48
def causeDWF : BitVec 8 := 50
def causeDRF : BitVec 8 := 51
def causePRIV : BitVec 8 := 53
def causeBD : BitVec 8 := 55
def causeSTK : BitVec 8 := 56
def causeDBE : BitVec 8 := 60

/-! ## STATUS: 10_state R62 -/

def State.im (s : State) : BitVec 4 := field s.csr.status 0 4
def State.ol (s : State) : BitVec 2 := field s.csr.status 4 2
def State.pl (s : State) : BitVec 8 := field s.csr.status 6 8
def State.rs (s : State) : BitVec 6 := field s.csr.status 14 6
def State.dl (s : State) : BitVec 2 := field s.csr.status 20 2
def State.vca (s : State) : Bool := bitAt s.csr.status 32
def State.asid (s : State) : BitVec 8 := field s.csr.status 40 8

/-- The state with another STATUS. -/
def State.withStatus (s : State) (w : Word) : State := { s with csr := { s.csr with status := w } }

/-! ## General registers: 10_state R20 to R28 -/

/-- The key of register r of a set. -/
def regKey (set : BitVec 6) (r : RegNo) : Nat := set.toNat * 32 + r.toNat

/-- xs[set][r]; register 0 of every set reads 0 (10_state R21). -/
def State.reg (s : State) (set : BitVec 6) (r : RegNo) : Word :=
  if r = 0 then 0 else storeGet 0 s.xs (regKey set r)

/-- xs[set][r] <- v; a write to register 0 is discarded (10_state R21). -/
def State.setReg (s : State) (set : BitVec 6) (r : RegNo) (v : Word) : State :=
  if r = 0 then s else { s with xs := storeSet 0 s.xs (regKey set r) v }

/-- x[r] of the current set (10_state R22). -/
def State.x (s : State) (r : RegNo) : Word := s.reg s.rs r

/-- x[r] <- v in the current set, without the stack check. -/
def State.setX (s : State) (r : RegNo) (v : Word) : State := s.setReg s.rs r v

/-- The floating-point register set (10_state R30). -/
def State.fps (s : State) : BitVec 6 :=
  match s.cfg.fpSetSource with
  | .fstatRgs => field s.csr.fstat 32 6
  | .statusRsOdd => s.rs ||| 1

/-- f[r] (10_state R30). -/
def State.f (s : State) (r : RegNo) : Word := s.reg s.fps r

/-- stack_bounds_ok (10_state R28): the parameter as an inclusive range. -/
def stackBoundsOk (s : State) (v : Word) : Bool :=
  match s.cfg.stackBounds with
  | none => true
  | some (lo, hi) => lo.ule v && v.ule hi

/-- Whether writing v to register r of a set is a stack fault: r31 or r30 of the current set (60_exceptions R997). -/
def stackFault (s : State) (set : BitVec 6) (r : RegNo) (v : Word) : Bool :=
  set == s.rs && (r == 30 || r == 31) && !stackBoundsOk s v

/-- xs[set][r] <- v with the stack check: on a fault the write is not done (60_exceptions R997). -/
def putReg (set : BitVec 6) (r : RegNo) (v : Word) (s : State) : Res Unit :=
  if stackFault s set r v then .exc causeSTK s else .ok () (s.setReg set r v)

/-- x[r] <- v with the stack check. -/
def putX (r : RegNo) (v : Word) (s : State) : Res Unit := putReg s.rs r v s

/-- f[r] <- v with the stack check. -/
def putF (r : RegNo) (v : Word) (s : State) : Res Unit := putReg s.fps r v s

/-- Raises a stack fault before other effects are committed, when x[r] <- v would. -/
def guardX (r : RegNo) (v : Word) (s : State) : Res Unit :=
  if stackFault s s.rs r v then .exc causeSTK s else .ok () s

/-! ## Vector registers: 10_state R32 to R35 -/

/-- v[r][e]. -/
def State.vec (s : State) (r : RegNo) (e : Nat) : Word := storeGet 0 s.v (r.toNat * 64 + e)

/-- v[r][e] <- w. -/
def State.setVec (s : State) (r : RegNo) (e : Nat) (w : Word) : State :=
  { s with v := storeSet 0 s.v (r.toNat * 64 + e) w }

/-- vm[k]. -/
def State.mask (s : State) (k : BitVec 3) : Word := bank8Get s.vm k.toNat

/-- vm[k] <- w. -/
def State.setMask (s : State) (k : BitVec 3) (w : Word) : State := { s with vm := bank8Set s.vm k.toNat w }

/-! ## Program counter: 10_state R37 to R39 -/

/-- The address n bytes on: the low 40 bits wrap, the selector stays (10_state R39). -/
def pcPlus (pc : Word) (n : Nat) : Word := setField pc 0 (field pc 0 40 + BitVec.ofNat 40 n)

/-- The address of the next instruction in sequence. -/
def State.nextPc (s : State) : Word := pcPlus s.pc s.ilen

/-- pc <- v. -/
def State.setPc (s : State) (v : Word) : State := { s with pc := v }

/-- pc <- pc + ilen (10_state R38). -/
def State.advance (s : State) : State := s.setPc s.nextPc

/-! ## Taking an exception and returning from one -/

/-- The vector of an operating level: {TVEC[0][63:8], 8'h00} + 0x20 * level (60_exceptions R961). -/
def vectorFor (tvec0 : Word) (ol : BitVec 2) : Word := setField tvec0 0 (0 : BitVec 8) + BitVec.ofNat 64 (ol.toNat * 32)

/-- The exception stack of program counters with ret pushed (10_state R65). -/
def epcPush (e : Bank8) (ret : Word) : Bank8 :=
  { r0 := ret, r1 := e.r0, r2 := e.r1, r3 := e.r2, r4 := e.r3, r5 := e.r4, r6 := e.r5, r7 := e.r6 }

/-- The exception stack of program counters popped, the break handler's address entering (10_state R65). -/
def epcPop (e : Bank8) (fill : Word) : Bank8 :=
  { r0 := e.r1, r1 := e.r2, r2 := e.r3, r3 := e.r4, r4 := e.r5, r5 := e.r6, r6 := e.r7, r7 := fill }

/-- STATUS at trap entry (60_exceptions R960): OL, PL and DL become 0; a hardware interrupt of level il sets IM, IRQ and
RS, any other trap sets RS to 0; VCA records vchain. -/
def statusOnTrap (scale : Nat) (st : Word) (il : BitVec 4) (vchain : Bool) : Word :=
  let st1 := setField (setField (setField st 4 (0 : BitVec 2)) 6 (0 : BitVec 8)) 20 (0 : BitVec 2)
  let st2 :=
    if il = 0 then setField st1 14 (0 : BitVec 6)
    else setField (setField (setField st1 0 il) 28 il) 14 (BitVec.ofNat 6 (scale * il.toNat))
  setBitAt st2 32 vchain

/-- DBCR at trap entry: {DBCR[61:55], DBCR[63]} into 62:55, bit 63 cleared (60_exceptions R960). -/
def dbcrPush (d : Word) : Word := setBitAt (setField d 55 (field d 55 7 ++ field d 63 1 : BitVec 8)) 63 false

/-- DBCR at trap return: bit 63 from bit 55, {0, DBCR[62:56]} into 62:55 (60_exceptions R975). -/
def dbcrPop (d : Word) : Word := setBitAt (setField d 55 (0#1 ++ field d 56 7 : BitVec 8)) 63 (bitAt d 55)

/-- CR0 at trap entry: in an interrupt routine bit 63, D, says whether the processor was in debug mode (10_state R43,
log 53). -/
def cr0OnTrap (cr0 : Word) (il : BitVec 4) (debugMode : Bool) : Word :=
  if il = 0 then cr0 else setBitAt cr0 63 debugMode

/-- Whether the processor is in debug mode: free, and false without the debug unit (10_state R43, log 53). -/
def State.debugMode (s : State) : Bool := s.cfg.supportDbg && Config.freeDebugMode s.freeIdx

/-- The CSRs at trap entry (60_exceptions R960). BRS_STACK takes STATUS.RS as RS_STACK does (log 23). -/
def csrsOnTrap (scale : Nat) (c : Csrs) (cause : BitVec 8) (user : BitVec 6) (il : BitVec 4) (ret : Word)
    (vchain debugMode : Bool) : Csrs :=
  { c with
    cr0 := cr0OnTrap c.cr0 il debugMode
    epc := epcPush c.epc ret
    imStack := (field c.imStack 0 28 ++ field c.status 0 4 : BitVec 32)
    olStack := (field c.olStack 16 14 ++ field c.status 20 2 ++ field c.olStack 0 14 ++ field c.status 4 2 : BitVec 32)
    plStack := (field c.plStack 0 56 ++ field c.status 6 8 : BitVec 64)
    rsStack := (field c.rsStack 0 42 ++ field c.status 14 6 : BitVec 48)
    brsStack := (field c.brsStack 0 42 ++ field c.status 14 6 : BitVec 48)
    dbcr := dbcrPush c.dbcr
    cause0 := (0#2 ++ user ++ cause : BitVec 16)
    status := statusOnTrap scale c.status il vchain
    sema := setBitAt c.sema 0 false }

/-- TrapEnter (60_exceptions R960). -/
def trapEnter (cause : BitVec 8) (user : BitVec 6) (il : BitVec 4) (ret : Word) (s : State) : State :=
  { s with
    csr := csrsOnTrap s.cfg.irqRsScale s.csr cause user il ret s.vchain s.debugMode
    vchain := false
    resvValid := false
    pc := vectorFor s.csr.tvec.r0 s.ol }

/-- STATUS at trap return (60_exceptions R975). -/
def statusOnReturn (c : Csrs) : Word :=
  setField (setField (setField (setField (setField c.status 0 (field c.imStack 0 4)) 4 (field c.olStack 0 2))
    20 (field c.olStack 16 2)) 6 (field c.plStack 0 8)) 14 (field c.rsStack 0 6)

/-- The CSRs at trap return (60_exceptions R975). -/
def csrsOnReturn (c : Csrs) : Csrs :=
  { c with
    epc := epcPop c.epc (vectorFor c.tvec.r0 0)
    status := statusOnReturn c
    imStack := (7#4 ++ field c.imStack 4 28 : BitVec 32)
    olStack := (0#2 ++ field c.olStack 18 14 ++ (0#2 ++ field c.olStack 2 14) : BitVec 32)
    plStack := (0#8 ++ field c.plStack 8 56 : BitVec 64)
    rsStack := (8#6 ++ field c.rsStack 6 42 : BitVec 48)
    brsStack := (8#6 ++ field c.brsStack 6 42 : BitVec 48)
    dbcr := dbcrPop c.dbcr }

/-- TrapReturn (60_exceptions R975). -/
def trapReturn (s : State) : State :=
  { s with csr := csrsOnReturn s.csr, pc := s.csr.epc.r0, vchain := s.vca }

/-- BAD_INSTR <- the current instruction (60_exceptions R962). -/
def noteInstr (s : State) : State := { s with csr := { s.csr with badInstr := s.ir } }

/-- BADADDR <- ea (60_exceptions R962). -/
def noteAddr (ea : Word) (s : State) : State := { s with csr := { s.csr with badaddr0 := ea } }

/-- raise of an exception by the current instruction (00_scope R11): BAD_INSTR, then TrapEnter at its own pc. -/
def raise (cause : BitVec 8) (s : State) : State :=
  { trapEnter cause 0 0 s.pc (noteInstr s) with event := .raised }

/-- An exception for which no instruction was obtained (60_exceptions R962): BAD_INSTR is not written. -/
def raiseBare (cause : BitVec 8) (s : State) : State := { trapEnter cause 0 0 s.pc s with event := .raised }

/-! ## Ending an instruction -/

/-- The outcome of an instruction whose parts have set pc themselves. -/
def Res.finish (m : Res Unit) : Outcome :=
  match m with
  | .ok _ s => .next s
  | .exc c s => .next (raise c s)

/-- The outcome of an instruction that goes on to the next one (40_integer_alu R300 (c)). -/
def Res.retire (m : Res Unit) : Outcome := (m.andThen fun _ s => .ok () s.advance).finish

/-- The outcome of an instruction that goes to the address its parts give. -/
def Res.retireTo (m : Res Word) : Outcome := (m.andThen fun t s => .ok () (s.setPc t)).finish

/-- A reserved value or encoding: UNIMP, or nothing, by RESERVED_ENCODING (30_encoding R258). -/
def reservedPart (s : State) : Res Unit := if s.cfg.reservedFault then .exc causeUNIMP s else .ok () s

/-- A reserved encoding as a whole instruction. -/
def reserved (s : State) : Outcome := (reservedPart s).retire

/-! ## Address translation: 20_memory R147 -/

/-- The kinds of access (20_memory R147). -/
inductive AccessKind where
  | read
  | write
  | exec
  deriving DecidableEq, Repr

/-- The permission fault of a kind (20_memory R162, R175). -/
def permCause : AccessKind → BitVec 8
  | .read => causeDRF
  | .write => causeDWF
  | .exec => causeEXF

/-- The empty TLB entry. -/
def tlbEntryZero : TlbEntry := { vpn := 0, ppn := 0, attr := 0 }

/-- TLB entry n. -/
def tlbGet (t : TlbState) (n : Nat) : TlbEntry := storeGet tlbEntryZero t.entries n

/-- TLB entry n replaced. -/
def tlbSet (t : TlbState) (n : Nat) (e : TlbEntry) : TlbState := { t with entries := storeSet tlbEntryZero t.entries n e }

/-- The reference count of TLB entry n (20_memory R161). -/
def tlbCount (t : TlbState) (n : Nat) : BitVec 32 := storeGet 0 t.refcnts n

/-- The reference count of TLB entry n replaced. -/
def tlbSetCount (t : TlbState) (n : Nat) (c : BitVec 32) : TlbState := { t with refcnts := storeSet 0 t.refcnts n c }

/-- The page shift of an entry: 13 + 2 N for the size codes 0 to 5, free for the others (20_memory R165, R166, log 45). -/
def tlbShift (e : TlbEntry) : Nat :=
  if field e.attr 11 3 < (6 : BitVec 3) then 13 + 2 * (field e.attr 11 3).toNat
  else Config.freePageShift (field e.attr 11 3).toNat

/-- Whether an entry is valid: R, W or X (20_memory R161). -/
def tlbValid (e : TlbEntry) : Bool := field e.attr 0 3 != 0

/-- Whether an entry answers for the address space asid: G, or the same ASID (20_memory R162). -/
def tlbAsidOk (e : TlbEntry) (asid : BitVec 8) : Bool := bitAt e.attr 10 || field e.attr 16 8 == asid

/-- Whether an entry matches an address (20_memory R162). -/
def tlbHit (e : TlbEntry) (va : Word) (asid : BitVec 8) : Bool :=
  tlbValid e && (va >>> tlbShift e) == e.vpn && tlbAsidOk e asid

/-- The address an entry gives (20_memory R162). -/
def tlbPa (e : TlbEntry) (va : Word) : Word :=
  (e.ppn <<< tlbShift e) ||| (va &&& ((1 <<< tlbShift e) - 1))

/-- An entry after a match: A, and D on a write (20_memory R162). -/
def tlbTouch (e : TlbEntry) (k : AccessKind) : TlbEntry :=
  let a1 := setBitAt e.attr 6 true
  { e with attr := if k = .write then setBitAt a1 9 true else a1 }

/-- A reference count after a match: its upper 24 bits incremented, saturating (20_memory R162). -/
def countUp (c : BitVec 32) : BitVec 32 := if field c 8 24 = BitVec.allOnes 24 then c else c + 256

/-- The TLB after entry n has matched an access of a kind (20_memory R162). -/
def tlbUse (t : TlbState) (n : Nat) (k : AccessKind) : TlbState :=
  tlbSetCount (tlbSet t n (tlbTouch (tlbGet t n) k)) n (countUp (tlbCount t n))

/-- Whether an entry permits a kind of access (20_memory R162, R166). -/
def tlbPermits (e : TlbEntry) : AccessKind → Bool
  | .read => bitAt e.attr 2
  | .write => bitAt e.attr 1
  | .exec => bitAt e.attr 0

/-- The entries that match an address (20_memory R162: searched associatively). -/
def tlbHits (t : TlbState) (va : Word) (asid : BitVec 8) : List Nat :=
  (List.range 256).filter fun n => tlbHit (tlbGet t n) va asid

/-- The entry that answers: of several, a free choice (93 U6, log 28). -/
def tlbPick (idx : Nat) (hits : List Nat) : Option Nat :=
  match hits with
  | [] => none
  | [n] => some n
  | h :: t => some ((h :: t).getD (Config.freeTlbPick idx % (t.length + 1)) h)

/-- The TLB miss address is kept when none is pending (20_memory R167). -/
def tlbMiss (va : Word) (s : State) : State :=
  if s.tlb.ma = 0 then { s with tlb := { s.tlb with ma := va } } else s

/-- Translation by the TLB (20_memory R162). -/
def translateTlb (va : Word) (k : AccessKind) (s : State) : Res Word :=
  if s.tlb.enabled = false then .ok va s
  else
    match tlbPick s.freeIdx (tlbHits s.tlb va s.asid) with
    | none => .exc causeTLB (tlbMiss va s)
    | some n =>
      let e := tlbGet s.tlb n
      let s1 := { s with tlb := tlbUse s.tlb n k }
      if tlbPermits e k then .ok (tlbPa e va) s1 else .exc (permCause k) s1

/-- Entry i of map m of the simplified MMU (20_memory R172). -/
def mapGet (s : State) (m i : Nat) : BitVec 21 := storeGet 0 s.mapTab (m * 1024 + i)

/-- Whether a map entry permits a kind of access (20_memory R172, R175). -/
def mapPermits (e : BitVec 21) : AccessKind → Bool
  | .read => bitAt e 17
  | .write => bitAt e 18
  | .exec => bitAt e 16

/-- Translation by the simplified paged MMU (20_memory R170 to R175). -/
def translateSimple (ea : Word) (k : AccessKind) (s : State) : Res Word :=
  if bitAt s.csr.pcr 31 = false then .ok ea s
  else if field ea 29 3 ≠ 0 then .ok ea s
  else
    let okey := (field s.csr.pcr 0 6).toNat
    let big := bitAt s.csr.pcr2 okey
    let i := if big then (field ea 19 10).toNat else (field ea 13 10).toNat
    let e := mapGet s okey i
    if mapPermits e k then
      .ok (if big then zext64 (field e 6 10 ++ field ea 0 19) else zext64 (field e 0 16 ++ field ea 0 13)) s
    else .exc (permCause k) s

/-- Translation by the memory management unit that is present (20_memory R147). -/
def translateKind (ea : Word) (k : AccessKind) (s : State) : Res Word :=
  match s.cfg.mmuKind with
  | .none => .ok ea s
  | .tlb => translateTlb ea k s
  | .simple => translateSimple ea k s

/-- translate (20_memory R147): the physical address, truncated to PA_BITS (R142). -/
def translate (ea : Word) (k : AccessKind) (s : State) : Res Nat :=
  (translateKind ea k s).andThen fun pa s1 => .ok (pa.toNat % 2 ^ s1.cfg.paBits) s1

/-! ## The bus: 20_memory R143, R148, R172 -/

/-- Whether a physical address is in the map-table window, which exists with the simplified MMU (20_memory R172). -/
def inMapWindow (c : Config) (pa : Nat) : Bool :=
  c.mmuKind == .simple && decide (0xFFDC4000 ≤ pa) && decide (pa < 0xFFDC5000)

/-- The region of the memory map that holds a physical address (20_memory R143). -/
def regionAt (c : Config) (pa : Nat) : Option Region :=
  c.memMap.find? fun r => decide (r.base ≤ pa) && decide (pa < r.base + r.size)

/-- Whether a region acknowledges a kind of access. -/
def regionAllows (r : Region) : AccessKind → Bool
  | .read => r.read
  | .write => r.write
  | .exec => r.exec

/-- Whether something acknowledges an access of a kind to a byte (20_memory R148). DESIGN CHOICE (log 33): the map-table
window acknowledges every kind, a fetch among them. -/
def busOk (c : Config) (pa : Nat) (k : AccessKind) : Bool :=
  inMapWindow c pa || ((regionAt c pa).map fun r => regionAllows r k).getD false

/-- bus_ok of n bytes (20_memory R148). -/
def busAllOk (c : Config) (k : AccessKind) : Nat → Nat → Bool
  | 0, _ => true
  | n + 1, pa => busOk c (pa % 2 ^ c.paBits) k && busAllOk c k n (pa + 1)

/-- Whether a device answers for a byte (20_memory R143, 70_reset_and_hazards R1056). -/
def isDevice (c : Config) (pa : Nat) : Bool :=
  !inMapWindow c pa && ((regionAt c pa).map Region.device).getD false

/-- Whether a device answers for one of n bytes. -/
def anyDevice (c : Config) : Nat → Nat → Bool
  | 0, _ => false
  | n + 1, pa => isDevice c (pa % 2 ^ c.paBits) || anyDevice c n (pa + 1)

/-- The state in which a checked access to n bytes is made: one that reaches a device is a draw of its own, so that each
access gets its own answers (log 14). -/
def atBus (n pa : Nat) (s : State) : State := if anyDevice s.cfg n pa then { s with freeIdx := s.freeIdx + 1 } else s

/-- A byte of memory. -/
def memByte (s : State) (pa : Nat) : Byte := storeGet 0 s.mem pa

/-- A byte of the map-table window: entries are 32-bit words with bits 31:21 zero (20_memory R172). -/
def windowByte (s : State) (pa : Nat) : Byte :=
  field ((mapGet s (field s.csr.pcr 8 6).toNat ((pa - 0xFFDC4000) / 4)).setWidth 32) (8 * (pa % 4)) 8

/-- The byte the bus returns; what a device returns is free (log 14). -/
def busByte (s : State) (pa : Nat) : Byte :=
  if inMapWindow s.cfg pa then windowByte s pa
  else if isDevice s.cfg pa then Config.freeDevice s.freeIdx pa
  else memByte s pa

/-- A byte of memory written. With ICACHE_COHERENT = false the byte it replaces stays visible to fetch (20_memory R196,
log 35). -/
def setMemByte (s : State) (pa : Nat) (b : Byte) : State :=
  let s1 := { s with mem := storeSet 0 s.mem pa b }
  if s.cfg.icacheCoherent then s1
  else if storeGet none s.icacheStale pa = none then
    { s1 with icacheStale := storeSet none s.icacheStale pa (some (memByte s pa)) }
  else s1

/-- A byte of the map-table window written (20_memory R172). -/
def setWindowByte (s : State) (pa : Nat) (b : Byte) : State :=
  let m := (field s.csr.pcr 8 6).toNat
  let i := (pa - 0xFFDC4000) / 4
  let w : BitVec 32 := setField ((mapGet s m i).setWidth 32) (8 * (pa % 4)) b
  { s with mapTab := storeSet 0 s.mapTab (m * 1024 + i) (field w 0 21) }

/-- A byte stored through the bus; a device takes it out of the machine (log 14). -/
def setBusByte (s : State) (pa : Nat) (b : Byte) : State :=
  if inMapWindow s.cfg pa then setWindowByte s pa b else if isDevice s.cfg pa then s else setMemByte s pa b

/-- n bytes from a physical address, little endian (20_memory R141). -/
def busRead (s : State) : Nat → Nat → Nat
  | 0, _ => 0
  | n + 1, pa => (busByte s (pa % 2 ^ s.cfg.paBits)).toNat + 256 * busRead s n (pa + 1)

/-- The low n bytes of a value to a physical address, little endian (20_memory R141). -/
def busWrite (s : State) : Nat → Nat → Nat → State
  | 0, _, _ => s
  | n + 1, pa, v => busWrite (setBusByte s (pa % 2 ^ s.cfg.paBits) (BitVec.ofNat 8 v)) n (pa + 1) (v / 256)

/-! ## Data accesses: 20_memory R150, R151 -/

/-- Whether debug register k matches a data access (60_exceptions R990). -/
def dataMatch (c : Csrs) (ea : Word) (k : AccessKind) (n : Nat) : Bool :=
  let type := field c.dbcr (16 + 4 * n) 2
  let size := (field c.dbcr (18 + 4 * n) 2).toNat
  bitAt c.dbcr n && ((type == 1 && k == .write) || type == 3) && (ea >>> size) == (bank4Get c.dbad n >>> size)

/-- Whether debug register k matches an instruction address (60_exceptions R990). -/
def instrMatch (c : Csrs) (pc : Word) (n : Nat) : Bool :=
  bitAt c.dbcr n && field c.dbcr (16 + 4 * n) 2 == 0 && pc == bank4Get c.dbad n

/-- The DBSR bits of the registers that match (10_state R59). -/
def matchBits (p : Nat → Bool) : BitVec 4 :=
  BitVec.ofBool (p 3) ++ BitVec.ofBool (p 2) ++ BitVec.ofBool (p 1) ++ BitVec.ofBool (p 0)

/-- DBSR with match bits added (60_exceptions R990). -/
def noteMatch (b : BitVec 4) (s : State) : State :=
  { s with csr := { s.csr with dbsr := s.csr.dbsr ||| zext64 b } }

/-- debug_match (60_exceptions R990). -/
def debugMatch (ea : Word) (k : AccessKind) (s : State) : Res Unit :=
  if s.cfg.supportDbg && matchBits (dataMatch s.csr ea k) != 0 then
    .exc causeDBG (noteAddr ea (noteMatch (matchBits (dataMatch s.csr ea k)) s))
  else .ok () s

/-- The checks of a data access of n bytes, in the order of 20_memory R150 and 60_exceptions R1005: alignment, debug
match, translation, bus. Gives the physical address. -/
def dataAccess (ea : Word) (n : Nat) (k : AccessKind) (s : State) : Res Nat :=
  if ea.toNat % n ≠ 0 then .exc causeALN (noteAddr ea s)
  else
    (debugMatch ea k s).andThen fun _ s1 =>
      match translate ea k s1 with
      | .exc c s2 => .exc c (noteAddr ea s2)
      | .ok pa s2 => if busAllOk s2.cfg k n pa then .ok pa (atBus n pa s2) else .exc causeDBE (noteAddr ea s2)

/-- MemRead (20_memory R150): the n bytes at ea as a number. -/
def memRead (ea : Word) (n : Nat) (s : State) : Res Nat :=
  (dataAccess ea n .read s).andThen fun pa s1 => .ok (busRead s1 n pa) s1

/-- Whether a store of n bytes at pa overlaps the reserved aligned word (20_memory R198, log 34). -/
def breaksReservation (s : State) (n pa : Nat) : Bool :=
  s.resvValid && decide (pa < s.resvPa / 8 * 8 + 8) && decide (s.resvPa / 8 * 8 < pa + n)

/-- The store itself, after its checks (20_memory R151). -/
def memCommit (n pa v : Nat) (s : State) : State :=
  let s1 := busWrite s n pa v
  if breaksReservation s n pa then { s1 with resvValid := false } else s1

/-- MemWrite (20_memory R151). -/
def memWrite (ea : Word) (n v : Nat) (s : State) : Res Unit :=
  (dataAccess ea n .write s).andThen fun pa s1 => .ok () (memCommit n pa v s1)

end Sys2Proof.Machine
end

