-- ==== Sys2Proof/Machine/Fetch.lean ====
section
/-! DEFINITION. What a step does around an instruction: interrupts (60_exceptions R951), instruction-address debug matches
(R990), fetch (20_memory R152), single step (R991), what moves by itself (10_state R45, R67, R68; 45_system R636), and the
Reset event (70_reset_and_hazards R1020). -/

namespace Sys2Proof.Machine

/-- The address after a 40-bit instruction address. -/
def nextByteAddr (a : BitVec 40) : BitVec 40 := a + 1

/-- A byte as the instruction cache returns it: with ICACHE_COHERENT = false a byte stored to since the last invalidate
may be the old one (20_memory R196, log 35). -/
def icacheByte (s : State) (pa : Nat) : Byte :=
  match storeGet none s.icacheStale pa with
  | some old => if !s.cfg.icacheCoherent && Config.freeStale s.freeIdx pa then old else busByte s pa
  | none => busByte s pa

/-- An instruction byte at a physical address: IBE where nothing acknowledges (20_memory R148, 60_exceptions R980). -/
def fetchByte (pa : Nat) (s : State) : Res Byte :=
  if busOk s.cfg pa .exec then .ok (icacheByte s pa) s else .exc causeIBE s

/-- The physical address of the instruction byte at a, the one before it being at pa: the same page continues, a new
8 kB page is translated (20_memory R152, log 22). -/
def fetchPlace (a : BitVec 40) (pa : Nat) (s : State) : Res Nat :=
  if field a 0 13 = (0 : BitVec 13) then translate (zext64 a) .exec s else .ok ((pa + 1) % 2 ^ s.cfg.paBits) s

/-- The n bytes that follow the byte at a, which is at pa, least significant first. -/
def fetchMore : Nat → BitVec 40 → Nat → State → Res Nat
  | 0, _, _, s => .ok 0 s
  | n + 1, a, pa, s =>
    (fetchPlace (nextByteAddr a) pa s).andThen fun pa1 s1 =>
      (fetchByte pa1 s1).andThen fun b s2 =>
        (fetchMore n (nextByteAddr a) pa1 s2).andThen fun r s3 => .ok (b.toNat + 256 * r) s3

/-- Fetch (20_memory R152): the length in bytes and the word of the instruction at pc. -/
def fetch (s : State) : Res (Nat × Nat) :=
  (translate (zext64 (field s.pc 0 40)) .exec s).andThen fun pa s1 =>
    (fetchByte pa s1).andThen fun b s2 =>
      (fetchMore (lengthOf b.toNat - 1) (field s.pc 0 40) pa s2).andThen fun r s3 =>
        .ok (lengthOf b.toNat, b.toNat + 256 * r) s3

/-- Whether an interrupt is taken before the next instruction (60_exceptions R951). -/
def interruptPending (s : State) : Bool := s.im.ult s.irqLevel

/-- The interrupt taken: the forced BRK (60_exceptions R952). -/
def takeInterrupt (s : State) : State := trapEnter (1#1 ++ field s.irqCause 0 7 : BitVec 8) 0 s.irqLevel s.pc s

/-- The DBSR bits of the registers that match the instruction address (60_exceptions R990). -/
def instrMatches (s : State) : BitVec 4 := if s.cfg.supportDbg then matchBits (instrMatch s.csr s.pc) else 0

/-- Why no instruction may run in this mode, if so (10_state R24, R38). -/
def modeRefusal (s : State) : Option Refusal :=
  if bitAt s.csr.cr0 36 then some .predicatedExecution
  else if bitAt s.csr.cr0 16 && s.cfg.supportSmt then some .smtMode
  else none

/-- The state in which an instruction of n bytes with word w runs. -/
def State.load (s : State) (n w : Nat) : State :=
  { s with ilen := n, ir := BitVec.ofNat 64 w, event := .completed, pending := none }

/-- The bits of a code buffer that are its instruction (45_system R670). -/
def bufferWord (b : Word) : Nat := b.toNat % 2 ^ (8 * lengthOf (b.toNat % 256))

/-- The state in which the buffered instruction runs: the address and the length are those of the EXEC
(45_system R670). -/
def State.loadBuffer (s : State) (b : Word) : State := s.load 4 (bufferWord b)

/-- Whether an instruction is EXEC, which is reserved in a code buffer (45_system R670 (c)). -/
def isExec : Instr → Bool
  | .execBuf _ => true
  | _ => false

/-- Single step (60_exceptions R991): after an instruction that completed with DBCR[63] set at its start. -/
def singleStep (armed : Bool) (s : State) : State :=
  if armed && s.cfg.supportDbg && s.event == .completed then trapEnter causeSSM 0 0 s.pc (noteInstr s) else s

/-- INSTRET counts an instruction that completed without raising an exception (10_state R67, log 36). -/
def countRetired (s : State) : State :=
  if s.event = .raised ∨ s.event = .stalled then s else { s with ctr := { s.ctr with instret := s.ctr.instret + 1 } }

/-- The way the free-running Random register holds: Wired to 15 (45_system R660 (b), log 27). -/
def wayAfter (wired : Word) (free : Nat) : BitVec 4 :=
  if wired.toNat ≥ 15 then 15 else BitVec.ofNat 4 (wired.toNat + free % (16 - wired.toNat))

/-- TICK n cycles on: it stays at its greatest value, so that no read is less than an earlier one (10_state R45,
log 11). -/
def tickAfter (t : Word) (n : Nat) : Word := BitVec.ofNat 64 (min (t.toNat + n) (2 ^ 64 - 1))

/-- The aging counter n cycles on: it counts down, and an underflow reloads it with AFC (20_memory R168, log 26). -/
def agingAfter (afc aging : BitVec 24) (n : Nat) : BitVec 24 :=
  if n ≤ aging.toNat then BitVec.ofNat 24 (aging.toNat - n)
  else BitVec.ofNat 24 (afc.toNat - (n - aging.toNat - 1) % (afc.toNat + 1))

/-- The reference counts after an aging cycle: free values, because what the cycle does to them is not stated
(20_memory R168, log 26). -/
def agedCounts (draw : Nat) : Store (BitVec 32) :=
  ((List.range 256).map fun n => (n, Config.freeAge draw n)).filter fun p => p.2 != 0

/-- The TLB n cycles on: the aging counter, and the reference counts where it has underflowed (20_memory R168,
70_reset_and_hazards R1055). -/
def tlbAge (n draw : Nat) (t : TlbState) : TlbState :=
  { t with
    aging := agingAfter t.afc t.aging n
    refcnts := if n ≤ t.aging.toNat then t.refcnts else agedCounts draw }

/-- What moves by itself after a step, by free values: the counters (10_state R45, R67, R68; 45_system R660 (b)), the
aging of the TLB, by the cycles that TICK counts (20_memory R168), and what WAIT waits for (45_system R636). IRQ_CTR does
not count (60_exceptions R950). -/
def envTick (s : State) : State :=
  { s with
    ctr := { s.ctr with
      tick := tickAfter s.ctr.tick (Config.freeTick s.freeIdx)
      tmClk := s.ctr.tmClk + Config.freeTmClk s.freeIdx
      iqCtr := s.ctr.iqCtr + Config.freeIq s.freeIdx
      bmCtr := s.ctr.bmCtr + Config.freeBm s.freeIdx
      brCtr := s.ctr.brCtr + Config.freeBr s.freeIdx }
    tlb := { tlbAge (Config.freeTick s.freeIdx) s.freeIdx s.tlb with
      random := wayAfter s.tlb.wired (Config.freeWay s.freeIdx) }
    waitLow := Config.freeWaitLow s.freeIdx
    waitRunning := Config.freeWaitRunning s.freeIdx
    freeIdx := s.freeIdx + 1 }

/-- The Reset event (70_reset_and_hazards R1020, R1021): memory, the parameters and the other inputs stay, TIME runs on,
and everything else is as in State.reset (log 42). -/
def resetEvent (s : State) : State :=
  { State.reset with
    cfg := s.cfg
    mem := s.mem
    irqLevel := s.irqLevel
    irqCause := s.irqCause
    waitLow := s.waitLow
    waitRunning := s.waitRunning
    freeIdx := s.freeIdx
    ctr := { Counters.reset with tmClk := s.ctr.tmClk } }

/-- What follows an instruction that gave a next state. -/
def afterInstr (armed : Bool) (s : State) : State := singleStep armed (countRetired s)

/-- A function applied to the next state of an outcome. -/
def mapNext (f : State → State) : Outcome → Outcome
  | .next s => .next (f s)
  | .fault x => .fault x
  | .refused r => .refused r

/-- n bytes of a word at a physical address. -/
def placeWord (s : State) : Nat → Nat → Nat → State
  | 0, _, _ => s
  | n + 1, pa, w =>
    placeWord { s with mem := storeSet 0 s.mem (pa % 2 ^ s.cfg.paBits) (BitVec.ofNat 8 w) } n (pa + 1) (w / 256)

end Sys2Proof.Machine
end

