-- ==== Sys2Proof/Machine/Operands.lean ====
section
/-! DEFINITION. Operand forms: immediates (30_encoding R224, R225), effective addresses (43_memory_ops R480, R481), sizes and
lanes (30_encoding R232, 40_integer_alu R301), bit lists. -/

namespace Sys2Proof.Machine

/-- sext_64 of the immediate of formats RI and MS (30_encoding R224, R226). -/
def immS : Imm → Word
  | .short v => sext64 v
  | .long v => sext64 v

/-- sext_64 of the immediate of LUI and AUIPC (30_encoding R225). -/
def upperS : UpperImm → Word
  | .short v => sext64 v
  | .long v => sext64 v

/-- x[Ra] + displacement (43_memory_ops R480). -/
def eaDisp (s : State) (ra : RegNo) (d : Imm) : Word := s.x ra + immS d

/-- x[Ra] + (x[Rc] << Sc2) (43_memory_ops R481). -/
def eaIndex (s : State) (ra rc : RegNo) (sc : BitVec 2) : Word := s.x ra + (s.x rc <<< sc.toNat)

/-- The element width of a size code in the count and atomic group: 8, 16, 32, 64 (30_encoding R232). -/
def sizeBits (sz : BitVec 3) : Nat := 8 * 2 ^ (sz.toNat % 4)

/-- A function of one value at every width. -/
abbrev LaneFn1 := (w : Nat) → BitVec w → BitVec w

/-- A function of two values at every width. -/
abbrev LaneFn2 := (w : Nat) → BitVec w → BitVec w → BitVec w

/-- A function of three values at every width. -/
abbrev LaneFn3 := (w : Nat) → BitVec w → BitVec w → BitVec w → BitVec w

/-- Lane k of w bits (40_integer_alu R301). -/
def lane (w k : Nat) (a : Word) : BitVec w := field a (w * k) w

/-- Eight lanes of 8 bits, lane 7 first. -/
def join8 (f : Nat → BitVec 8) : Word := f 7 ++ f 6 ++ f 5 ++ f 4 ++ f 3 ++ f 2 ++ f 1 ++ f 0

/-- Four lanes of 16 bits, lane 3 first. -/
def join16 (f : Nat → BitVec 16) : Word := f 3 ++ f 2 ++ f 1 ++ f 0

/-- Two lanes of 32 bits, lane 1 first. -/
def join32 (f : Nat → BitVec 32) : Word := f 1 ++ f 0

/-- lanewise (40_integer_alu R301), one operand. -/
def lanes1 (sz : BitVec 3) (f : LaneFn1) (a : Word) : Word :=
  if sz = 4 then join8 fun k => f 8 (lane 8 k a)
  else if sz = 5 then join16 fun k => f 16 (lane 16 k a)
  else if sz = 6 then join32 fun k => f 32 (lane 32 k a)
  else f 64 a

/-- lanewise (40_integer_alu R301), two operands. -/
def lanes2 (sz : BitVec 3) (f : LaneFn2) (a b : Word) : Word :=
  if sz = 4 then join8 fun k => f 8 (lane 8 k a) (lane 8 k b)
  else if sz = 5 then join16 fun k => f 16 (lane 16 k a) (lane 16 k b)
  else if sz = 6 then join32 fun k => f 32 (lane 32 k a) (lane 32 k b)
  else f 64 a b

/-- lanewise (40_integer_alu R301), three operands. -/
def lanes3 (sz : BitVec 3) (f : LaneFn3) (a b c : Word) : Word :=
  if sz = 4 then join8 fun k => f 8 (lane 8 k a) (lane 8 k b) (lane 8 k c)
  else if sz = 5 then join16 fun k => f 16 (lane 16 k a) (lane 16 k b) (lane 16 k c)
  else if sz = 6 then join32 fun k => f 32 (lane 32 k a) (lane 32 k b) (lane 32 k c)
  else f 64 a b c

/-- Whether a condition holds in some lane (42_muldiv R441, R455: in any lane counts). -/
def anyLane (sz : BitVec 3) (p : (w : Nat) → BitVec w → BitVec w → Bool) (a b : Word) : Bool :=
  if sz = 4 then (List.range 8).any fun k => p 8 (lane 8 k a) (lane 8 k b)
  else if sz = 5 then (List.range 4).any fun k => p 16 (lane 16 k a) (lane 16 k b)
  else if sz = 6 then (List.range 2).any fun k => p 32 (lane 32 k a) (lane 32 k b)
  else p 64 a b

/-- The number whose bits below n are given. -/
def bitsNat (f : Nat → Bool) : Nat → Nat
  | 0 => 0
  | n + 1 => bitsNat f n + (if f n then 2 ^ n else 0)

/-- The word whose bits are given. -/
def wordOfBits (f : Nat → Bool) : Word := BitVec.ofNat 64 (bitsNat f 64)

/-- How many of the bits below n are equal to b, counted down from bit n - 1 up to the first other one. -/
def leading (b : Bool) (a : Word) : Nat → Nat
  | 0 => 0
  | n + 1 => if bitAt a n = b then leading b a n + 1 else 0

/-- How many of the bits below n are set. -/
def ones (a : Word) : Nat → Nat
  | 0 => 0
  | n + 1 => ones a n + (if bitAt a n then 1 else 0)

/-- The highest set bit below n. -/
def highestSet (a : Word) : Nat → Option Nat
  | 0 => none
  | n + 1 => if bitAt a n then some n else highestSet a n

/-- The lowest set bit at or above k, among the n bits from k. -/
def lowestSet (a : Word) : Nat → Nat → Option Nat
  | 0, _ => none
  | n + 1, k => if bitAt a k then some k else lowestSet a n (k + 1)

/-! ## Ending forms shared by the families -/

/-- x[Rt] <- v and the next instruction. -/
def writeX (rt : RegNo) (v : Word) (s : State) : Outcome := (putX rt v s).retire

/-- A part that gives a value, x[Rt] <- the value, and the next instruction. -/
def finishX (rt : RegNo) (m : Res Word) : Outcome := (m.andThen fun v s => putX rt v s).retire

/-- A function of two words that may note or raise (R300). -/
abbrev AluFn := Word → Word → State → Res Word

/-- The function that neither notes nor raises. -/
def pureFn (f : Word → Word → Word) : AluFn := fun a b s => .ok (f a b) s

/-- x[Rt] <- f(x[Ra], x[Rb]) (40_integer_alu R300). -/
def aluReg (f : AluFn) (rt ra rb : RegNo) (s : State) : Outcome := finishX rt (f (s.x ra) (s.x rb) s)

/-- x[Rt] <- f(x[Ra], sext_64(imm)) (40_integer_alu R300). -/
def aluImm (f : AluFn) (rt ra : RegNo) (imm : Imm) (s : State) : Outcome := finishX rt (f (s.x ra) (immS imm) s)

end Sys2Proof.Machine
end

