-- ==== Sys2Proof/Machine/Float.lean ====
section
/-! DEFINITION. Double-precision arithmetic: values, rounding, results and the conditions they detect, 47_float R760 to
R767, R775, R789 to R792. Exact values are integers times powers of two; each operation rounds once. What the spec takes
from general knowledge (93 G5, G6) is PRESUMED: log 31. -/

namespace Sys2Proof.Machine

/-! ## Values: R760, R761 -/

/-- A double: a NaN, an infinity, or the number (-1)^neg * m * 2^e. -/
inductive FpVal where
  | nan (signaling : Bool)
  | inf (neg : Bool)
  | fin (neg : Bool) (m : Nat) (e : Int)
  deriving DecidableEq, Repr

/-- The value of a format with ew exponent bits and fw fraction bits, bias 2^(ew-1) - 1 (R760, R761, R792). -/
def fpDecode (ew fw : Nat) (neg : Bool) (ex fr : Nat) : FpVal :=
  if ex = 2 ^ ew - 1 then (if fr = 0 then .inf neg else .nan (decide (fr < 2 ^ (fw - 1))))
  else if ex = 0 then .fin neg fr (2 - (2 ^ (ew - 1) : Nat) - fw : Int)
  else .fin neg (2 ^ fw + fr) ((ex : Int) + 1 - (2 ^ (ew - 1) : Nat) - fw)

/-- The value of a double. -/
def fpVal (v : Word) : FpVal := fpDecode 11 52 (bitAt v 63) (field v 52 11).toNat (field v 0 52).toNat

/-- The value of a single in the low half of a register (R792). -/
def fpValSingle (v : Word) : FpVal := fpDecode 8 23 (bitAt v 31) (field v 23 8).toNat (field v 0 23).toNat

def fpIsNan (v : Word) : Bool := field v 52 11 == BitVec.allOnes 11 && field v 0 52 != 0
def fpIsSnan (v : Word) : Bool := fpIsNan v && !bitAt v 51
def fpIsInf (v : Word) : Bool := field v 52 11 == BitVec.allOnes 11 && field v 0 52 == 0
def fpIsZero (v : Word) : Bool := field v 0 63 == 0
def fpIsDenorm (v : Word) : Bool := field v 52 11 == 0 && field v 0 52 != 0

def fpZero (neg : Bool) : Word := if neg then 0x8000000000000000 else 0
def fpInf (neg : Bool) : Word := if neg then 0xFFF0000000000000 else 0x7FF0000000000000
def fpLargest (neg : Bool) : Word := if neg then 0xFFEFFFFFFFFFFFFF else 0x7FEFFFFFFFFFFFFF

/-! ## Rounding: R763, R765 -/

/-- The rounding modes (R763). -/
inductive FpMode where
  | rne
  | rtz
  | rup
  | rdn
  | rmm
  deriving DecidableEq, Repr

/-- The mode of a code: 5, 6 and 7 are round to nearest even (R763, log 47). -/
def fpMode (rm : BitVec 3) : FpMode :=
  match rm.toNat with
  | 1 => .rtz
  | 2 => .rup
  | 3 => .rdn
  | 4 => .rmm
  | _ => .rne

/-- The conditions: bits as the FTX mask numbers them (R767). -/
def excInvalid : BitVec 5 := 1
def excOverflow : BitVec 5 := 2
def excUnderflow : BitVec 5 := 4
def excDivZero : BitVec 5 := 8
def excInexact : BitVec 5 := 16

/-- The types of an invalid operation: FSTAT bits 7:0 (R767). -/
def typSnan : BitVec 8 := 1
def typSubInf : BitVec 8 := 2
def typInfDiv : BitVec 8 := 4
def typZeroZero : BitVec 8 := 8
def typInfZero : BitVec 8 := 16
def typNanCmp : BitVec 8 := 32
def typSqrt : BitVec 8 := 64
def typCvt : BitVec 8 := 128

/-- A result with what it detected: fractie and rawayz are FSTAT bits 22 and 21 (R768). -/
structure FpResult where
  bits : Word
  exc : BitVec 5
  types : BitVec 8
  fractie : Bool
  rawayz : Bool
  deriving DecidableEq, Repr

/-- A result that is exact. -/
def fpExact (v : Word) : FpResult := { bits := v, exc := 0, types := 0, fractie := false, rawayz := false }

/-- The parameters that results depend on. -/
structure FpEnv where
  mode : FpMode
  tininess : FpTininess
  nan : FpNanResult
  deriving DecidableEq, Repr

/-- The NaN delivered for a list of operands (R766). -/
def fpNan (env : FpEnv) (ops : List Word) : Word :=
  match env.nan with
  | .canonical => 0x7FF8000000000000
  | .propagate =>
    match ops.find? fpIsNan with
    | some v => setBitAt v 51 true
    | none => 0x7FF8000000000000

/-- An invalid operation of a type: NaN. -/
def fpInvalid (env : FpEnv) (ops : List Word) (types : BitVec 8) : FpResult :=
  { bits := fpNan env ops, exc := excInvalid, types := types, fractie := false, rawayz := false }

/-- The result for a NaN operand: invalid if one is signaling (R765). -/
def fpNanResult (env : FpEnv) (ops : List Word) : FpResult :=
  if ops.any fpIsSnan then fpInvalid env ops typSnan else fpExact (fpNan env ops)

/-- Whether a magnitude sig + rem/2^d (d > 0) rounds away from zero. -/
def fpRoundsUp (mode : FpMode) (neg : Bool) (sig rem d : Nat) : Bool :=
  match mode with
  | .rne => decide (2 ^ (d - 1) < rem) || (decide (rem = 2 ^ (d - 1)) && decide (sig % 2 = 1))
  | .rtz => false
  | .rup => decide (rem ≠ 0) && !neg
  | .rdn => decide (rem ≠ 0) && neg
  | .rmm => decide (2 ^ (d - 1) ≤ rem)

/-- m * 2^e as a multiple of 2^q: the rounded multiple, whether it is inexact, whether it is rounded away from zero. -/
def fpQuantize (mode : FpMode) (neg : Bool) (m : Nat) (e q : Int) : Nat × Bool × Bool :=
  if q ≤ e then (m * 2 ^ (e - q).toNat, false, false)
  else
    let d := (q - e).toNat
    let up := d ≠ 0 && fpRoundsUp mode neg (m / 2 ^ d) (m % 2 ^ d) d
    (m / 2 ^ d + (if up then 1 else 0), decide (m % 2 ^ d ≠ 0), up)

/-- The result when the rounded magnitude exceeds the largest finite double (R765). -/
def fpOverflow (mode : FpMode) (neg : Bool) : FpResult :=
  let toInf : Bool :=
    match mode with
    | .rne => true
    | .rmm => true
    | .rtz => false
    | .rup => !neg
    | .rdn => neg
  { bits := if toInf then fpInf neg else fpLargest neg
    exc := excOverflow ||| excInexact, types := 0, fractie := true, rawayz := toInf }

/-- Whether a non-zero m * 2^e is tiny (R765, FP_TININESS). -/
def fpTiny (env : FpEnv) (neg : Bool) (m : Nat) (e : Int) : Bool :=
  let top := e + Nat.log2 m
  match env.tininess with
  | .beforeRounding => decide (top < -1022)
  | .afterRounding =>
    if (fpQuantize env.mode neg m e (top - 52)).1 = 2 ^ 53 then decide (top + 1 < -1022) else decide (top < -1022)

/-- (-1)^neg * m * 2^e, m > 0, rounded to a double (R765). -/
def fpRound (env : FpEnv) (neg : Bool) (m : Nat) (e : Int) : FpResult :=
  let q := max (e + Nat.log2 m - 52) (-1074)
  let r := fpQuantize env.mode neg m e q
  let mag := (q + 1074).toNat * 2 ^ 52 + r.1
  if 0x7FF0000000000000 ≤ mag then fpOverflow env.mode neg
  else
    { bits := fpZero neg ||| BitVec.ofNat 64 mag
      exc := (if r.2.1 then excInexact else 0) |||
        (if r.2.1 && fpTiny env neg m e then excUnderflow else 0)
      types := 0
      fractie := r.2.1
      rawayz := r.2.2 }

/-! ## Arithmetic: R765, R770 to R774 -/

/-- The signed integer of a sign and a magnitude. -/
def signedOf (neg : Bool) (m : Nat) : Int := if neg then -(m : Int) else (m : Int)

/-- The sum of two finite numbers. -/
def fpAddFinite (env : FpEnv) (n1 : Bool) (m1 : Nat) (e1 : Int) (n2 : Bool) (m2 : Nat) (e2 : Int) : FpResult :=
  let e := min e1 e2
  let t := signedOf n1 (m1 * 2 ^ (e1 - e).toNat) + signedOf n2 (m2 * 2 ^ (e2 - e).toNat)
  if t = 0 then
    fpExact (fpZero (if m1 = 0 && m2 = 0 && n1 == n2 then n1 else decide (env.mode = .rdn)))
  else fpRound env (decide (t < 0)) t.natAbs e

/-- The sum of two values, neither a NaN. -/
def fpAddVal (env : FpEnv) (ops : List Word) : FpVal → FpVal → FpResult
  | .inf n1, .inf n2 => if n1 = n2 then fpExact (fpInf n1) else fpInvalid env ops typSubInf
  | .inf n1, _ => fpExact (fpInf n1)
  | _, .inf n2 => fpExact (fpInf n2)
  | .fin n1 m1 e1, .fin n2 m2 e2 => fpAddFinite env n1 m1 e1 n2 m2 e2
  | _, _ => fpNanResult env ops

/-- A value with its sign inverted. -/
def fpValNeg : FpVal → FpVal
  | .nan s => .nan s
  | .inf n => .inf (!n)
  | .fin n m e => .fin (!n) m e

/-- An operation of two operands: a NaN operand first (R765). -/
def fpBinary (f : FpEnv → List Word → FpVal → FpVal → FpResult) (env : FpEnv) (a b : Word) : FpResult :=
  if fpIsNan a || fpIsNan b then fpNanResult env [a, b] else f env [a, b] (fpVal a) (fpVal b)

/-- R770. -/
def fpAdd : FpEnv → Word → Word → FpResult := fpBinary fpAddVal

/-- R771. -/
def fpSub : FpEnv → Word → Word → FpResult := fpBinary fun env ops x y => fpAddVal env ops x (fpValNeg y)

/-- The product of two values, neither a NaN (R765, R772). -/
def fpMulVal (env : FpEnv) (ops : List Word) : FpVal → FpVal → FpResult
  | .inf n1, .inf n2 => fpExact (fpInf (xor n1 n2))
  | .inf n1, .fin n2 m2 _ => if m2 = 0 then fpInvalid env ops typInfZero else fpExact (fpInf (xor n1 n2))
  | .fin n1 m1 _, .inf n2 => if m1 = 0 then fpInvalid env ops typInfZero else fpExact (fpInf (xor n1 n2))
  | .fin n1 m1 e1, .fin n2 m2 e2 =>
    if m1 * m2 = 0 then fpExact (fpZero (xor n1 n2)) else fpRound env (xor n1 n2) (m1 * m2) (e1 + e2)
  | _, _ => fpNanResult env ops

/-- R772. -/
def fpMul : FpEnv → Word → Word → FpResult := fpBinary fpMulVal

/-- A quotient of magnitudes to 120 more bits, the lowest standing for a remainder. -/
def fpQuotient (m1 m2 : Nat) : Nat := 2 * (m1 * 2 ^ 120 / m2) + (if m1 * 2 ^ 120 % m2 = 0 then 0 else 1)

/-- The quotient of two values, neither a NaN (R765, R773). -/
def fpDivVal (env : FpEnv) (ops : List Word) : FpVal → FpVal → FpResult
  | .inf _, .inf _ => fpInvalid env ops typInfDiv
  | .inf n1, .fin n2 _ _ => fpExact (fpInf (xor n1 n2))
  | .fin n1 _ _, .inf n2 => fpExact (fpZero (xor n1 n2))
  | .fin n1 m1 e1, .fin n2 m2 e2 =>
    if m2 = 0 then
      if m1 = 0 then fpInvalid env ops typZeroZero
      else { fpExact (fpInf (xor n1 n2)) with exc := excDivZero }
    else if m1 = 0 then fpExact (fpZero (xor n1 n2))
    else fpRound env (xor n1 n2) (fpQuotient m1 m2) (e1 - e2 - 121)
  | _, _ => fpNanResult env ops

/-- R773. -/
def fpDiv : FpEnv → Word → Word → FpResult := fpBinary fpDivVal

/-- The integer square root, bit by bit from bit k - 1 down. -/
def isqrtFrom (n : Nat) : Nat → Nat → Nat
  | 0, r => r
  | k + 1, r => isqrtFrom n k (if (r + 2 ^ k) * (r + 2 ^ k) ≤ n then r + 2 ^ k else r)

/-- A square root of a magnitude below 2^176, doubled, the lowest bit standing for a remainder. -/
def fpRoot (n : Nat) : Nat := 2 * isqrtFrom n 88 0 + (if isqrtFrom n 88 0 * isqrtFrom n 88 0 = n then 0 else 1)

/-- R774: the square root of -0 is +0. -/
def fpSqrt (env : FpEnv) (a : Word) : FpResult :=
  match fpVal a with
  | .nan _ => fpNanResult env [a]
  | .inf n => if n then fpInvalid env [a] typSqrt else fpExact (fpInf false)
  | .fin n m e =>
    if m = 0 then fpExact 0
    else if n then fpInvalid env [a] typSqrt
    else if e % 2 = 0 then fpRound env false (fpRoot (m * 2 ^ 120)) ((e - 120) / 2 - 1)
    else fpRound env false (fpRoot (m * 2 ^ 121)) ((e - 121) / 2 - 1)

/-! ## Comparison: R775 -/

def fpUnordered (a b : Word) : Bool := fpIsNan a || fpIsNan b

/-- A key that orders the doubles that are not NaNs; both zeros have key 0. -/
def fpKey (v : Word) : Int := signedOf (bitAt v 63) (field v 0 63).toNat

def fpEq (a b : Word) : Bool := !fpUnordered a b && decide (fpKey a = fpKey b)
def fpLt (a b : Word) : Bool := !fpUnordered a b && decide (fpKey a < fpKey b)
def fpLe (a b : Word) : Bool := !fpUnordered a b && decide (fpKey a ≤ fpKey b)
def fpMagLt (a b : Word) : Bool := !fpUnordered a b && (field a 0 63).ult (field b 0 63)

/-- The conditions of a comparison that only a signaling NaN makes invalid (R776, R779). -/
def fpQuietCmp (a b : Word) (v : Word) : FpResult :=
  if fpIsSnan a || fpIsSnan b then { fpExact v with exc := excInvalid, types := typSnan } else fpExact v

/-- The conditions of an ordered comparison (R779). -/
def fpOrderedCmp (a b : Word) (v : Word) : FpResult :=
  if fpUnordered a b then
    { fpExact v with
      exc := excInvalid
      types := typNanCmp ||| (if fpIsSnan a || fpIsSnan b then typSnan else 0) }
  else fpExact v

/-! ## Sign operations and conversions: R786 to R792 -/

def fpNegate (v : Word) : Word := v ^^^ 0x8000000000000000
def fpAbsolute (v : Word) : Word := v &&& 0x7FFFFFFFFFFFFFFF
def fpNegAbsolute (v : Word) : Word := v ||| 0x8000000000000000

/-- R789. -/
def fpSignum (v : Word) : Word :=
  if fpIsZero v then 0 else if bitAt v 63 then 0xBFF0000000000000 else 0x3FF0000000000000

/-- An attempt to convert what no integer holds (R790). -/
def fpCvtInvalid (v : Word) (types : BitVec 8) : FpResult :=
  { bits := v, exc := excInvalid, types := types, fractie := false, rawayz := false }

/-- R790. -/
def fpToInt (env : FpEnv) (a : Word) : FpResult :=
  match fpVal a with
  | .nan sn => fpCvtInvalid 0x7FFFFFFFFFFFFFFF (typCvt ||| (if sn then typSnan else 0))
  | .inf n => fpCvtInvalid (if n then 0x8000000000000000 else 0x7FFFFFFFFFFFFFFF) typCvt
  | .fin n m e =>
    let r := fpQuantize env.mode n m e 0
    let v := signedOf n r.1
    if v > ((2 ^ 63 - 1 : Nat) : Int) then fpCvtInvalid 0x7FFFFFFFFFFFFFFF typCvt
    else if v < -((2 ^ 63 : Nat) : Int) then fpCvtInvalid 0x8000000000000000 typCvt
    else
      { bits := BitVec.ofInt 64 v, exc := if r.2.1 then excInexact else 0, types := 0
        fractie := r.2.1, rawayz := r.2.2 }

/-- R791. -/
def fpOfInt (env : FpEnv) (n : Word) : FpResult :=
  if n = 0 then fpExact 0 else fpRound env (n.slt 0) n.toInt.natAbs 0

/-- The double NaN of a single NaN, for FP_NAN_RESULT = propagate (R766). DESIGN CHOICE (log 52): R792 states no widening
of a NaN; the sign and the fraction are kept, the fraction at the top. -/
def fpWidenNan (v : Word) : Word :=
  (field v 31 1 ++ BitVec.allOnes 11 ++ field v 0 23 ++ (0 : BitVec 29) : BitVec 64)

/-- R792. -/
def fpOfSingle (env : FpEnv) (a : Word) : FpResult :=
  match fpValSingle a with
  | .nan sn =>
    if sn then fpInvalid env [fpWidenNan a] typSnan else fpExact (fpNan env [fpWidenNan a])
  | .inf n => fpExact (fpInf n)
  | .fin n m e => if m = 0 then fpExact (fpZero n) else fpRound env n m e

end Sys2Proof.Machine
end

