-- ==== Sys2Proof/Machine/FloatOps.lean ====
section
/-! DEFINITION. Floating-point instructions and FSTAT: 47_float, 10_state R57. -/

namespace Sys2Proof.Machine

/-! ## FSTAT: 10_state R57, R767, R768 -/

/-- The state with another FSTAT. -/
def State.withFstat (s : State) (w : Word) : State := { s with csr := { s.csr with fstat := w } }

/-- FSTAT with gx, bit 9, computed from the flags and the enables (R768). -/
def fstatGx (w : Word) : Word := setBitAt w 9 (field w 10 5 &&& field w 24 5 != 0)

/-- FSTAT with conditions and types added (R768). -/
def fstatNote (w : Word) (exc : BitVec 5) (types : BitVec 8) : Word :=
  let w1 := setField w 0 (field w 0 8 ||| types)
  let w2 := setField w1 10 (field w1 10 5 ||| exc)
  fstatGx (if exc = 0 then w2 else setBitAt w2 8 true)

/-- The result-status bits 22:16 of a floating-point result (R768). -/
def resultStatus (r : FpResult) : BitVec 7 :=
  let v := r.bits
  let nan := fpIsNan v
  let neg := bitAt v 63
  let zero := fpIsZero v
  BitVec.ofBool (r.fractie || (r.exc &&& excOverflow != 0)) ++ BitVec.ofBool r.rawayz ++
    BitVec.ofBool (fpIsDenorm v || (zero && neg) || nan) ++ BitVec.ofBool (neg && !zero && !nan) ++
    BitVec.ofBool (!neg && !zero && !nan) ++ BitVec.ofBool zero ++ BitVec.ofBool (fpIsInf v || nan)

/-- The result-status bits of FTOI: fractie and rawayz (R790). -/
def integerStatus (r : FpResult) : BitVec 7 := BitVec.ofBool r.fractie ++ BitVec.ofBool r.rawayz ++ (0 : BitVec 5)

/-- The first half of FpFinish: the flags, and FLT if one of the conditions is enabled (R768, R769). -/
def fpFlags (r : FpResult) (s : State) : Res Unit :=
  let s1 := s.withFstat (fstatNote s.csr.fstat r.exc r.types)
  if r.exc &&& field s1.csr.fstat 24 5 = 0 then .ok () s1 else .exc causeFLT s1

/-- The result-status bits written (R768). -/
def fpStatus (b : BitVec 7) (s : State) : State := s.withFstat (setField s.csr.fstat 16 b)

/-- FpFinish with a floating-point result that a part writes (R768). DESIGN CHOICE (log 38): a stack fault of the write
keeps the flags FSTAT has gathered before it and writes no result-status bits. -/
def fpFinish (status : FpResult → BitVec 7) (put : Word → State → Res Unit) (r : FpResult) (s : State) : Res Unit :=
  (fpFlags r s).andThen fun _ s1 => (put r.bits s1).andThen fun _ s2 => .ok () (fpStatus (status r) s2)

/-! ## Precision, rounding mode, presence: R762, R763, R802 -/

/-- Whether a precision field names what the core has (R762). -/
def prcOk (s : State) (prc : BitVec 4) : Bool := prc == 2 || s.cfg.fpPrcIgnored

/-- The precision check of a form. -/
def formOk (s : State) : FpForm → Bool
  | .short _ => true
  | .long prc _ => prcOk s prc

/-- The precision check of a flag form. -/
def flagFormOk (s : State) : FlagForm → Bool
  | .short => true
  | .long prc => prcOk s prc

/-- Rm3 of a form. -/
def formRm : FpForm → BitVec 3
  | .short rm => rm
  | .long _ rm => rm

/-- FSTAT.RM. -/
def State.fpRm (s : State) : BitVec 3 := field s.csr.fstat 29 3

/-- rm_eff (R763). -/
def rmEff (s : State) (rm : BitVec 3) : BitVec 3 := if rm = s.cfg.rmDynamic then s.fpRm else rm

/-- What results depend on, with a rounding mode code. -/
def fpEnv (s : State) (rm : BitVec 3) : FpEnv :=
  { mode := fpMode rm, tininess := s.cfg.fpTininess, nan := s.cfg.fpNanResult }

/-- A floating-point instruction: reserved without a unit or with a precision the core does not have (R762, R802). -/
def fpInstr (ok : Bool) (s : State) (m : Outcome) : Outcome :=
  if s.cfg.numFpu = 0 then reserved s else if ok then m else reserved s

/-! ## Two sources: R770 to R773, R776 to R780 -/

/-- f[Rt] <- f[Ra] op f[Rb]. -/
def fpArith (op : FpEnv → Word → Word → FpResult) (rt ra rb : RegNo) (f : FpForm) (s : State) : Outcome :=
  fpInstr (formOk s f) s
    (fpFinish resultStatus (putF rt) (op (fpEnv s (rmEff s (formRm f))) (s.f ra) (s.f rb)) s).retire

/-- x[Rt] <- a comparison of f[Ra] and f[Rb] (R776 to R780). DESIGN CHOICE (log 38): a stack fault of the write keeps the
flags FSTAT has gathered before it. -/
def fpCompare (op : Word → Word → FpResult) (rt ra rb : RegNo) (f : FpForm) (s : State) : Outcome :=
  fpInstr (formOk s f) s
    ((fpFlags (op (s.f ra) (s.f rb)) s).andThen fun _ s1 => putX rt (op (s.f ra) (s.f rb)).bits s1).retire

/-- The relation bits of FCMP (R776). -/
def fcmpBits (a b : Word) : Word :=
  zext64 (BitVec.ofBool (fpUnordered a b) ++ BitVec.ofBool (fpLe a b) ++ BitVec.ofBool (fpMagLt a b) ++
    BitVec.ofBool (fpLt a b) ++ BitVec.ofBool (fpEq a b))

/-- FSEQ and FSNE signal on a quiet NaN by FP_EQ_SIGNALS (R779, 93 U19). -/
def fpEqCmp (signals : Bool) (a b : Word) (v : Word) : FpResult :=
  if signals then fpOrderedCmp a b v else fpQuietCmp a b v

/-- R770. -/
def execFadd (rt ra rb : RegNo) (f : FpForm) (s : State) : Outcome := fpArith fpAdd rt ra rb f s
/-- R771. -/
def execFsub (rt ra rb : RegNo) (f : FpForm) (s : State) : Outcome := fpArith fpSub rt ra rb f s
/-- R772. -/
def execFmul (rt ra rb : RegNo) (f : FpForm) (s : State) : Outcome := fpArith fpMul rt ra rb f s
/-- R773. -/
def execFdiv (rt ra rb : RegNo) (f : FpForm) (s : State) : Outcome := fpArith fpDiv rt ra rb f s
/-- R776. -/
def execFcmp (rt ra rb : RegNo) (f : FpForm) (s : State) : Outcome :=
  fpCompare (fun a b => fpQuietCmp a b (fcmpBits a b)) rt ra rb f s
/-- R777. -/
def execFslt (rt ra rb : RegNo) (f : FpForm) (s : State) : Outcome :=
  fpCompare (fun a b => fpOrderedCmp a b (boolWord (fpLt a b))) rt ra rb f s
/-- R778. -/
def execFsge (rt ra rb : RegNo) (f : FpForm) (s : State) : Outcome :=
  fpCompare (fun a b => fpOrderedCmp a b (boolWord (fpLe b a))) rt ra rb f s
/-- R778. -/
def execFsle (rt ra rb : RegNo) (f : FpForm) (s : State) : Outcome :=
  fpCompare (fun a b => fpOrderedCmp a b (boolWord (fpLe a b))) rt ra rb f s
/-- R778. -/
def execFsgt (rt ra rb : RegNo) (f : FpForm) (s : State) : Outcome :=
  fpCompare (fun a b => fpOrderedCmp a b (boolWord (fpLt b a))) rt ra rb f s
/-- R778. -/
def execFseq (rt ra rb : RegNo) (f : FpForm) (s : State) : Outcome :=
  fpCompare (fun a b => fpEqCmp s.cfg.fpEqSignals a b (boolWord (fpEq a b))) rt ra rb f s
/-- R778. -/
def execFsne (rt ra rb : RegNo) (f : FpForm) (s : State) : Outcome :=
  fpCompare (fun a b => fpEqCmp s.cfg.fpEqSignals a b (boolWord (!fpEq a b))) rt ra rb f s
/-- R780. -/
def execFsun (rt ra rb : RegNo) (f : FpForm) (s : State) : Outcome :=
  fpCompare (fun a b => fpQuietCmp a b (boolWord (fpUnordered a b))) rt ra rb f s

/-! ## One source: R774, R785 to R792 -/

/-- f[Rt] <- a function of f[Ra] that touches no flag (R785 to R789). -/
def fpMove (op : Word → Word) (rt ra : RegNo) (prc : BitVec 4) (s : State) : Outcome :=
  fpInstr (prcOk s prc) s (putF rt (op (s.f ra)) s).retire

/-- f[Rt] <- a rounded function of a source. -/
def fpUnary (status : FpResult → BitVec 7) (op : FpEnv → Word → FpResult) (rt : RegNo) (v : Word) (prc : BitVec 4)
    (rm : BitVec 3) (s : State) : Outcome :=
  fpInstr (prcOk s prc) s (fpFinish status (putF rt) (op (fpEnv s (rmEff s rm)) v) s).retire

/-- R785. -/
def execFmov (rt ra : RegNo) (prc : BitVec 4) (_rm : BitVec 3) (_long : Bool) (s : State) : Outcome :=
  fpMove (fun v => v) rt ra prc s
/-- R786. -/
def execFneg (rt ra : RegNo) (prc : BitVec 4) (_rm : BitVec 3) (_long : Bool) (s : State) : Outcome :=
  fpMove fpNegate rt ra prc s
/-- R787. -/
def execFabs (rt ra : RegNo) (prc : BitVec 4) (_rm : BitVec 3) (_long : Bool) (s : State) : Outcome :=
  fpMove fpAbsolute rt ra prc s
/-- R788. -/
def execFnabs (rt ra : RegNo) (prc : BitVec 4) (_rm : BitVec 3) (_long : Bool) (s : State) : Outcome :=
  fpMove fpNegAbsolute rt ra prc s
/-- R789. -/
def execFsign (rt ra : RegNo) (prc : BitVec 4) (_rm : BitVec 3) (_long : Bool) (s : State) : Outcome :=
  fpMove fpSignum rt ra prc s
/-- R774. -/
def execFsqrt (rt ra : RegNo) (prc : BitVec 4) (rm : BitVec 3) (_long : Bool) (s : State) : Outcome :=
  fpUnary resultStatus fpSqrt rt (s.f ra) prc rm s
/-- R790. -/
def execFtoi (rt ra : RegNo) (prc : BitVec 4) (rm : BitVec 3) (_long : Bool) (s : State) : Outcome :=
  fpUnary integerStatus fpToInt rt (s.f ra) prc rm s
/-- R791. -/
def execItof (rt ra : RegNo) (fromX : Bool) (prc : BitVec 4) (rm : BitVec 3) (_long : Bool) (s : State) : Outcome :=
  fpUnary resultStatus fpOfInt rt (if fromX then s.x ra else s.f ra) prc rm s
/-- R792. -/
def execFcvtsd (rt ra : RegNo) (prc : BitVec 4) (rm : BitVec 3) (_long : Bool) (s : State) : Outcome :=
  fpUnary resultStatus fpOfSingle rt (s.f ra) prc rm s

/-! ## Flag instructions: R795 to R799 -/

/-- The mask of a flag instruction. -/
def flagMask (s : State) (ra : RegNo) (imm : BitVec 6) : BitVec 6 := imm ||| field (s.x ra) 0 6

/-- FSTAT after FTX (R795). -/
def fstatTrigger (w : Word) (m : BitVec 6) : Word :=
  let w1 := if bitAt m 0 then setBitAt w 15 true else w
  fstatNote w1 (field m 0 5) 0

/-- FSTAT after FCX (R796). -/
def fstatClear (w : Word) (m : BitVec 6) : Word :=
  let w1 := if bitAt m 0 then setField (setBitAt w 15 false) 0 (0 : BitVec 8) else w
  let w2 := setField w1 10 (field w1 10 5 &&& ~~~(field m 0 5))
  fstatGx (if bitAt m 5 then setBitAt w2 8 false else w2)

/-- FSTAT after FEX and FDX (R797, R798). -/
def fstatEnable (w : Word) (m : BitVec 6) : Word := fstatGx (setField w 24 (field w 24 5 ||| field m 0 5))
def fstatDisable (w : Word) (m : BitVec 6) : Word := fstatGx (setField w 24 (field w 24 5 &&& ~~~(field m 0 5)))

/-- FTX (R795): FLT, if taken, returns to the next instruction. -/
def triggerFp (m : BitVec 6) (s : State) : Outcome :=
  if field m 0 5 &&& field s.csr.fstat 24 5 = 0 then .next (s.withFstat (fstatTrigger s.csr.fstat m)).advance
  else
    .next { trapEnter causeFLT 0 0 s.nextPc (noteInstr (s.withFstat (fstatTrigger s.csr.fstat m))) with
      event := .raised }

/-- R795. -/
def execFtx (ra : RegNo) (imm : BitVec 6) (f : FlagForm) (s : State) : Outcome :=
  fpInstr (flagFormOk s f) s (triggerFp (flagMask s ra imm) s)
/-- R796. -/
def execFcx (ra : RegNo) (imm : BitVec 6) (f : FlagForm) (s : State) : Outcome :=
  fpInstr (flagFormOk s f) s (.next (s.withFstat (fstatClear s.csr.fstat (flagMask s ra imm))).advance)
/-- R797. -/
def execFex (ra : RegNo) (imm : BitVec 6) (f : FlagForm) (s : State) : Outcome :=
  fpInstr (flagFormOk s f) s (.next (s.withFstat (fstatEnable s.csr.fstat (flagMask s ra imm))).advance)
/-- R798. -/
def execFdx (ra : RegNo) (imm : BitVec 6) (f : FlagForm) (s : State) : Outcome :=
  fpInstr (flagFormOk s f) s (.next (s.withFstat (fstatDisable s.csr.fstat (flagMask s ra imm))).advance)
/-- R799. -/
def execFsync (f : FlagForm) (s : State) : Outcome := fpInstr (flagFormOk s f) s (.next s.advance)

end Sys2Proof.Machine
end

