-- ==== Sys2Proof/Machine/Flow.lean ====
section
/-! DEFINITION. Branches, jumps, calls and returns: 44_flow_control. -/

namespace Sys2Proof.Machine

/-! ## Conditional branches: R580 to R597 -/

/-- The branch target: bits 31:1 of pc plus the displacement, no carry beyond (R580). -/
def branchTarget (pc : Word) (disp : BitVec 11) : Word := setField pc 1 (field pc 1 31 + disp.signExtend 31)

/-- A branch on a condition: BD on a taken branch to itself (R581, R582). -/
def branch (taken : Bool) (disp : BitVec 11) (s : State) : Outcome :=
  (if taken then (if disp = 0 then Res.exc causeBD s else .ok (branchTarget s.pc disp) s)
   else .ok s.nextPc s).retireTo

/-- R582. -/
def execBeq (ra rb : RegNo) (disp : BitVec 11) (s : State) : Outcome := branch (s.x ra == s.x rb) disp s
/-- R582. -/
def execBne (ra rb : RegNo) (disp : BitVec 11) (s : State) : Outcome := branch (s.x ra != s.x rb) disp s
/-- R582. -/
def execBlt (ra rb : RegNo) (disp : BitVec 11) (s : State) : Outcome := branch ((s.x ra).slt (s.x rb)) disp s
/-- R582. -/
def execBge (ra rb : RegNo) (disp : BitVec 11) (s : State) : Outcome := branch ((s.x rb).sle (s.x ra)) disp s
/-- R582. -/
def execBand (ra rb : RegNo) (disp : BitVec 11) (s : State) : Outcome := branch (s.x ra != 0 && s.x rb != 0) disp s
/-- R582. -/
def execBor (ra rb : RegNo) (disp : BitVec 11) (s : State) : Outcome := branch (s.x ra != 0 || s.x rb != 0) disp s
/-- R582. -/
def execBltu (ra rb : RegNo) (disp : BitVec 11) (s : State) : Outcome := branch ((s.x ra).ult (s.x rb)) disp s
/-- R582. -/
def execBgeu (ra rb : RegNo) (disp : BitVec 11) (s : State) : Outcome := branch ((s.x rb).ule (s.x ra)) disp s

/-- A floating-point branch (R597, R802). -/
def fpBranch (cond : Word → Word → Bool) (ra rb : RegNo) (disp : BitVec 11) (s : State) : Outcome :=
  fpInstr true s (branch (cond (s.f ra) (s.f rb)) disp s)

/-- R597. -/
def execFbeq (ra rb : RegNo) (disp : BitVec 11) (s : State) : Outcome := fpBranch fpEq ra rb disp s
/-- R597. -/
def execFbne (ra rb : RegNo) (disp : BitVec 11) (s : State) : Outcome := fpBranch (fun a b => !fpEq a b) ra rb disp s
/-- R597. -/
def execFblt (ra rb : RegNo) (disp : BitVec 11) (s : State) : Outcome := fpBranch fpLt ra rb disp s
/-- R597. -/
def execFbge (ra rb : RegNo) (disp : BitVec 11) (s : State) : Outcome := fpBranch (fun a b => fpLe b a) ra rb disp s
/-- R597. -/
def execFbun (ra rb : RegNo) (disp : BitVec 11) (s : State) : Outcome := fpBranch fpUnordered ra rb disp s

/-- R595. -/
def execBbs (ra : RegNo) (bit : BitVec 6) (disp : BitVec 11) (s : State) : Outcome :=
  branch (bitAt (s.x ra) bit.toNat) disp s
/-- R595. -/
def execBbc (ra : RegNo) (bit : BitVec 6) (disp : BitVec 11) (s : State) : Outcome :=
  branch (!bitAt (s.x ra) bit.toNat) disp s
/-- R596. -/
def execBeqi (ra : RegNo) (imm : BitVec 8) (disp : BitVec 11) (s : State) : Outcome :=
  branch (s.x ra == sext64 imm) disp s
/-- R596. -/
def execBnei (ra : RegNo) (imm : BitVec 8) (disp : BitVec 11) (s : State) : Outcome :=
  branch (s.x ra != sext64 imm) disp s

/-! ## Jumps, calls, returns: R590 to R593 -/

/-- far_selector: ZS, ES, HS, or the current code selector (R590). -/
def farSelector (s : State) (seg : BitVec 2) : BitVec 24 :=
  match seg.toNat with
  | 0 => s.segZs
  | 1 => s.segEs
  | 2 => s.segHs
  | _ => field s.pc 40 24

/-- The target of JMP and CALL (R590). -/
def jumpTarget (s : State) : JumpTarget → Word
  | .near a => setField s.pc 0 a
  | .far seg a => setField (setField s.pc 40 (farSelector s seg)) 0 a

/-- The target of JAL (R592). -/
def linkTarget (s : State) (ra : RegNo) : LinkTarget → Word
  | .near imm => s.x ra + sext64 imm
  | .far seg imm => setField (s.x ra + sext64 imm) 40 (farSelector s seg)

/-- x[Rt] <- v, then pc <- t. -/
def linkTo (rt : RegNo) (v t : Word) (s : State) : Outcome :=
  ((putX rt v s).andThen fun _ s1 => .ok t s1).retireTo

/-- R590. -/
def execJmp (t : JumpTarget) (s : State) : Outcome := .next (s.setPc (jumpTarget s t))
/-- R591. -/
def execCall (t : JumpTarget) (s : State) : Outcome := linkTo 29 s.nextPc (jumpTarget s t) s
/-- R592. -/
def execJal (rt ra : RegNo) (t : LinkTarget) (s : State) : Outcome := linkTo rt s.nextPc (linkTarget s ra t) s
/-- R593. -/
def execRet (lr rt ra : RegNo) (imm : BitVec 9) (s : State) : Outcome :=
  linkTo rt (s.x ra + zext64 imm * 8) (s.x lr) s

end Sys2Proof.Machine
end

