-- ==== Sys2Proof/Machine/MemOps.lean ====
section
/-! DEFINITION. Loads, stores and atomic memory instructions: 43_memory_ops. The vector loads and stores are in
Machine/VectorOps.lean. -/

namespace Sys2Proof.Machine

/-! ## Shared forms -/

/-- The low n bytes of a loaded number, sign-extended (R485). -/
def signBytes (n v : Nat) : Word := sext64 (BitVec.ofNat (8 * n) v)

/-- A loaded number, zero-extended; of sixteen bytes the low-addressed eight (R487, R493). -/
def zeroBytes (v : Nat) : Word := BitVec.ofNat 64 v

/-- x[Rt] <- the sign-extended n bytes at ea. -/
def loadSigned (n : Nat) (rt : RegNo) (ea : Word) (s : State) : Outcome :=
  ((memRead ea n s).andThen fun v s1 => putX rt (signBytes n v) s1).retire

/-- x[Rt] <- the zero-extended n bytes at ea. -/
def loadZero (n : Nat) (rt : RegNo) (ea : Word) (s : State) : Outcome :=
  ((memRead ea n s).andThen fun v s1 => putX rt (zeroBytes v) s1).retire

/-- f[Rt] <- the zero-extended n bytes at ea (R494). -/
def loadFloat (n : Nat) (rt : RegNo) (ea : Word) (s : State) : Outcome :=
  ((memRead ea n s).andThen fun v s1 => putF rt (zeroBytes v) s1).retire

/-- The low n bytes of a value to ea. -/
def storeWord (n : Nat) (v ea : Word) (s : State) : Outcome := (memWrite ea n v.toNat s).retire

/-- A write whose address checks have passed is committed, then the register is written (R515, R545, R550). -/
def commitWithX (n pa v : Nat) (rt : RegNo) (r : Word) (s : State) : Res Unit :=
  (guardX rt r s).andThen fun _ s1 => .ok () ((memCommit n pa v s1).setX rt r)

/-- PUSH and PUSHC: v to the word below x[Ra], whose address becomes x[Rt] (R515). -/
def pushTo (v : Word) (rt ra : RegNo) (s : State) : Outcome :=
  ((dataAccess (s.x ra - 8) 8 .write s).andThen fun pa s1 =>
    commitWithX 8 pa v.toNat rt (s.x ra - 8) s1).retire

/-- INC (R520). -/
def incAt (ea : Word) (amt : BitVec 5) (s : State) : Outcome :=
  ((memRead ea 8 s).andThen fun v s1 => memWrite ea 8 (zeroBytes v + sext64 amt).toNat s1).retire

/-- What LWR leaves: a reservation of the word at ea, with its physical address (R540, log 34). -/
def reserveWord (ea : Word) (pa : Nat) (s : State) : State :=
  { s with resvValid := true, resvAddr := ea, resvPa := pa }

/-- LWR (R540). -/
def loadReserved (rt : RegNo) (ea : Word) (s : State) : Outcome :=
  ((dataAccess ea 8 .read s).andThen fun pa s1 =>
    (putX rt (zeroBytes (busRead s1 8 pa)) s1).andThen fun _ s2 => .ok () (reserveWord ea pa s2)).retire

/-- What SWC leaves: no reservation, and SEMA[0] (R540). -/
def endReservation (ok : Bool) (s : State) : State :=
  { s with resvValid := false, csr := { s.csr with sema := setBitAt s.csr.sema 0 ok } }

/-- SWC (R540). -/
def storeConditional (v ea : Word) (s : State) : Outcome :=
  ((dataAccess ea 8 .write s).andThen fun pa s1 =>
    if s.resvValid && s.resvAddr == ea then .ok () (endReservation true (memCommit 8 pa v.toNat s1))
    else .ok () (endReservation false s1)).retire

/-- CAS (R545). -/
def compareSwap (rt : RegNo) (ea : Word) (s : State) : Outcome :=
  ((memRead ea 8 s).andThen fun m s1 =>
    if zeroBytes m = s1.csr.cas then
      (dataAccess ea 8 .write s1).andThen fun pa s2 => commitWithX 8 pa (s.x rt).toNat rt 1 s2
    else
      (guardX rt 0 s1).andThen fun _ s2 =>
        .ok () ({ s2 with csr := { s2.csr with cas := zeroBytes m } }.setX rt 0)).retire

/-- A function of an atomic operation: the width, the memory value, the operand (R550). -/
abbrev AmoFn := (w : Nat) → BitVec w → Word → BitVec w

def amoSwap : AmoFn := fun w _ b => b.setWidth w
def amoAdd : AmoFn := fun w m b => m + b.setWidth w
def amoAnd : AmoFn := fun w m b => m &&& b.setWidth w
def amoOr : AmoFn := fun w m b => m ||| b.setWidth w
def amoXor : AmoFn := fun w m b => m ^^^ b.setWidth w
def amoShl : AmoFn := fun _ m b => m <<< (field b 0 6).toNat
def amoShr : AmoFn := fun _ m b => m >>> (field b 0 6).toNat
def amoMin : AmoFn := fun w m b => if m.slt (b.setWidth w) then m else b.setWidth w
def amoMax : AmoFn := fun w m b => if (b.setWidth w).slt m then m else b.setWidth w
def amoMinu : AmoFn := fun w m b => if m.ult (b.setWidth w) then m else b.setWidth w
def amoMaxu : AmoFn := fun w m b => if (b.setWidth w).ult m then m else b.setWidth w

/-- AMO (R550): both accesses are checked before memory changes; the ordering bits have no effect (R191). -/
def amo (f : AmoFn) (rt ra : RegNo) (b : Word) (sz : BitVec 3) (s : State) : Outcome :=
  if bitAt sz 2 then reserved s
  else
    ((memRead (s.x ra) (sizeBits sz / 8) s).andThen fun m s1 =>
      (dataAccess (s.x ra) (sizeBits sz / 8) .write s1).andThen fun pa s2 =>
        commitWithX (sizeBits sz / 8) pa (f (sizeBits sz) (BitVec.ofNat (sizeBits sz) m) b).toNat rt
          (sext64 (BitVec.ofNat (sizeBits sz) m)) s2).retire

/-! ## Loads, displacement forms -/

/-- R485. -/
def execLb (rt ra : RegNo) (imm : Imm) (s : State) : Outcome := loadSigned 1 rt (eaDisp s ra imm) s
/-- R487. -/
def execLbu (rt ra : RegNo) (imm : Imm) (s : State) : Outcome := loadZero 1 rt (eaDisp s ra imm) s
/-- R540. -/
def execLwr (rt ra : RegNo) (imm : Imm) (s : State) : Outcome := loadReserved rt (eaDisp s ra imm) s
/-- R488. -/
def execLc (rt ra : RegNo) (disp : Imm) (s : State) : Outcome := loadSigned 2 rt (eaDisp s ra disp) s
/-- R490. -/
def execLh (rt ra : RegNo) (disp : Imm) (s : State) : Outcome := loadSigned 4 rt (eaDisp s ra disp) s
/-- R492. -/
def execLw (rt ra : RegNo) (disp : Imm) (s : State) : Outcome := loadZero 8 rt (eaDisp s ra disp) s
/-- R493. -/
def execLd (rt ra : RegNo) (disp : Imm) (s : State) : Outcome := loadZero 16 rt (eaDisp s ra disp) s
/-- R489. -/
def execLcu (rt ra : RegNo) (disp : Imm) (s : State) : Outcome := loadZero 2 rt (eaDisp s ra disp) s
/-- R491. -/
def execLhu (rt ra : RegNo) (disp : Imm) (s : State) : Outcome := loadZero 4 rt (eaDisp s ra disp) s
/-- R494. -/
def execLfs (rt ra : RegNo) (disp : Imm) (s : State) : Outcome := loadFloat 4 rt (eaDisp s ra disp) s
/-- R495. -/
def execLfd (rt ra : RegNo) (disp : Imm) (s : State) : Outcome := loadFloat 8 rt (eaDisp s ra disp) s
/-- R496. -/
def execLfq (rt ra : RegNo) (disp : Imm) (s : State) : Outcome := loadFloat 16 rt (eaDisp s ra disp) s
/-- R497. -/
def execLvc (rt ra : RegNo) (disp : Imm) (s : State) : Outcome := loadSigned 2 rt (eaDisp s ra disp) s
/-- R497. -/
def execLvh (rt ra : RegNo) (disp : Imm) (s : State) : Outcome := loadSigned 4 rt (eaDisp s ra disp) s
/-- R497. -/
def execLvw (rt ra : RegNo) (disp : Imm) (s : State) : Outcome := loadZero 8 rt (eaDisp s ra disp) s
/-- R497. -/
def execLvcu (rt ra : RegNo) (disp : Imm) (s : State) : Outcome := loadZero 2 rt (eaDisp s ra disp) s
/-- R497. -/
def execLvhu (rt ra : RegNo) (disp : Imm) (s : State) : Outcome := loadZero 4 rt (eaDisp s ra disp) s

/-! ## Loads, indexed forms: R481 -/

/-- R497. -/
def execLvbx (rt ra rc : RegNo) (sc : BitVec 2) (s : State) : Outcome := loadSigned 1 rt (eaIndex s ra rc sc) s
/-- R497. -/
def execLvbux (rt ra rc : RegNo) (sc : BitVec 2) (s : State) : Outcome := loadZero 1 rt (eaIndex s ra rc sc) s
/-- R497. -/
def execLvcx (rt ra rc : RegNo) (sc : BitVec 2) (s : State) : Outcome := loadSigned 2 rt (eaIndex s ra rc sc) s
/-- R497. -/
def execLvcux (rt ra rc : RegNo) (sc : BitVec 2) (s : State) : Outcome := loadZero 2 rt (eaIndex s ra rc sc) s
/-- R497. -/
def execLvhx (rt ra rc : RegNo) (sc : BitVec 2) (s : State) : Outcome := loadSigned 4 rt (eaIndex s ra rc sc) s
/-- R497. -/
def execLvhux (rt ra rc : RegNo) (sc : BitVec 2) (s : State) : Outcome := loadZero 4 rt (eaIndex s ra rc sc) s
/-- R497. -/
def execLvwx (rt ra rc : RegNo) (sc : BitVec 2) (s : State) : Outcome := loadZero 8 rt (eaIndex s ra rc sc) s
/-- R488. -/
def execLcx (rt ra rc : RegNo) (sc : BitVec 2) (s : State) : Outcome := loadSigned 2 rt (eaIndex s ra rc sc) s
/-- R489. -/
def execLcux (rt ra rc : RegNo) (sc : BitVec 2) (s : State) : Outcome := loadZero 2 rt (eaIndex s ra rc sc) s
/-- R487. -/
def execLbux (rt ra rc : RegNo) (sc : BitVec 2) (s : State) : Outcome := loadZero 1 rt (eaIndex s ra rc sc) s
/-- R490. -/
def execLhx (rt ra rc : RegNo) (sc : BitVec 2) (s : State) : Outcome := loadSigned 4 rt (eaIndex s ra rc sc) s
/-- R491. -/
def execLhux (rt ra rc : RegNo) (sc : BitVec 2) (s : State) : Outcome := loadZero 4 rt (eaIndex s ra rc sc) s
/-- R492. -/
def execLwx (rt ra rc : RegNo) (sc : BitVec 2) (s : State) : Outcome := loadZero 8 rt (eaIndex s ra rc sc) s
/-- R485. -/
def execLbx (rt ra rc : RegNo) (sc : BitVec 2) (s : State) : Outcome := loadSigned 1 rt (eaIndex s ra rc sc) s
/-- R540. -/
def execLwrx (rt ra rc : RegNo) (sc : BitVec 2) (s : State) : Outcome := loadReserved rt (eaIndex s ra rc sc) s
/-- R494. -/
def execLfsx (rt ra rc : RegNo) (sc : BitVec 2) (s : State) : Outcome := loadFloat 4 rt (eaIndex s ra rc sc) s
/-- R495. -/
def execLfdx (rt ra rc : RegNo) (sc : BitVec 2) (s : State) : Outcome := loadFloat 8 rt (eaIndex s ra rc sc) s
/-- R496. -/
def execLfqx (rt ra rc : RegNo) (sc : BitVec 2) (s : State) : Outcome := loadFloat 16 rt (eaIndex s ra rc sc) s
/-- R498: the address itself. -/
def execLeax (rt ra rc : RegNo) (sc : BitVec 2) (s : State) : Outcome := writeX rt (eaIndex s ra rc sc) s

/-! ## Stores -/

/-- R505. -/
def execSb (rb ra : RegNo) (disp : Imm) (s : State) : Outcome := storeWord 1 (s.x rb) (eaDisp s ra disp) s
/-- R505, indexed. -/
def execSbx (rb ra rc : RegNo) (sc : BitVec 2) (s : State) : Outcome :=
  storeWord 1 (s.x rb) (eaIndex s ra rc sc) s
/-- R507. -/
def execSc (rb ra : RegNo) (disp : Imm) (s : State) : Outcome := storeWord 2 (s.x rb) (eaDisp s ra disp) s
/-- R507, indexed. -/
def execScx (rb ra rc : RegNo) (sc : BitVec 2) (s : State) : Outcome :=
  storeWord 2 (s.x rb) (eaIndex s ra rc sc) s
/-- R508. -/
def execSh (rb ra : RegNo) (disp : Imm) (s : State) : Outcome := storeWord 4 (s.x rb) (eaDisp s ra disp) s
/-- R508, indexed. -/
def execShx (rb ra rc : RegNo) (sc : BitVec 2) (s : State) : Outcome :=
  storeWord 4 (s.x rb) (eaIndex s ra rc sc) s
/-- R509. -/
def execSw (rb ra : RegNo) (disp : Imm) (s : State) : Outcome := storeWord 8 (s.x rb) (eaDisp s ra disp) s
/-- R509, indexed. -/
def execSwx (rb ra rc : RegNo) (sc : BitVec 2) (s : State) : Outcome :=
  storeWord 8 (s.x rb) (eaIndex s ra rc sc) s
/-- R510. -/
def execSfs (rb ra : RegNo) (disp : Imm) (s : State) : Outcome := storeWord 4 (s.f rb) (eaDisp s ra disp) s
/-- R510, indexed. -/
def execSfsx (rb ra rc : RegNo) (sc : BitVec 2) (s : State) : Outcome :=
  storeWord 4 (s.f rb) (eaIndex s ra rc sc) s
/-- R510. -/
def execSfd (rb ra : RegNo) (disp : Imm) (s : State) : Outcome := storeWord 8 (s.f rb) (eaDisp s ra disp) s
/-- R510, indexed. -/
def execSfdx (rb ra rc : RegNo) (sc : BitVec 2) (s : State) : Outcome :=
  storeWord 8 (s.f rb) (eaIndex s ra rc sc) s
/-- R510. -/
def execSfq (rb ra : RegNo) (disp : Imm) (s : State) : Outcome := storeWord 16 (s.f rb) (eaDisp s ra disp) s
/-- R510, indexed. -/
def execSfqx (rb ra rc : RegNo) (sc : BitVec 2) (s : State) : Outcome :=
  storeWord 16 (s.f rb) (eaIndex s ra rc sc) s
/-- R540. -/
def execSwc (rb ra : RegNo) (disp : Imm) (s : State) : Outcome := storeConditional (s.x rb) (eaDisp s ra disp) s
/-- R540, indexed. -/
def execSwcx (rb ra rc : RegNo) (sc : BitVec 2) (s : State) : Outcome :=
  storeConditional (s.x rb) (eaIndex s ra rc sc) s
/-- R515. -/
def execPush (rb rt ra : RegNo) (s : State) : Outcome := pushTo (s.x rb) rt ra s
/-- R516. -/
def execPushc (rt ra : RegNo) (imm : Imm) (s : State) : Outcome := pushTo (immS imm) rt ra s

/-! ## Read-modify-write -/

/-- R520. -/
def execInc (amt ra : RegNo) (imm : Imm) (s : State) : Outcome := incAt (eaDisp s ra imm) amt s
/-- R521. -/
def execIncx (amt ra rc : RegNo) (sc : BitVec 2) (s : State) : Outcome := incAt (eaIndex s ra rc sc) amt s
/-- R545. -/
def execCas (rt ra : RegNo) (disp : BitVec 14) (s : State) : Outcome := compareSwap rt (s.x ra + sext64 disp) s
/-- R545, indexed. -/
def execCasx (rt ra rc : RegNo) (sc : BitVec 2) (s : State) : Outcome := compareSwap rt (eaIndex s ra rc sc) s

/-- R550. -/
def execAmoSwap (rt ra rb : RegNo) (sz : BitVec 3) (_acq _rel : Bool) (s : State) : Outcome :=
  amo amoSwap rt ra (s.x rb) sz s
/-- R550, immediate operand. -/
def execAmoSwapImm (rt ra : RegNo) (imm : BitVec 5) (sz : BitVec 3) (_acq _rel : Bool) (s : State) : Outcome :=
  amo amoSwap rt ra (zext64 imm) sz s
/-- R550. -/
def execAmoAdd (rt ra rb : RegNo) (sz : BitVec 3) (_acq _rel : Bool) (s : State) : Outcome :=
  amo amoAdd rt ra (s.x rb) sz s
/-- R550, immediate operand. -/
def execAmoAddImm (rt ra : RegNo) (imm : BitVec 5) (sz : BitVec 3) (_acq _rel : Bool) (s : State) : Outcome :=
  amo amoAdd rt ra (zext64 imm) sz s
/-- R550. -/
def execAmoAnd (rt ra rb : RegNo) (sz : BitVec 3) (_acq _rel : Bool) (s : State) : Outcome :=
  amo amoAnd rt ra (s.x rb) sz s
/-- R550, immediate operand. -/
def execAmoAndImm (rt ra : RegNo) (imm : BitVec 5) (sz : BitVec 3) (_acq _rel : Bool) (s : State) : Outcome :=
  amo amoAnd rt ra (zext64 imm) sz s
/-- R550. -/
def execAmoOr (rt ra rb : RegNo) (sz : BitVec 3) (_acq _rel : Bool) (s : State) : Outcome :=
  amo amoOr rt ra (s.x rb) sz s
/-- R550, immediate operand. -/
def execAmoOrImm (rt ra : RegNo) (imm : BitVec 5) (sz : BitVec 3) (_acq _rel : Bool) (s : State) : Outcome :=
  amo amoOr rt ra (zext64 imm) sz s
/-- R550. -/
def execAmoXor (rt ra rb : RegNo) (sz : BitVec 3) (_acq _rel : Bool) (s : State) : Outcome :=
  amo amoXor rt ra (s.x rb) sz s
/-- R550, immediate operand. -/
def execAmoXorImm (rt ra : RegNo) (imm : BitVec 5) (sz : BitVec 3) (_acq _rel : Bool) (s : State) : Outcome :=
  amo amoXor rt ra (zext64 imm) sz s
/-- R550. -/
def execAmoShl (rt ra rb : RegNo) (sz : BitVec 3) (_acq _rel : Bool) (s : State) : Outcome :=
  amo amoShl rt ra (s.x rb) sz s
/-- R550, immediate operand. -/
def execAmoShlImm (rt ra : RegNo) (imm : BitVec 5) (sz : BitVec 3) (_acq _rel : Bool) (s : State) : Outcome :=
  amo amoShl rt ra (zext64 imm) sz s
/-- R550. -/
def execAmoShr (rt ra rb : RegNo) (sz : BitVec 3) (_acq _rel : Bool) (s : State) : Outcome :=
  amo amoShr rt ra (s.x rb) sz s
/-- R550, immediate operand. -/
def execAmoShrImm (rt ra : RegNo) (imm : BitVec 5) (sz : BitVec 3) (_acq _rel : Bool) (s : State) : Outcome :=
  amo amoShr rt ra (zext64 imm) sz s
/-- R550. -/
def execAmoMin (rt ra rb : RegNo) (sz : BitVec 3) (_acq _rel : Bool) (s : State) : Outcome :=
  amo amoMin rt ra (s.x rb) sz s
/-- R550, immediate operand. -/
def execAmoMinImm (rt ra : RegNo) (imm : BitVec 5) (sz : BitVec 3) (_acq _rel : Bool) (s : State) : Outcome :=
  amo amoMin rt ra (zext64 imm) sz s
/-- R550. -/
def execAmoMax (rt ra rb : RegNo) (sz : BitVec 3) (_acq _rel : Bool) (s : State) : Outcome :=
  amo amoMax rt ra (s.x rb) sz s
/-- R550, immediate operand. -/
def execAmoMaxImm (rt ra : RegNo) (imm : BitVec 5) (sz : BitVec 3) (_acq _rel : Bool) (s : State) : Outcome :=
  amo amoMax rt ra (zext64 imm) sz s
/-- R550. -/
def execAmoMinu (rt ra rb : RegNo) (sz : BitVec 3) (_acq _rel : Bool) (s : State) : Outcome :=
  amo amoMinu rt ra (s.x rb) sz s
/-- R550, immediate operand. -/
def execAmoMinuImm (rt ra : RegNo) (imm : BitVec 5) (sz : BitVec 3) (_acq _rel : Bool) (s : State) : Outcome :=
  amo amoMinu rt ra (zext64 imm) sz s
/-- R550. -/
def execAmoMaxu (rt ra rb : RegNo) (sz : BitVec 3) (_acq _rel : Bool) (s : State) : Outcome :=
  amo amoMaxu rt ra (s.x rb) sz s
/-- R550, immediate operand. -/
def execAmoMaxuImm (rt ra : RegNo) (imm : BitVec 5) (sz : BitVec 3) (_acq _rel : Bool) (s : State) : Outcome :=
  amo amoMaxu rt ra (zext64 imm) sz s

end Sys2Proof.Machine
end

