-- ==== Sys2Proof/Machine/Flags.lean ====
section
/-! DEFINITION. The arithmetic exception control register: 10_state R47, and when an operation overflows: 40_integer_alu
R305, R307, 41_shift_bitfield R403, 42_muldiv R441, R455. The floating-point status is in Machine/FloatOps.lean. -/

namespace Sys2Proof.Machine

/-- AEC[bit] <- 1 (10_state R47). -/
def noteAec (bit : Nat) (s : State) : State := { s with csr := { s.csr with aec := setBitAt s.csr.aec bit true } }

/-- An arithmetic condition: the occurrence bit is set whether or not the exception is enabled; the exception is raised if
the enable bit is set (40_integer_alu R305, 60_exceptions R989). -/
def checkAec (occurrence enable : Nat) (cause : BitVec 8) (happened : Bool) (s : State) : Res Unit :=
  if happened then
    if bitAt s.csr.aec enable then .exc cause (noteAec occurrence s) else .ok () (noteAec occurrence s)
  else .ok () s

/-- Overflow of a + b (40_integer_alu R305). -/
def addOverflow (a b : Word) : Bool := bitAt a 63 == bitAt b 63 && bitAt (a + b) 63 != bitAt a 63

/-- Overflow of a - b (40_integer_alu R307). -/
def subOverflow (a b : Word) : Bool := bitAt a 63 != bitAt b 63 && bitAt (a - b) 63 != bitAt a 63

/-- Overflow of a << n: the bits shifted out are not all equal to the sign of the result (41_shift_bitfield R403). -/
def aslOverflow (a : Word) (n : Nat) : Bool := (List.range n).any fun k => bitAt a (63 - k) != bitAt (a <<< n) 63

/-- Overflow of a signed product: it does not fit w bits (42_muldiv R441). -/
def mulOverflow (w : Nat) (a b : BitVec w) : Bool :=
  decide (a.toInt * b.toInt < -((2 ^ (w - 1) : Nat) : Int)) || decide (a.toInt * b.toInt > ((2 ^ (w - 1) : Nat) : Int) - 1)

/-- Whether the divisor is zero (42_muldiv R455). -/
def divisorZero (w : Nat) (_ b : BitVec w) : Bool := b == 0

/-- A value with an arithmetic condition checked before it is delivered. -/
def withAec (occurrence enable : Nat) (cause : BitVec 8) (happened : Bool) (v : Word) (s : State) : Res Word :=
  (checkAec occurrence enable cause happened s).andThen fun _ s1 => .ok v s1

end Sys2Proof.Machine
end

