-- ==== Sys2Proof/Machine/IntAlu.lean ====
section
/-! DEFINITION. Integer arithmetic, logic, compare, select and move: 40_integer_alu. -/

namespace Sys2Proof.Machine

/-! ## Operations at every width -/

/-- 0 or 1 (40_integer_alu R301). -/
def flag (w : Nat) (b : Bool) : BitVec w := if b then 1 else 0

def fnAdd : LaneFn2 := fun _ a b => a + b
def fnSub : LaneFn2 := fun _ a b => a - b
def fnAnd : LaneFn2 := fun _ a b => a &&& b
def fnOr : LaneFn2 := fun _ a b => a ||| b
def fnXor : LaneFn2 := fun _ a b => a ^^^ b
def fnNand : LaneFn2 := fun _ a b => ~~~(a &&& b)
def fnNor : LaneFn2 := fun _ a b => ~~~(a ||| b)
def fnXnor : LaneFn2 := fun _ a b => ~~~(a ^^^ b)
def fnSlt : LaneFn2 := fun w a b => flag w (a.slt b)
def fnSltu : LaneFn2 := fun w a b => flag w (a.ult b)
def fnSle : LaneFn2 := fun w a b => flag w (a.sle b)
def fnSleu : LaneFn2 := fun w a b => flag w (a.ule b)
def fnSgt : LaneFn2 := fun w a b => flag w (b.slt a)
def fnSgtu : LaneFn2 := fun w a b => flag w (b.ult a)
def fnSeq : LaneFn2 := fun w a b => flag w (a == b)
def fnMin : LaneFn2 := fun _ a b => if a.slt b then a else b
def fnMax : LaneFn2 := fun _ a b => if b.slt a then a else b
def fnMin3 : LaneFn3 := fun w a b c => fnMin w (fnMin w a b) c
def fnMax3 : LaneFn3 := fun w a b c => fnMax w (fnMax w a b) c
def fnOr3 : LaneFn3 := fun _ a b c => a ||| b ||| c
def fnNot : LaneFn1 := fun w a => flag w (a == 0)
def fnRedor : LaneFn1 := fun w a => flag w (a != 0)
def fnNeg : LaneFn1 := fun _ a => 0 - a
def fnAbs : LaneFn1 := fun _ a => if a.slt 0 then 0 - a else a

/-! ## Two-source functions of the 64-bit registers; RTOP uses the same -/

/-- A function applied lanewise (R301). -/
def sized (sz : BitVec 3) (f : LaneFn2) : AluFn := pureFn (lanes2 sz f)

/-- ADDV (R305). -/
def fnAddv : AluFn := fun a b s => withAec 32 0 causeOFL (addOverflow a b) (a + b) s

/-- SUBV (R307). -/
def fnSubv : AluFn := fun a b s => withAec 33 1 causeOFL (subOverflow a b) (a - b) s

/-- PTRDIF (R345). -/
def fnPtrdif (sc : BitVec 3) : AluFn := pureFn fun a b => (a - b) >>> sc.toNat

/-- Element i, j of a bit matrix (R346). -/
def matBit (a : Word) (i j : Nat) : Bool := bitAt a (63 - (8 * i + j))

/-- Element i, j of a bit matrix product (R346). -/
def matProd (exclusive : Bool) (a b : Word) (i j : Nat) : Bool :=
  (List.range 8).foldl (fun t k =>
    if exclusive then xor t (matBit a i k && matBit b k j) else t || (matBit a i k && matBit b k j)) false

/-- Bit matrix multiply (R346): the word whose element i, j is the product's element, transposed or not. -/
def fnBmm (exclusive transpose : Bool) : AluFn := pureFn fun a b =>
  wordOfBits fun n =>
    let i := (63 - n) / 8
    let j := (63 - n) % 8
    if transpose then matProd exclusive a b j i else matProd exclusive a b i j

/-- The decimal value of a BCD byte, if both nibbles are digits (R361). -/
def bcdValue (a : Word) : Option Nat :=
  let t := (field a 4 4).toNat
  let u := (field a 0 4).toNat
  if t ≤ 9 ∧ u ≤ 9 then some (10 * t + u) else none

/-- The n low decimal digits of a number, a nibble each (R361, R363). -/
def bcdDigits : Nat → Nat → Nat
  | 0, _ => 0
  | n + 1, v => v % 10 + 16 * bcdDigits n (v / 10)

/-- A BCD operation: the low bytes; with a nibble above 9 the result is a free value (R361, 93 U10, log 29). -/
def bcdOp (digits : Nat) (f : Nat → Nat → Nat) : AluFn := fun a b s =>
  match bcdValue a, bcdValue b with
  | some x, some y => .ok (BitVec.ofNat 64 (bcdDigits digits (f x y))) s
  | _, _ => .ok (Config.freeBcd s.freeIdx) s

/-- BCDADD (R361): the hundreds carry is dropped. -/
def fnBcdadd : AluFn := bcdOp 2 fun x y => x + y

/-- BCDSUB (R362): modulo 100. -/
def fnBcdsub : AluFn := bcdOp 2 fun x y => (x + 100 - y) % 100

/-- BCDMUL (R363). -/
def fnBcdmul : AluFn := bcdOp 4 fun x y => x * y

/-! ## Immediate forms: R303, R311, R316, R318, R319, R331, R333 -/

def execAddi (rt ra : RegNo) (imm : Imm) (s : State) : Outcome := aluImm (sized 7 fnAdd) rt ra imm s
def execSlti (rt ra : RegNo) (imm : Imm) (s : State) : Outcome := aluImm (sized 7 fnSlt) rt ra imm s
def execSltui (rt ra : RegNo) (imm : Imm) (s : State) : Outcome := aluImm (sized 7 fnSltu) rt ra imm s
def execAndi (rt ra : RegNo) (imm : Imm) (s : State) : Outcome := aluImm (sized 7 fnAnd) rt ra imm s
def execOri (rt ra : RegNo) (imm : Imm) (s : State) : Outcome := aluImm (sized 7 fnOr) rt ra imm s
def execXori (rt ra : RegNo) (imm : Imm) (s : State) : Outcome := aluImm (sized 7 fnXor) rt ra imm s
def execSeqi (rt ra : RegNo) (imm : Imm) (s : State) : Outcome := aluImm (sized 7 fnSeq) rt ra imm s
def execSgtui (rt ra : RegNo) (imm : Imm) (s : State) : Outcome := aluImm (sized 7 fnSgtu) rt ra imm s
def execSgti (rt ra : RegNo) (imm : Imm) (s : State) : Outcome := aluImm (sized 7 fnSgt) rt ra imm s
/-- LDI (R311). -/
def execLdi (rt : RegNo) (imm : Imm) (s : State) : Outcome := writeX rt (immS imm) s
/-- LUI (R310). -/
def execLui (rt : RegNo) (imm : UpperImm) (s : State) : Outcome := writeX rt (upperS imm <<< 30) s
/-- AUIPC (R309). -/
def execAuipc (rt : RegNo) (imm : UpperImm) (s : State) : Outcome :=
  writeX rt (setField (s.pc + (upperS imm <<< 30)) 0 (0 : BitVec 30)) s

/-! ## Register forms -/

/-- ADDV (R305), both lengths. -/
def execAddv (rt ra rb : RegNo) (_long : Bool) (s : State) : Outcome := aluReg fnAddv rt ra rb s
/-- R302. -/
def execAdd (rt ra rb : RegNo) (sz : BitVec 3) (s : State) : Outcome := aluReg (sized sz fnAdd) rt ra rb s
/-- R306. -/
def execSub (rt ra rb : RegNo) (sz : BitVec 3) (s : State) : Outcome := aluReg (sized sz fnSub) rt ra rb s
/-- R330. -/
def execSlt (rt ra rb : RegNo) (sz : BitVec 3) (s : State) : Outcome := aluReg (sized sz fnSlt) rt ra rb s
/-- R330. -/
def execSltu (rt ra rb : RegNo) (sz : BitVec 3) (s : State) : Outcome := aluReg (sized sz fnSltu) rt ra rb s
/-- R315. -/
def execAnd (rt ra rb : RegNo) (sz : BitVec 3) (s : State) : Outcome := aluReg (sized sz fnAnd) rt ra rb s
/-- R317. -/
def execOr (rt ra rb : RegNo) (sz : BitVec 3) (s : State) : Outcome := aluReg (sized sz fnOr) rt ra rb s
/-- R319. -/
def execXor (rt ra rb : RegNo) (sz : BitVec 3) (s : State) : Outcome := aluReg (sized sz fnXor) rt ra rb s
/-- R333. -/
def execSeq (rt ra rb : RegNo) (sz : BitVec 3) (s : State) : Outcome := aluReg (sized sz fnSeq) rt ra rb s
/-- R321. -/
def execNand (rt ra rb : RegNo) (s : State) : Outcome := aluReg (sized 7 fnNand) rt ra rb s
/-- R321. -/
def execNor (rt ra rb : RegNo) (s : State) : Outcome := aluReg (sized 7 fnNor) rt ra rb s
/-- R321. -/
def execXnor (rt ra rb : RegNo) (s : State) : Outcome := aluReg (sized 7 fnXnor) rt ra rb s
/-- R345. -/
def execPtrdif (rt ra rb : RegNo) (sc : BitVec 3) (s : State) : Outcome := aluReg (fnPtrdif sc) rt ra rb s
/-- R332. -/
def execSle (rt ra rb : RegNo) (sz : BitVec 3) (s : State) : Outcome := aluReg (sized sz fnSle) rt ra rb s
/-- R332. -/
def execSleu (rt ra rb : RegNo) (sz : BitVec 3) (s : State) : Outcome := aluReg (sized sz fnSleu) rt ra rb s
/-- R335. -/
def execMin (rt ra rb : RegNo) (sz : BitVec 3) (s : State) : Outcome := aluReg (sized sz fnMin) rt ra rb s
/-- R335. -/
def execMax (rt ra rb : RegNo) (sz : BitVec 3) (s : State) : Outcome := aluReg (sized sz fnMax) rt ra rb s
/-- R361. -/
def execBcdadd (rt ra rb : RegNo) (s : State) : Outcome := aluReg fnBcdadd rt ra rb s
/-- R362. -/
def execBcdsub (rt ra rb : RegNo) (s : State) : Outcome := aluReg fnBcdsub rt ra rb s
/-- R363. -/
def execBcdmul (rt ra rb : RegNo) (s : State) : Outcome := aluReg fnBcdmul rt ra rb s
/-- R346. -/
def execMor (rt ra rb : RegNo) (s : State) : Outcome := aluReg (fnBmm false false) rt ra rb s
/-- R346. -/
def execMxor (rt ra rb : RegNo) (s : State) : Outcome := aluReg (fnBmm true false) rt ra rb s
/-- R346. -/
def execMort (rt ra rb : RegNo) (s : State) : Outcome := aluReg (fnBmm false true) rt ra rb s
/-- R346. -/
def execMxort (rt ra rb : RegNo) (s : State) : Outcome := aluReg (fnBmm true true) rt ra rb s
/-- SUBV (R307). -/
def execSubv (rt ra rb : RegNo) (s : State) : Outcome := aluReg fnSubv rt ra rb s

/-! ## Three sources -/

/-- ADD3 (R304). -/
def execAdd3 (rt ra rb rc : RegNo) (s : State) : Outcome := writeX rt (s.x ra + s.x rb + s.x rc) s
/-- OR, three operands (R317). -/
def execOr3 (rt ra rb rc : RegNo) (sz : BitVec 3) (s : State) : Outcome :=
  writeX rt (lanes3 sz fnOr3 (s.x ra) (s.x rb) (s.x rc)) s
/-- R336. -/
def execMin3 (rt ra rb rc : RegNo) (sz : BitVec 3) (s : State) : Outcome :=
  writeX rt (lanes3 sz fnMin3 (s.x ra) (s.x rb) (s.x rc)) s
/-- R336. -/
def execMax3 (rt ra rb rc : RegNo) (sz : BitVec 3) (s : State) : Outcome :=
  writeX rt (lanes3 sz fnMax3 (s.x ra) (s.x rb) (s.x rc)) s
/-- R340. -/
def execMaj (rt ra rb rc : RegNo) (s : State) : Outcome :=
  writeX rt ((s.x ra &&& s.x rb) ||| (s.x ra &&& s.x rc) ||| (s.x rb &&& s.x rc)) s
/-- R341. -/
def execMux (rt ra rb rc : RegNo) (s : State) : Outcome :=
  writeX rt ((s.x ra &&& s.x rb) ||| (~~~(s.x ra) &&& s.x rc)) s
/-- R342. -/
def execCmovez (rt ra rb rc : RegNo) (s : State) : Outcome := writeX rt (if s.x ra = 0 then s.x rb else s.x rc) s
/-- R343. -/
def execCmovnz (rt ra rb rc : RegNo) (s : State) : Outcome := writeX rt (if s.x ra ≠ 0 then s.x rb else s.x rc) s
/-- R344. -/
def execCaddnz (rt ra rb rc : RegNo) (s : State) : Outcome :=
  writeX rt (if s.x ra ≠ 0 then s.x rb + s.x rc else s.x rc) s
/-- R343. -/
def execCmovnzi (rt ra rb : RegNo) (imm : BitVec 16) (s : State) : Outcome :=
  writeX rt (if s.x ra ≠ 0 then s.x rb else sext64 imm) s
/-- R344. -/
def execCaddnzi (rt ra rb : RegNo) (imm : BitVec 16) (s : State) : Outcome :=
  writeX rt (if s.x ra ≠ 0 then s.x rb + sext64 imm else sext64 imm) s

/-- The second operation of a double operation (R320); none for a reserved code. -/
def secondOp (op2 : BitVec 6) : Option LaneFn2 :=
  match op2.toNat with
  | 0x00 => some fun _ t _ => t
  | 0x3D => some fun _ t _ => t
  | 0x04 => some fnAdd
  | 0x05 => some fnSub
  | 0x08 => some fnAnd
  | 0x09 => some fnOr
  | 0x0A => some fnXor
  | 0x06 => some fnSlt
  | 0x07 => some fnSltu
  | 0x0B => some fnSeq
  | 0x20 => some fun _ t _ => ~~~t
  | 0x21 => some fun w t _ => fnNot w t
  | _ => none

/-- XOR:[op] (R320). -/
def execXorOp (op2 : BitVec 6) (sz : BitVec 3) (rt ra rb rc : RegNo) (s : State) : Outcome :=
  match secondOp op2 with
  | none => reserved s
  | some f => writeX rt (lanes2 sz f (lanes2 sz fnXor (s.x ra) (s.x rb)) (s.x rc)) s

/-! ## One source -/

/-- A count instruction (R351): Sz3 = 4 to 7 is reserved. -/
def countOp (f : Word → Nat → Nat) (rt ra : RegNo) (sz : BitVec 3) (s : State) : Outcome :=
  if bitAt sz 2 then reserved s else writeX rt (BitVec.ofNat 64 (f (s.x ra) (sizeBits sz))) s

/-- R351. -/
def execCntlz (rt ra : RegNo) (sz : BitVec 3) (s : State) : Outcome := countOp (leading false) rt ra sz s
/-- R351. -/
def execCntlo (rt ra : RegNo) (sz : BitVec 3) (s : State) : Outcome := countOp (leading true) rt ra sz s
/-- R351. -/
def execCntpop (rt ra : RegNo) (sz : BitVec 3) (s : State) : Outcome := countOp ones rt ra sz s
/-- R322. -/
def execCom (rt ra : RegNo) (s : State) : Outcome := writeX rt (~~~(s.x ra)) s
/-- R350. -/
def execAbs (rt ra : RegNo) (sz : BitVec 3) (s : State) : Outcome := writeX rt (lanes1 sz fnAbs (s.x ra)) s
/-- R323. -/
def execNot (rt ra : RegNo) (sz : BitVec 3) (s : State) : Outcome := writeX rt (lanes1 sz fnNot (s.x ra)) s
/-- R324. -/
def execRedor (rt ra : RegNo) (sz : BitVec 3) (s : State) : Outcome := writeX rt (lanes1 sz fnRedor (s.x ra)) s
/-- R308. -/
def execNeg (rt ra : RegNo) (sz : BitVec 3) (s : State) : Outcome := writeX rt (lanes1 sz fnNeg (s.x ra)) s
/-- R352. -/
def execZxh (rt ra : RegNo) (s : State) : Outcome := writeX rt (zext64 (field (s.x ra) 0 32)) s
/-- R352. -/
def execZxc (rt ra : RegNo) (s : State) : Outcome := writeX rt (zext64 (field (s.x ra) 0 16)) s
/-- R352. -/
def execZxb (rt ra : RegNo) (s : State) : Outcome := writeX rt (zext64 (field (s.x ra) 0 8)) s
/-- R352. -/
def execSxh (rt ra : RegNo) (s : State) : Outcome := writeX rt (sext64 (field (s.x ra) 0 32)) s
/-- R352. -/
def execSxc (rt ra : RegNo) (s : State) : Outcome := writeX rt (sext64 (field (s.x ra) 0 16)) s
/-- R352. -/
def execSxb (rt ra : RegNo) (s : State) : Outcome := writeX rt (sext64 (field (s.x ra) 0 8)) s

/-! ## Bounds check, move, no operation -/

/-- CHK (R337). -/
def checkBounds (v lo hi : Word) (s : State) : Outcome :=
  (if lo.sle v && v.slt hi then Res.ok () s else .exc causeCHK s).retire

/-- R337, register form. -/
def execChk (ra rb rc : RegNo) (s : State) : Outcome := checkBounds (s.x ra) (s.x rb) (s.x rc) s
/-- R337, immediate form. -/
def execChki (ra rb : RegNo) (imm : BitVec 14) (s : State) : Outcome := checkBounds (s.x ra) (s.x rb) (sext64 imm) s

/-- The exceptioned register set: entry 0 of RS_STACK (R360, 10_state R61). -/
def State.excSet (s : State) : BitVec 6 := field s.csr.rsStack 0 6

/-- The register sets of MOV: the target's and the source's (R360). -/
def movSets (d : BitVec 3) (rs : BitVec 6) (s : State) : BitVec 6 × BitVec 6 :=
  match d.toNat with
  | 0 => (rs, s.rs)
  | 1 => (s.rs, rs)
  | 2 => (s.excSet, s.rs)
  | 3 => (s.rs, s.excSet)
  | 4 => (s.fps, s.rs)
  | 5 => (s.rs, s.fps)
  | 6 => (s.fps, s.fps)
  | _ => (s.rs, s.rs)

/-- MOV (R360). -/
def execMov (d : BitVec 3) (rs : BitVec 6) (rt ra : RegNo) (s : State) : Outcome :=
  (putReg (movSets d rs s).1 rt (s.reg (movSets d rs s).2 ra) s).retire

/-- NOP (R364). -/
def execNop (_long : Bool) (s : State) : Outcome := .next s.advance

end Sys2Proof.Machine
end

