-- ==== Sys2Proof/Machine/ShiftBits.lean ====
section
/-! DEFINITION. Shifts, rotates and bitfields: 41_shift_bitfield. -/

namespace Sys2Proof.Machine

/-! ## Shifts and rotates: R400 to R412 -/

/-- The shift operations. -/
inductive ShiftKind where
  | shl
  | shr
  | asl
  | asr
  | rol
  | ror
  deriving DecidableEq, Repr

/-- A shift by n, taken modulo the width (R400). -/
def shiftBy (k : ShiftKind) (n : Nat) : LaneFn1 := fun w a =>
  match k with
  | .shl => a <<< (n % w)
  | .shr => a >>> (n % w)
  | .asl => a <<< (n % w)
  | .asr => a.sshiftRight (n % w)
  | .rol => (a <<< (n % w)) ||| (a >>> (w - n % w))
  | .ror => (a >>> (n % w)) ||| (a <<< (w - n % w))

/-- Whether a word-size shift overflows: ASL alone does (R403). -/
def shiftOverflow (k : ShiftKind) (n : Nat) (a : Word) : Bool :=
  match k with
  | .asl => aslOverflow a (n % 64)
  | _ => false

/-- A 64-bit shift, with ASL's overflow (R401 to R406). -/
def shiftWord (k : ShiftKind) (a : Word) (n : Nat) (s : State) : Res Word :=
  withAec 34 2 causeOFL (shiftOverflow k n a) (shiftBy k n 64 a) s

/-- A shift with the count in the second operand (R400). -/
def fnShift (k : ShiftKind) : AluFn := fun a b s => shiftWord k a (field b 0 6).toNat s

/-- A shift by an immediate count (R400). -/
def shiftImm (k : ShiftKind) (rt ra : RegNo) (n : BitVec 6) (s : State) : Outcome :=
  finishX rt (shiftWord k (s.x ra) n.toNat s)

/-- The shift of the 48-bit form: word, sub-word sign-extended, or lanewise (R412). -/
def shiftSized (k : ShiftKind) (sz : BitVec 3) (a : Word) (n : Nat) (s : State) : Res Word :=
  match sz.toNat with
  | 0 => .ok (sext64 (shiftBy k n 8 (field a 0 8))) s
  | 1 => .ok (sext64 (shiftBy k n 16 (field a 0 16))) s
  | 2 => .ok (sext64 (shiftBy k n 32 (field a 0 32))) s
  | 3 => shiftWord k a n s
  | 7 => shiftWord k a n s
  | _ => .ok (lanes1 sz (shiftBy k n) a) s

/-- The count of a 48-bit shift (R412). -/
def shiftCount (s : State) : ShiftCount → Nat
  | .reg rb => (s.x rb).toNat
  | .imm n => n.toNat

/-- A 48-bit shift with its second operation (R412). -/
def shiftOp (k : ShiftKind) (op2 : BitVec 6) (sz : BitVec 3) (n : ShiftCount) (rt ra rc : RegNo) (s : State) :
    Outcome :=
  match secondOp op2 with
  | none => reserved s
  | some f =>
    finishX rt ((shiftSized k sz (s.x ra) (shiftCount s n) s).andThen fun t s1 => .ok (lanes2 sz f t (s.x rc)) s1)

/-- R401, register count. -/
def execShl (rt ra rb : RegNo) (s : State) : Outcome := aluReg (fnShift .shl) rt ra rb s
/-- R401, immediate count. -/
def execShlImm (rt ra : RegNo) (n : BitVec 6) (s : State) : Outcome := shiftImm .shl rt ra n s
/-- R401, R412. -/
def execShlOp (op2 : BitVec 6) (sz : BitVec 3) (n : ShiftCount) (rt ra rc : RegNo) (s : State) : Outcome :=
  shiftOp .shl op2 sz n rt ra rc s
/-- R402, register count. -/
def execShr (rt ra rb : RegNo) (s : State) : Outcome := aluReg (fnShift .shr) rt ra rb s
/-- R402, immediate count. -/
def execShrImm (rt ra : RegNo) (n : BitVec 6) (s : State) : Outcome := shiftImm .shr rt ra n s
/-- R402, R412. -/
def execShrOp (op2 : BitVec 6) (sz : BitVec 3) (n : ShiftCount) (rt ra rc : RegNo) (s : State) : Outcome :=
  shiftOp .shr op2 sz n rt ra rc s
/-- R403, register count. -/
def execAsl (rt ra rb : RegNo) (s : State) : Outcome := aluReg (fnShift .asl) rt ra rb s
/-- R403, immediate count. -/
def execAslImm (rt ra : RegNo) (n : BitVec 6) (s : State) : Outcome := shiftImm .asl rt ra n s
/-- R403, R412. -/
def execAslOp (op2 : BitVec 6) (sz : BitVec 3) (n : ShiftCount) (rt ra rc : RegNo) (s : State) : Outcome :=
  shiftOp .asl op2 sz n rt ra rc s
/-- R404, register count. -/
def execAsr (rt ra rb : RegNo) (s : State) : Outcome := aluReg (fnShift .asr) rt ra rb s
/-- R404, immediate count. -/
def execAsrImm (rt ra : RegNo) (n : BitVec 6) (s : State) : Outcome := shiftImm .asr rt ra n s
/-- R404, R412. -/
def execAsrOp (op2 : BitVec 6) (sz : BitVec 3) (n : ShiftCount) (rt ra rc : RegNo) (s : State) : Outcome :=
  shiftOp .asr op2 sz n rt ra rc s
/-- R405, register count. -/
def execRol (rt ra rb : RegNo) (s : State) : Outcome := aluReg (fnShift .rol) rt ra rb s
/-- R405, immediate count. -/
def execRolImm (rt ra : RegNo) (n : BitVec 6) (s : State) : Outcome := shiftImm .rol rt ra n s
/-- R405, R412. -/
def execRolOp (op2 : BitVec 6) (sz : BitVec 3) (n : ShiftCount) (rt ra rc : RegNo) (s : State) : Outcome :=
  shiftOp .rol op2 sz n rt ra rc s
/-- R406, register count. -/
def execRor (rt ra rb : RegNo) (s : State) : Outcome := aluReg (fnShift .ror) rt ra rb s
/-- R406, immediate count. -/
def execRorImm (rt ra : RegNo) (n : BitVec 6) (s : State) : Outcome := shiftImm .ror rt ra n s
/-- R406, R412. -/
def execRorOp (op2 : BitVec 6) (sz : BitVec 3) (n : ShiftCount) (rt ra rc : RegNo) (s : State) : Outcome :=
  shiftOp .ror op2 sz n rt ra rc s

/-! ## Bitfields: R420 to R428 -/

/-- The operands of a bitfield instruction: data, offset, width (R420). -/
structure BitField where
  data : Word
  offset : Nat
  width : Nat
  deriving DecidableEq, Repr

/-- An offset or width operand: a register's low six bits, or the field itself (R420). -/
def bfOperand (s : State) (isReg : Bool) (v : BitVec 6) : Nat :=
  if isReg then (field (s.x (field v 0 5)) 0 6).toNat else v.toNat

/-- The data operand: a register, or a sixteen-bit immediate (R420). -/
def bfData (s : State) (isReg : Bool) (v : BitVec 16) : Word :=
  if isReg then s.x (field v 0 5) else zext64 v

/-- The operands by Rg3 (R420). -/
def bfOperands (s : State) (rg : BitVec 3) (da : BitVec 16) (bw bo : BitVec 6) : BitField :=
  { data := bfData s (bitAt rg 2) da
    offset := bfOperand s (bitAt rg 0) bo
    width := bfOperand s (bitAt rg 1) bw + s.cfg.bfWidthBias }

/-- n low ones (R420). -/
def lowOnes (n : Nat) : Word := BitVec.ofNat 64 (2 ^ n - 1)

/-- The mask of the field (R420). -/
def bfMask (f : BitField) : Word := lowOnes f.width <<< f.offset

/-- The field inserted into t (R424). -/
def bfInsert (t : Word) (f : BitField) : Word := (t &&& ~~~(bfMask f)) ||| ((f.data <<< f.offset) &&& bfMask f)

/-- The field extracted, zero-extended (R427). -/
def bfExtract (f : BitField) : Word := (f.data >>> f.offset) &&& lowOnes f.width

/-- The width that lies inside the word (R420, R426). -/
def bfInside (f : BitField) : Nat := min f.width (64 - f.offset)

/-- A value of n bits sign-extended; of 0 bits, 0 (R426). -/
def signFrom (n : Nat) (v : Word) : Word :=
  if n = 0 then 0 else (v <<< (64 - n)).sshiftRight (64 - n)

/-- R421. -/
def execBfclr (rt : RegNo) (rg : BitVec 3) (da : BitVec 16) (bw bo : BitVec 6) (s : State) : Outcome :=
  writeX rt ((bfOperands s rg da bw bo).data &&& ~~~(bfMask (bfOperands s rg da bw bo))) s
/-- R422. -/
def execBfchg (rt : RegNo) (rg : BitVec 3) (da : BitVec 16) (bw bo : BitVec 6) (s : State) : Outcome :=
  writeX rt ((bfOperands s rg da bw bo).data ^^^ bfMask (bfOperands s rg da bw bo)) s
/-- R424. -/
def execBfins (rt : RegNo) (rg : BitVec 3) (da : BitVec 16) (bw bo : BitVec 6) (s : State) : Outcome :=
  writeX rt (bfInsert (s.x rt) (bfOperands s rg da bw bo)) s
/-- R425: the data is always the immediate. -/
def execBfinsi (rt : RegNo) (rg : BitVec 3) (da : BitVec 16) (bw bo : BitVec 6) (s : State) : Outcome :=
  writeX rt (bfInsert (s.x rt) { bfOperands s rg da bw bo with data := zext64 da }) s
/-- R426. -/
def execBfext (rt : RegNo) (rg : BitVec 3) (da : BitVec 16) (bw bo : BitVec 6) (s : State) : Outcome :=
  writeX rt (signFrom (bfInside (bfOperands s rg da bw bo)) (bfExtract (bfOperands s rg da bw bo))) s
/-- R427. -/
def execBfextu (rt : RegNo) (rg : BitVec 3) (da : BitVec 16) (bw bo : BitVec 6) (s : State) : Outcome :=
  writeX rt (bfExtract (bfOperands s rg da bw bo)) s
/-- R428: the index in the word of the highest set bit of the field, or -1. -/
def execBfffo (rt : RegNo) (rg : BitVec 3) (da : BitVec 16) (bw bo : BitVec 6) (s : State) : Outcome :=
  writeX rt
    (match highestSet ((bfOperands s rg da bw bo).data &&& bfMask (bfOperands s rg da bw bo)) 64 with
      | some n => BitVec.ofNat 64 n
      | none => BitVec.allOnes 64) s

end Sys2Proof.Machine
end

