-- ==== Sys2Proof/Machine/Csr.lean ====
section
/-! DEFINITION. The control and status register space: 10_state R41 to R69, 45_system R640. -/

namespace Sys2Proof.Machine

/-- CAUSE of an operating level; level 3 has none (10_state R41). -/
def causeOf (c : Csrs) (level : Nat) : BitVec 16 :=
  match level with
  | 0 => c.cause0
  | 1 => c.cause1
  | _ => c.cause2

/-- BADADDR of an operating level. -/
def badaddrOf (c : Csrs) (level : Nat) : Word :=
  match level with
  | 0 => c.badaddr0
  | 1 => c.badaddr1
  | _ => c.badaddr2

/-- CAUSE of a level written. -/
def setCause (c : Csrs) (level : Nat) (v : BitVec 16) : Csrs :=
  match level with
  | 0 => { c with cause0 := v }
  | 1 => { c with cause1 := v }
  | _ => { c with cause2 := v }

/-- BADADDR of a level written. -/
def setBadaddr (c : Csrs) (level : Nat) (v : Word) : Csrs :=
  match level with
  | 0 => { c with badaddr0 := v }
  | 1 => { c with badaddr1 := v }
  | _ => { c with badaddr2 := v }

/-- TIME: seconds above the count of tm_clk cycles (10_state R68). -/
def timeWord (s : State) : Word :=
  (BitVec.ofNat 32 (s.ctr.tmClk / s.cfg.tmClkHz) ++ BitVec.ofNat 32 (s.ctr.tmClk % s.cfg.tmClkHz) : BitVec 64)

/-- The registers of the debug unit, absent without SUPPORT_DBG (10_state R58, R59). -/
def isDebugCsr (n : Nat) : Bool := decide (0x18 ≤ n) && decide (n ≤ 0x1D)

/-- The registers of the machine level with one number each (10_state R42). -/
def csrReadPlain (s : State) (n : Nat) : Option Word :=
  match n with
  | 0x000 => some s.csr.cr0
  | 0x001 => some s.cfg.hartid
  | 0x002 => some s.ctr.tick
  | 0x003 => some s.csr.pcr
  | 0x004 => some s.csr.aec
  | 0x005 => some s.csr.pmr
  | 0x006 => some (zext64 s.csr.cause0)
  | 0x007 => some s.csr.badaddr0
  | 0x008 => some s.csr.pcr2
  | 0x009 => some s.csr.scratch
  | 0x00A => some s.csr.wbrcd
  | 0x00B => some s.csr.badInstr
  | 0x00C => some s.csr.sema
  | 0x00D => some s.csr.vmSema
  | 0x00E => some s.csr.keys
  | 0x010 => some s.csr.tcb
  | 0x011 => some s.csr.wrs
  | 0x014 => some s.csr.fstat
  | 0x01C => some s.csr.dbcr
  | 0x01D => some s.csr.dbsr
  | 0x02C => some s.csr.cas
  | 0x040 => some (zext64 s.csr.imStack)
  | 0x041 => some (zext64 s.csr.olStack)
  | 0x042 => some s.csr.plStack
  | 0x043 => some (zext64 s.csr.rsStack)
  | 0x044 => some s.csr.status
  | 0x045 => some 0
  | 0x046 => some (zext64 s.csr.brsStack)
  | 0x3C0 => some (zext64 s.ctr.iqCtr)
  | 0x3C1 => some (zext64 s.ctr.bmCtr)
  | 0x3C3 => some (zext64 s.ctr.irqCtr)
  | 0x3C4 => some (zext64 s.ctr.brCtr)
  | 0x3E0 => some (timeWord s)
  | 0x3E1 => some s.ctr.instret
  | _ => none

/-- A register of the machine level; none where the number is not defined (10_state R42). -/
def csrReadMachine (s : State) (n : Nat) : Option Word :=
  if isDebugCsr n && !s.cfg.supportDbg then none
  else if 0x018 ≤ n ∧ n < 0x01C then some (bank4Get s.csr.dbad (n - 0x018))
  else if 0x030 ≤ n ∧ n < 0x034 then some (bank4Get s.csr.tvec (n - 0x030))
  else if 0x048 ≤ n ∧ n < 0x050 then some (bank8Get s.csr.epc (n - 0x048))
  else if 0x080 ≤ n ∧ n < 0x0C0 then some (storeGet 0 s.csr.codebuf (n - 0x080))
  else if 0x3F0 ≤ n ∧ n < 0x400 then some (s.cfg.info.getD (n - 0x3F0) 0)
  else csrReadPlain s n

/-- csr_read (45_system R640): levels 1 and 2 have CAUSE and BADADDR alone (10_state R41, log 48). -/
def csrRead (s : State) (level n : Nat) : Option Word :=
  if level = 0 then csrReadMachine s n
  else if level < 3 ∧ n = 0x006 then some (zext64 (causeOf s.csr level))
  else if level < 3 ∧ n = 0x007 then some (badaddrOf s.csr level)
  else none

/-- STATUS as written: Thrd, bits 27:24, reads the running thread, which is 0 (10_state R62, 45_system R640 (h)). -/
def statusWritten (v : Word) : Word := setField v 24 (0 : BitVec 4)

/-- The registers of the machine level with one number each, written; the others ignore it (45_system R640 (c), (d)).
DESIGN CHOICE (log 51): bits that a layout calls unused are stored and read back. -/
def csrWritePlain (c : Csrs) (n : Nat) (v : Word) : Csrs :=
  match n with
  | 0x000 => { c with cr0 := v }
  | 0x003 => { c with pcr := v }
  | 0x004 => { c with aec := v }
  | 0x005 => { c with pmr := v }
  | 0x006 => { c with cause0 := field v 0 16 }
  | 0x007 => { c with badaddr0 := v }
  | 0x008 => { c with pcr2 := v }
  | 0x009 => { c with scratch := v }
  | 0x00A => { c with wbrcd := v }
  | 0x00B => { c with badInstr := v }
  | 0x00C => { c with sema := v }
  | 0x00D => { c with vmSema := v }
  | 0x00E => { c with keys := v }
  | 0x010 => { c with tcb := v }
  | 0x011 => { c with wrs := v }
  | 0x014 => { c with fstat := zext64 (field v 0 44) }
  | 0x01C => { c with dbcr := v }
  | 0x01D => { c with dbsr := v }
  | 0x02C => { c with cas := v }
  | 0x040 => { c with imStack := field v 0 32 }
  | 0x041 => { c with olStack := field v 0 32 }
  | 0x042 => { c with plStack := v }
  | 0x043 => { c with rsStack := field v 0 48 }
  | 0x044 => { c with status := statusWritten v }
  | 0x046 => { c with brsStack := field v 0 48 }
  | _ => c

/-- A register of the machine level written (10_state R42). -/
def csrWriteMachine (c : Csrs) (n : Nat) (v : Word) : Csrs :=
  if 0x018 ≤ n ∧ n < 0x01C then { c with dbad := bank4Set c.dbad (n - 0x018) v }
  else if 0x030 ≤ n ∧ n < 0x034 then { c with tvec := bank4Set c.tvec (n - 0x030) v }
  else if 0x048 ≤ n ∧ n < 0x050 then { c with epc := bank8Set c.epc (n - 0x048) v }
  else if 0x080 ≤ n ∧ n < 0x0C0 then { c with codebuf := storeSet 0 c.codebuf (n - 0x080) v }
  else csrWritePlain c n v

/-- csr_write (45_system R640). -/
def csrWrite (c : Csrs) (level n : Nat) (v : Word) : Csrs :=
  if level = 0 then csrWriteMachine c n v
  else if n = 0x006 then setCause c level (field v 0 16)
  else if n = 0x007 then setBadaddr c level v
  else c

/-- Whether a write to CR0 turns on a mode the spec says to refuse (10_state R24, R38). -/
def csrRefusal (cfg : Config) (level n : Nat) (v : Word) : Option Refusal :=
  if level = 0 ∧ n = 0 then
    if bitAt v 36 then some .predicatedExecution
    else if bitAt v 16 && cfg.supportSmt then some .smtMode
    else none
  else none

/-- Whether a register supports bit set and clear: CR0, SEMA, STATUS (10_state R41, 93 U5). -/
def csrBitCapable (level n : Nat) : Bool := level == 0 && (n == 0x000 || n == 0x00C || n == 0x044)

/-- The access of a CSR instruction: x[Rt] receives the old value, in the register set in force before (45_system R640). -/
def csrAccess (level n : Nat) (rt : RegNo) (old v : Word) (s : State) : Outcome :=
  match csrRefusal s.cfg level n v with
  | some r => .refused r
  | none =>
    ((guardX rt old s).andThen fun _ s1 =>
      .ok () ({ s1 with csr := csrWrite s1.csr level n v }.setReg s.rs rt old)).retire

/-- The checks of a CSR instruction before its access: a register of that number, one that supports bit set and clear where
the instruction needs it, then the level. A reserved encoding comes before a privilege violation (60_exceptions R945; the
operation of 45_system R640 prints them the other way: log 49). -/
def csrChecked (needsBits : Bool) (ol : BitVec 2) (regno : BitVec 10) (s : State) (access : Word → Outcome) : Outcome :=
  match csrRead s ol.toNat regno.toNat with
  | none => reserved s
  | some old =>
    if needsBits && !csrBitCapable ol.toNat regno.toNat then reserved s
    else if ol.ult s.ol then .next (raise causePRIV s)
    else access old

/-- A CSR instruction that writes: the checks, then the access; f gives what is written from the old value
(45_system R640). -/
def csrInstr (needsBits : Bool) (f : Word → Word) (ol : BitVec 2) (regno : BitVec 10) (rt : RegNo) (s : State) :
    Outcome :=
  csrChecked needsBits ol regno s fun old => csrAccess ol.toNat regno.toNat rt old (f old) s

/-- CSRRD: no update. -/
def execCsrrd (ol : BitVec 2) (regno : BitVec 10) (rt _ra : RegNo) (s : State) : Outcome :=
  csrChecked false ol regno s fun old => writeX rt old s
/-- CSRRW. -/
def execCsrrw (ol : BitVec 2) (regno : BitVec 10) (rt ra : RegNo) (s : State) : Outcome :=
  csrInstr false (fun _ => s.x ra) ol regno rt s
/-- CSRRS. -/
def execCsrrs (ol : BitVec 2) (regno : BitVec 10) (rt ra : RegNo) (s : State) : Outcome :=
  csrInstr true (fun old => old ||| s.x ra) ol regno rt s
/-- CSRRC. -/
def execCsrrc (ol : BitVec 2) (regno : BitVec 10) (rt ra : RegNo) (s : State) : Outcome :=
  csrInstr true (fun old => old &&& ~~~(s.x ra)) ol regno rt s

end Sys2Proof.Machine
end

