-- ==== Sys2Proof/Machine/System.lean ====
section
/-! DEFINITION. System instructions, exception return, TLB and cache commands, barriers: 45_system. -/

namespace Sys2Proof.Machine

/-! ## Break and poll: R631 to R633 -/

/-- A trap that is the instruction's own effect; BAD_INSTR is written (60_exceptions R962). -/
def enterTrap (cause : BitVec 8) (user : BitVec 6) (il : BitVec 4) (ret : Word) (s : State) : State :=
  { trapEnter cause user il ret (noteInstr s) with event := .entered }

/-- BRK: skip counts 16-bit parcels (R631). -/
def breakTo (cause : BitVec 8) (user : BitVec 6) (skip : BitVec 5) (il : BitVec 4) (s : State) : Outcome :=
  .next (enterTrap cause user il (pcPlus s.pc (2 * skip.toNat)) s)

/-- Whether PFI finds a request (R633, PFI_HONOURS_IM). -/
def pollHit (s : State) : Bool := if s.cfg.pfiHonoursIm then s.im.ult s.irqLevel else s.irqLevel != 0

/-- PFI (R633). -/
def poll (s : State) : Outcome :=
  if pollHit s then .next (enterTrap (1#1 ++ field s.irqCause 0 7 : BitVec 8) 0 s.irqLevel s.nextPc s)
  else .next s.advance

/-- BRK, immediate form: cause 255 is PFI (R631). -/
def execBrk (user : BitVec 6) (skip : BitVec 5) (lvl : BitVec 4) (cause : BitVec 8) (_long : Bool) (s : State) :
    Outcome :=
  if cause = 255 then poll s else breakTo cause user skip lvl s
/-- BRK, register form (R631). -/
def execBrkReg (user : BitVec 6) (skip : BitVec 5) (lvl : BitVec 4) (ra : RegNo) (_long : Bool) (s : State) : Outcome :=
  breakTo (field (s.x ra) 0 8) user skip lvl s
/-- R633. -/
def execPfi (_user : BitVec 6) (s : State) : Outcome := poll s

/-! ## Interrupt mask, wait: R634 to R636 -/

/-- STATUS.IM <- v. -/
def State.setIm (s : State) (v : BitVec 4) : State := s.withStatus (setField s.csr.status 0 v)

/-- R634: x[Rt] receives the old mask. -/
def execSei (rt ra : RegNo) (m : BitVec 4) (s : State) : Outcome :=
  ((putX rt (zext64 s.im) s).andThen fun _ s1 => .ok () (s1.setIm (m ||| field (s.x ra) 0 4))).retire
/-- R635. -/
def execCli (s : State) : Outcome := .next (s.setIm 0).advance
/-- Whether the signal a WAIT names is true, or the time-out it gives has elapsed (R636): both are the environment's
(log 16). -/
def waitOver (ra rb : RegNo) (imm : BitVec 5) (s : State) : Bool :=
  !s.waitLow.contains (zext64 imm ||| s.x ra) || (rb != 0 && !s.waitRunning.contains (s.x rb))

/-- R636: a stalled WAIT stays at its own address. -/
def execWait (ra rb : RegNo) (imm : BitVec 5) (s : State) : Outcome :=
  if waitOver ra rb imm s then .next s.advance else .next { s with event := .stalled }

/-! ## REX and RTI: R650, R655 -/

/-- rex_target_enabled (R650). -/
def rexEnabled (s : State) (tgt : BitVec 2) : Bool := if tgt = 1 then s.cfg.rexEnabled1 else s.cfg.rexEnabled2

/-- The privilege level REX sets (R650). -/
def rexPl (s : State) (pl : BitVec 8) (tgt : BitVec 2) (ra : RegNo) : BitVec 8 :=
  if tgt = 1 then 1 else pl ||| field (s.x ra) 0 8

/-- Whether REX redirects (R650). -/
def rexOk (s : State) (pl : BitVec 8) (tgt : BitVec 2) (ra : RegNo) : Bool :=
  (tgt == 1 || tgt == 2) && s.ol.ult tgt && decide (tgt.toNat ≤ (rexPl s pl tgt ra).toNat) && rexEnabled s tgt

/-- CAUSE and BADADDR of the current level copied to a target level (R650). -/
def copyCause (c : Csrs) (src dst : Nat) : Csrs := setBadaddr (setCause c dst (causeOf c src)) dst (badaddrOf c src)

/-- REX (R650). -/
def execRex (im : BitVec 3) (pl : BitVec 8) (tgt : BitVec 2) (ra : RegNo) (s : State) : Outcome :=
  let s1 := s.setIm (im.setWidth 4)
  if rexOk s pl tgt ra then
    let c := copyCause s1.csr s.ol.toNat tgt.toNat
    .next { s1 with
      csr := { c with status := setField (setField c.status 4 tgt) 6 (rexPl s pl tgt ra) }
      pc := bank4Get c.tvec tgt.toNat }
  else .next s1.advance

/-- The semaphore bits RTI clears, and the reservation (R655). -/
def rtiClear (b : BitVec 6) (s : State) : State :=
  { s with
    resvValid := false
    csr := { s.csr with sema := setBitAt (setBitAt s.csr.sema b.toNat false) 0 false } }

/-- RTI (R655). -/
def execRti (sema : BitVec 6) (ra : RegNo) (s : State) : Outcome :=
  if s.ol = 3 then .next (raise causePRIV s)
  else .next (trapReturn (rtiClear (sema ||| field (s.x ra) 0 6) s))

/-! ## TLB: R660 -/

/-- A TLB register (R660 (e)). -/
def tlbRegGet (t : TlbState) (n : BitVec 4) : Word :=
  match n.toNat with
  | 0 => t.wired
  | 1 => t.index
  | 2 => zext64 t.random
  | 3 => t.pageSize
  | 4 => t.virtPage
  | 5 => t.physPage
  | 7 => t.asid
  | 8 => t.ma
  | 10 => t.pta
  | 11 => t.ptc
  | 12 => zext64 t.afc
  | _ => 0

/-- A TLB register written (R660 (e), (g)). -/
def tlbRegSet (t : TlbState) (n : BitVec 4) (v : Word) : TlbState :=
  match n.toNat with
  | 0 => { t with wired := v }
  | 1 => { t with index := v }
  | 2 => { t with random := field v 0 4 }
  | 3 => { t with pageSize := v }
  | 4 => { t with virtPage := v }
  | 5 => { t with physPage := v }
  | 7 => { t with asid := v }
  | 8 => { t with ma := v }
  | 10 => { t with pta := v }
  | 11 => { t with ptc := v }
  | 12 => { t with afc := field v 0 24 }
  | _ => t

/-- The entry Index names. -/
def tlbIndex (t : TlbState) : Nat := (field t.index 0 8).toNat

/-- The entry that Random and the set of VirtPage name (R660 (b)). -/
def tlbRandomIndex (t : TlbState) : Nat := (t.random ++ field t.virtPage 0 4 : BitVec 8).toNat

/-- An entry from the holding registers; its reference count stays (R660). -/
def tlbFill (t : TlbState) (n : Nat) : TlbState := tlbSet t n { vpn := t.virtPage, ppn := t.physPage, attr := t.asid }

/-- The entries a probe finds (R660 (c)). -/
def tlbProbeHits (t : TlbState) : List Nat :=
  (List.range 256).filter fun n =>
    tlbValid (tlbGet t n) && (tlbGet t n).vpn == t.virtPage && tlbAsidOk (tlbGet t n) (field t.asid 16 8)

/-- TLBPB: Index is the entry found, or bit 63 (R660 (c), 93 G3). -/
def tlbProbe (idx : Nat) (t : TlbState) : TlbState :=
  match tlbPick idx (tlbProbeHits t) with
  | some n => { t with index := BitVec.ofNat 64 n }
  | none => { t with index := 0x8000000000000000 }

/-- TLBRD: the holding registers from the entry Index names (R660). -/
def tlbRead (t : TlbState) : TlbState :=
  let e := tlbGet t (tlbIndex t)
  { t with virtPage := e.vpn, physPage := e.ppn, asid := e.attr }

/-- An entry with R, W and X cleared (R660). -/
def tlbCleared (e : TlbEntry) : TlbEntry := { e with attr := setField e.attr 0 (0 : BitVec 3) }

/-- Every listed entry with R, W and X cleared; one that is then all zero is not listed. -/
def clearEntries : Store TlbEntry → Store TlbEntry
  | [] => []
  | (k, e) :: t => if tlbCleared e = tlbEntryZero then clearEntries t else (k, tlbCleared e) :: clearEntries t

/-- What a TLB command does to the TLB; the no-operation, the register read and the age read do nothing to it, and 12 to
15 do not come here (R660). -/
def tlbCommand (cmd tn : BitVec 4) (v : Word) (idx : Nat) (t : TlbState) : TlbState :=
  match cmd.toNat with
  | 1 => tlbProbe idx t
  | 2 => tlbRead t
  | 3 => tlbFill t (tlbRandomIndex t)
  | 4 => tlbFill t (tlbIndex t)
  | 5 => { t with enabled := true }
  | 6 => { t with enabled := false }
  | 8 => tlbRegSet t tn v
  | 9 => { t with entries := clearEntries t.entries }
  | 11 => tlbSetCount t (tlbIndex t) (field v 0 32)
  | _ => t

/-- TLB (R660). A reserved command comes before a privilege violation (60_exceptions R945; the operation of R660 prints
them the other way: log 49). -/
def execTlb (cmd tn : BitVec 4) (rt ra : RegNo) (s : State) : Outcome :=
  if 12 ≤ cmd.toNat then reserved s
  else if s.ol ≠ 0 then .next (raise causePRIV s)
  else if cmd = 7 then writeX rt (tlbRegGet s.tlb tn) s
  else if cmd = 10 then writeX rt (zext64 (tlbCount s.tlb (tlbIndex s.tlb))) s
  else .next { s with tlb := tlbCommand cmd tn (s.x ra) s.freeIdx s.tlb }.advance

/-! ## Cache commands: R662 -/

/-- A cache command; nothing is accessed, so the address does not matter (R662). -/
def cacheCommand (cmd : BitVec 5) (s : State) : Outcome :=
  match cmd.toNat with
  | 0x02 => .next s.advance
  | 0x03 => .next { s with icacheStale := [] }.advance
  | 0x10 => .next { s with dcacheEnabled := false }.advance
  | 0x11 => .next { s with dcacheEnabled := true }.advance
  | 0x12 => .next s.advance
  | 0x13 => .next s.advance
  | _ => reserved s

/-- R662. -/
def execCache (cmd _ra : RegNo) (_imm : Imm) (s : State) : Outcome := cacheCommand cmd s
/-- R662, indexed. -/
def execCachex (cmd _ra _rc : RegNo) (_sc : BitVec 2) (s : State) : Outcome := cacheCommand cmd s

/-! ## The single-operand system group: R668 to R682 -/

/-- R668. -/
def execSetwb (_rn : RegNo) (s : State) : Outcome :=
  .next { s with csr := { s.csr with wbrcd := setBitAt s.csr.wbrcd s.rs.toNat true } }.advance
/-- R670: the buffered word is handed to the step, which runs it in the place of the EXEC (log 50). -/
def execExecBuf (n : BitVec 6) (s : State) : Outcome :=
  .next { s with pending := some (storeGet 0 s.csr.codebuf n.toNat) }
/-- The key of a tag-enable bit: the map PCR.AKey, page x[Ra][9:0] (R672). -/
def tagKey (s : State) (ra : RegNo) : Nat := (field s.csr.pcr 8 6).toNat * 1024 + (field (s.x ra) 0 10).toNat

/-- R672. -/
def execWtme (ra rb : RegNo) (s : State) : Outcome :=
  .next { s with tagEnable := storeSet false s.tagEnable (tagKey s ra) (bitAt (s.x rb) 0) }.advance
/-- R675. -/
def execChainoff (s : State) : Outcome := .next { s with vchain := false }.advance
/-- R675. -/
def execChainon (s : State) : Outcome := .next { s with vchain := true }.advance
/-- R680. -/
def execMemdb (s : State) : Outcome := .next s.advance
/-- R681. -/
def execMemsb (s : State) : Outcome := .next s.advance
/-- R682. -/
def execSync (s : State) : Outcome := .next s.advance

end Sys2Proof.Machine
end

