-- ==== Sys2Proof/Machine/Compressed.lean ====
section
/-! DEFINITION. The 16-bit instructions: 46_compressed. -/

namespace Sys2Proof.Machine

/-- CREG_MAP (R701). -/
def creg (s : State) (q : BitVec 3) : RegNo := s.cfg.cregMap.getD q.toNat 0

/-- A compressed load or store displacement, already scaled, by CDISP_SIGNED (R702). -/
def cDisp {n : Nat} (s : State) (d : BitVec n) : Word := if s.cfg.cdispSigned then sext64 d else zext64 d

/-- The target of BRA, BEQZ and BNEZ: bits 31:0 of pc plus the displacement in bytes (R724). -/
def shortTarget {n : Nat} (pc : Word) (d : BitVec n) : Word := setField pc 0 (field pc 0 32 + d.signExtend 32)

/-- A compressed branch: BD on a taken branch to itself (R724, R725). -/
def shortBranch {n : Nat} (taken : Bool) (d : BitVec n) (s : State) : Outcome :=
  (if taken then (if d = 0 then Res.exc causeBD s else .ok (shortTarget s.pc d) s) else .ok s.nextPc s).retireTo

/-- R705. -/
def execNop16 (s : State) : Outcome := .next s.advance
/-- R706. -/
def execAddisp (amt : BitVec 5) (s : State) : Outcome := writeX 31 (s.x 31 + sext64 (amt ++ (0 : BitVec 3))) s
/-- R707. -/
def execAddi16 (rt : RegNo) (amt : BitVec 5) (s : State) : Outcome := writeX rt (s.x rt + sext64 amt) s
/-- R708. -/
def execLdi16 (rt : RegNo) (amt : BitVec 5) (s : State) : Outcome := writeX rt (sext64 amt) s
/-- R720: cause 32 + F5. -/
def execBrk16 (f5 : BitVec 5) (s : State) : Outcome := breakTo (32 + f5.setWidth 8) 0 1 0 s
/-- R721. -/
def execPfi16 (s : State) : Outcome := poll s
/-- R709. -/
def execAndi16 (rt : RegNo) (amt : BitVec 5) (s : State) : Outcome := writeX rt (s.x rt &&& sext64 amt) s
/-- R710. -/
def execRet16 (amt : BitVec 5) (s : State) : Outcome := linkTo 31 (s.x 31 + zext64 amt * 8) (s.x 29) s
/-- R711. -/
def execShli16 (rt : RegNo) (amt : BitVec 5) (s : State) : Outcome := writeX rt (shiftBy .shl amt.toNat 64 (s.x rt)) s
/-- R712. -/
def execShri16 (q : BitVec 3) (amt : BitVec 5) (s : State) : Outcome :=
  writeX (creg s q) (shiftBy .shr amt.toNat 64 (s.x (creg s q))) s
/-- R713. -/
def execAsri16 (q : BitVec 3) (amt : BitVec 5) (s : State) : Outcome :=
  writeX (creg s q) (shiftBy .asr amt.toNat 64 (s.x (creg s q))) s
/-- R714. -/
def execOri16 (q : BitVec 3) (amt : BitVec 5) (s : State) : Outcome :=
  writeX (creg s q) (s.x (creg s q) ||| sext64 amt) s
/-- R715. -/
def execSub16 (q r : BitVec 3) (s : State) : Outcome := aluReg (sized 7 fnSub) (creg s q) (creg s q) (creg s r) s
/-- R716. -/
def execAnd16 (q r : BitVec 3) (s : State) : Outcome := aluReg (sized 7 fnAnd) (creg s q) (creg s q) (creg s r) s
/-- R717. -/
def execOr16 (q r : BitVec 3) (s : State) : Outcome := aluReg (sized 7 fnOr) (creg s q) (creg s q) (creg s r) s
/-- R718. -/
def execXor16 (q r : BitVec 3) (s : State) : Outcome := aluReg (sized 7 fnXor) (creg s q) (creg s q) (creg s r) s
/-- R722. -/
def execCall16 (addr : BitVec 10) (s : State) : Outcome := linkTo 29 s.nextPc (setField s.pc 0 addr) s
/-- R724. -/
def execBra16 (disp : BitVec 10) (s : State) : Outcome := shortBranch true disp s
/-- R725. -/
def execBeqz16 (ra : RegNo) (disp : BitVec 7) (s : State) : Outcome := shortBranch (s.x ra == 0) disp s
/-- R726. -/
def execBnez16 (ra : RegNo) (disp : BitVec 7) (s : State) : Outcome := shortBranch (s.x ra != 0) disp s
/-- R730. -/
def execMov16 (ra : RegNo) (rt : BitVec 5) (s : State) : Outcome := writeX rt (s.x ra) s
/-- R731. -/
def execAdd16 (rt : RegNo) (rb : BitVec 5) (s : State) : Outcome := aluReg (sized 7 fnAdd) rt rt rb s
/-- R732. -/
def execJalr16 (ra : RegNo) (rt : BitVec 5) (s : State) : Outcome := linkTo rt s.nextPc (s.x ra) s
/-- R733. -/
def execPush16 (rb : RegNo) (s : State) : Outcome := pushTo (s.x rb) 31 31 s

/-- base + the displacement of a half-word or word access with a five-bit field (R735, R736). -/
def eaHalf (s : State) (base : RegNo) (d : BitVec 5) : Word := s.x base + cDisp s (d ++ (0 : BitVec 2))
def eaWord (s : State) (base : RegNo) (d : BitVec 5) : Word := s.x base + cDisp s (d ++ (0 : BitVec 3))
/-- The same with the four-bit field of the primed forms (R743, R744). -/
def eaHalf4 (s : State) (base : RegNo) (d : BitVec 4) : Word := s.x base + cDisp s (d ++ (0 : BitVec 2))
def eaWord4 (s : State) (base : RegNo) (d : BitVec 4) : Word := s.x base + cDisp s (d ++ (0 : BitVec 3))

/-- R735. -/
def execLhSp (rt : RegNo) (d : BitVec 5) (s : State) : Outcome := loadSigned 4 rt (eaHalf s 31 d) s
/-- R736. -/
def execLwSp (rt : RegNo) (d : BitVec 5) (s : State) : Outcome := loadZero 8 rt (eaWord s 31 d) s
/-- R737. -/
def execLhFp (rt : RegNo) (d : BitVec 5) (s : State) : Outcome := loadSigned 4 rt (eaHalf s 30 d) s
/-- R738. -/
def execLwFp (rt : RegNo) (d : BitVec 5) (s : State) : Outcome := loadZero 8 rt (eaWord s 30 d) s
/-- R739. -/
def execShSp (rb : RegNo) (d : BitVec 5) (s : State) : Outcome := storeWord 4 (s.x rb) (eaHalf s 31 d) s
/-- R740. -/
def execSwSp (rb : RegNo) (d : BitVec 5) (s : State) : Outcome := storeWord 8 (s.x rb) (eaWord s 31 d) s
/-- R741. -/
def execShFp (rb : RegNo) (d : BitVec 5) (s : State) : Outcome := storeWord 4 (s.x rb) (eaHalf s 30 d) s
/-- R742. -/
def execSwFp (rb : RegNo) (d : BitVec 5) (s : State) : Outcome := storeWord 8 (s.x rb) (eaWord s 30 d) s
/-- R743. -/
def execLhPr (r q : BitVec 3) (d : BitVec 4) (s : State) : Outcome :=
  loadSigned 4 (creg s r) (eaHalf4 s (creg s q) d) s
/-- R744. -/
def execLwPr (r q : BitVec 3) (d : BitVec 4) (s : State) : Outcome :=
  loadZero 8 (creg s r) (eaWord4 s (creg s q) d) s
/-- R745. -/
def execShPr (r q : BitVec 3) (d : BitVec 4) (s : State) : Outcome :=
  storeWord 4 (s.x (creg s r)) (eaHalf4 s (creg s q) d) s
/-- R746. -/
def execSwPr (r q : BitVec 3) (d : BitVec 4) (s : State) : Outcome :=
  storeWord 8 (s.x (creg s r)) (eaWord4 s (creg s q) d) s

end Sys2Proof.Machine
end

