-- ==== Sys2Proof/Machine/MulDiv.lean ====
section
/-! DEFINITION. Multiply, divide and modulus: 42_muldiv. -/

namespace Sys2Proof.Machine

/-- 2^n as an integer. -/
def pow2i (n : Nat) : Int := ((2 ^ n : Nat) : Int)

/-! ## Multiplication: R441 to R451 -/

def fnMulLo : LaneFn2 := fun w a b => BitVec.ofInt w (a.toInt * b.toInt)
def fnMuluLo : LaneFn2 := fun w a b => BitVec.ofNat w (a.toNat * b.toNat)
def fnMulsuLo : LaneFn2 := fun w a b => BitVec.ofInt w (a.toInt * (b.toNat : Int))
def fnMulHi : LaneFn2 := fun w a b => BitVec.ofInt w (a.toInt * b.toInt / pow2i w)
def fnMuluHi : LaneFn2 := fun w a b => BitVec.ofNat w (a.toNat * b.toNat / 2 ^ w)
def fnMulsuHi : LaneFn2 := fun w a b => BitVec.ofInt w (a.toInt * (b.toNat : Int) / pow2i w)
def fnFxmul : LaneFn2 := fun w a b => BitVec.ofInt w (a.toInt * b.toInt / pow2i (w / 2))

/-- MUL (R441). -/
def fnMul (sz : BitVec 3) : AluFn := fun a b s =>
  withAec 35 3 causeOFL (anyLane sz mulOverflow a b) (lanes2 sz fnMulLo a b) s

/-- MULF (R449). -/
def fnMulf : AluFn := pureFn fun a b => BitVec.ofNat 64 ((field a 0 24).toNat * (field b 0 16).toNat)

/-! ## Division: R455 to R464 -/

/-- The quotient by zero (R455, 93 U12, log 30). -/
def quotientByZero (d : DivZero) (w : Nat) (a : BitVec w) : BitVec w :=
  match d with
  | .onesDividend => BitVec.allOnes w
  | .free => BitVec.ofNat w (Config.freeQuotient w a.toNat)

/-- The remainder by zero (R455, 93 U12, log 30). -/
def remainderByZero (d : DivZero) (w : Nat) (a : BitVec w) : BitVec w :=
  match d with
  | .onesDividend => a
  | .free => BitVec.ofNat w (Config.freeRemainder w a.toNat)

def fnDivS (d : DivZero) : LaneFn2 := fun w a b =>
  if b = 0 then quotientByZero d w a else BitVec.ofInt w (a.toInt.tdiv b.toInt)
def fnDivU (d : DivZero) : LaneFn2 := fun w a b =>
  if b = 0 then quotientByZero d w a else BitVec.ofNat w (a.toNat / b.toNat)
def fnDivSU (d : DivZero) : LaneFn2 := fun w a b =>
  if b = 0 then quotientByZero d w a else BitVec.ofInt w (a.toInt.tdiv (b.toNat : Int))
def fnModS (d : DivZero) : LaneFn2 := fun w a b =>
  if b = 0 then remainderByZero d w a else BitVec.ofInt w (a.toInt.tmod b.toInt)
def fnModU (d : DivZero) : LaneFn2 := fun w a b =>
  if b = 0 then remainderByZero d w a else BitVec.ofNat w (a.toNat % b.toNat)
def fnModSU (d : DivZero) : LaneFn2 := fun w a b =>
  if b = 0 then remainderByZero d w a else BitVec.ofInt w (a.toInt.tmod (b.toNat : Int))

/-- A division that notes and may raise a zero divisor (R455). -/
def divChecked (sz : BitVec 3) (f : DivZero → LaneFn2) : AluFn := fun a b s =>
  withAec 36 4 causeDBZ (anyLane sz divisorZero a b) (lanes2 sz (f s.cfg.divByZero) a b) s

/-- A division that never raises (R455: DIVU and MODU). -/
def divQuiet (sz : BitVec 3) (f : DivZero → LaneFn2) : AluFn := fun a b s =>
  .ok (lanes2 sz (f s.cfg.divByZero) a b) s

/-! ## Immediate forms -/

/-- R450. -/
def execMulfi (rt ra : RegNo) (imm : Imm) (s : State) : Outcome := aluImm fnMulf rt ra imm s
/-- R462. -/
def execModi (rt ra : RegNo) (imm : Imm) (s : State) : Outcome := aluImm (divChecked 7 fnModS) rt ra imm s
/-- R444. -/
def execMului (rt ra : RegNo) (imm : Imm) (s : State) : Outcome := aluImm (sized 7 fnMuluLo) rt ra imm s
/-- R442. -/
def execMuli (rt ra : RegNo) (imm : Imm) (s : State) : Outcome := aluImm (fnMul 7) rt ra imm s
/-- R459. -/
def execDivui (rt ra : RegNo) (imm : Imm) (s : State) : Outcome := aluImm (divQuiet 7 fnDivU) rt ra imm s
/-- R457. -/
def execDivi (rt ra : RegNo) (imm : Imm) (s : State) : Outcome := aluImm (divChecked 7 fnDivS) rt ra imm s

/-! ## Register forms -/

/-- R463. -/
def execModu (rt ra rb : RegNo) (sz : BitVec 3) (s : State) : Outcome := aluReg (divQuiet sz fnModU) rt ra rb s
/-- R464. -/
def execModsu (rt ra rb : RegNo) (sz : BitVec 3) (s : State) : Outcome := aluReg (divChecked sz fnModSU) rt ra rb s
/-- R461. -/
def execMod (rt ra rb : RegNo) (sz : BitVec 3) (s : State) : Outcome := aluReg (divChecked sz fnModS) rt ra rb s
/-- R447. -/
def execMuluh (rt ra rb : RegNo) (sz : BitVec 3) (s : State) : Outcome := aluReg (sized sz fnMuluHi) rt ra rb s
/-- R448. -/
def execMulsuh (rt ra rb : RegNo) (sz : BitVec 3) (s : State) : Outcome := aluReg (sized sz fnMulsuHi) rt ra rb s
/-- R446. -/
def execMulh (rt ra rb : RegNo) (sz : BitVec 3) (s : State) : Outcome := aluReg (sized sz fnMulHi) rt ra rb s
/-- R449: Sz3 is ignored. -/
def execMulf (rt ra rb : RegNo) (_sz : BitVec 3) (s : State) : Outcome := aluReg fnMulf rt ra rb s
/-- R443. -/
def execMulu (rt ra rb : RegNo) (sz : BitVec 3) (s : State) : Outcome := aluReg (sized sz fnMuluLo) rt ra rb s
/-- R445. -/
def execMulsu (rt ra rb : RegNo) (sz : BitVec 3) (s : State) : Outcome := aluReg (sized sz fnMulsuLo) rt ra rb s
/-- R441. -/
def execMul (rt ra rb : RegNo) (sz : BitVec 3) (s : State) : Outcome := aluReg (fnMul sz) rt ra rb s
/-- R451. -/
def execFxmul (rt ra rb : RegNo) (sz : BitVec 3) (s : State) : Outcome := aluReg (sized sz fnFxmul) rt ra rb s
/-- R458. -/
def execDivu (rt ra rb : RegNo) (sz : BitVec 3) (s : State) : Outcome := aluReg (divQuiet sz fnDivU) rt ra rb s
/-- R460. -/
def execDivsu (rt ra rb : RegNo) (sz : BitVec 3) (s : State) : Outcome := aluReg (divChecked sz fnDivSU) rt ra rb s
/-- R456. -/
def execDiv (rt ra rb : RegNo) (sz : BitVec 3) (s : State) : Outcome := aluReg (divChecked sz fnDivS) rt ra rb s

end Sys2Proof.Machine
end

