-- ==== Sys2Proof/Machine/Rtop.lean ====
section
/-! DEFINITION. RTOP, the operation chosen at run time: 40_integer_alu R365. The set of instructions it takes, and which of
them have a size: log 32. -/

namespace Sys2Proof.Machine

/-- The function of a BCD word (30_encoding R254). -/
def rtopBcd (f3 : Nat) : Option AluFn :=
  match f3 with
  | 0 => some fnBcdadd
  | 1 => some fnBcdsub
  | 2 => some fnBcdmul
  | _ => none

/-- The function of a register-count shift (30_encoding R248). -/
def rtopShift (f3 : Nat) : Option AluFn :=
  match f3 with
  | 0 => some (fnShift .shl)
  | 1 => some (fnShift .shr)
  | 2 => some (fnShift .asl)
  | 3 => some (fnShift .asr)
  | 4 => some (fnShift .rol)
  | 5 => some (fnShift .ror)
  | _ => none

/-- The function of a bit matrix word: Fn2, bit 25 unused (40_integer_alu R346). -/
def rtopBmm (f3 : Nat) : AluFn := fnBmm (f3 % 2 == 1) (f3 / 2 % 2 == 1)

/-- The function of a 32-bit register-register word: Funct6 and bits 25:23 (30_encoding R244). -/
def rtopRR (f6 f3 : Nat) (sz : BitVec 3) : Option AluFn :=
  match f6 with
  | 0x00 => rtopBcd f3
  | 0x02 => some fnAddv
  | 0x03 => some (rtopBmm f3)
  | 0x04 => some (sized sz fnAdd)
  | 0x05 => some (sized sz fnSub)
  | 0x06 => some (sized sz fnSlt)
  | 0x07 => some (sized sz fnSltu)
  | 0x08 => some (sized sz fnAnd)
  | 0x09 => some (sized sz fnOr)
  | 0x0A => some (sized sz fnXor)
  | 0x0B => some (sized sz fnSeq)
  | 0x0C => some (sized 7 fnNand)
  | 0x0D => some (sized 7 fnNor)
  | 0x0E => some (sized 7 fnXnor)
  | 0x14 => some (divQuiet sz fnModU)
  | 0x15 => some (divChecked sz fnModSU)
  | 0x16 => some (divChecked sz fnModS)
  | 0x1E => some (fnPtrdif (BitVec.ofNat 3 f3))
  | 0x24 => some (sized sz fnMuluHi)
  | 0x25 => some (sized sz fnMulsuHi)
  | 0x26 => some (sized sz fnMulHi)
  | 0x28 => some (sized sz fnSle)
  | 0x29 => some (sized sz fnSleu)
  | 0x2A => some fnMulf
  | 0x2C => some (sized sz fnMin)
  | 0x2D => some (sized sz fnMax)
  | 0x2F => rtopShift f3
  | 0x38 => some (sized sz fnMuluLo)
  | 0x39 => some (sized sz fnMulsuLo)
  | 0x3A => some (fnMul sz)
  | 0x3B => some (sized sz fnFxmul)
  | 0x3C => some (divQuiet sz fnDivU)
  | 0x3D => some (divChecked sz fnDivSU)
  | 0x3E => some (divChecked sz fnDivS)
  | _ => none

/-- The function of an immediate-form word, its second operand coming from Rb (30_encoding R243). -/
def rtopImm (op : Nat) (sz : BitVec 3) : Option AluFn :=
  match op with
  | 0x04 => some (sized sz fnAdd)
  | 0x06 => some (sized sz fnSlt)
  | 0x07 => some (sized sz fnSltu)
  | 0x08 => some (sized sz fnAnd)
  | 0x09 => some (sized sz fnOr)
  | 0x0A => some (sized sz fnXor)
  | 0x0B => some (sized sz fnSeq)
  | 0x1C => some (sized sz fnSgtu)
  | 0x2A => some fnMulf
  | 0x2C => some (sized sz fnSgt)
  | 0x2E => some (divChecked sz fnModS)
  | 0x38 => some (sized sz fnMuluLo)
  | 0x3A => some (fnMul sz)
  | 0x3C => some (divQuiet sz fnDivU)
  | 0x3E => some (divChecked sz fnDivS)
  | _ => none

/-- The function of a 48-bit register-register word: ADDV and SUBV have two sources (30_encoding R246). -/
def rtopLong (f6 : Nat) : Option AluFn :=
  match f6 with
  | 0x02 => some fnAddv
  | 0x0B => some fnSubv
  | _ => none

/-- The function an instruction word passes to the ALU; none outside the set of R365. -/
def rtopFn (j : Word) (sz : BitVec 3) : Option AluFn :=
  let op := (field j 0 6).toNat
  match (field j 6 2).toNat with
  | 0 => if op = 2 then rtopRR (field j 26 6).toNat (field j 23 3).toNat sz else rtopImm op sz
  | 1 => if op = 2 then rtopLong (field j 42 6).toNat else rtopImm op sz
  | _ => none

/-- RTOP (R365). -/
def execRtop (rt ra rb rc : RegNo) (sz : BitVec 3) (s : State) : Outcome :=
  match rtopFn (s.x rc) sz with
  | none => reserved s
  | some f => aluReg f rt ra rb s

end Sys2Proof.Machine
end

