-- ==== Sys2Proof/Machine/VectorOps.lean ====
section
/-! DEFINITION. Vector instructions: 48_vector. -/

namespace Sys2Proof.Machine

/-! ## The element loop: R843 -/

/-- The number of elements processed. -/
def vecCount (s : State) : Nat := min s.vl.toNat 63

/-- f at the n elements from e whose mask bit is set, in ascending order (R843, R845). -/
def vecLoop (m : Word) (f : Nat → State → Res Unit) : Nat → Nat → State → Res Unit
  | 0, _, s => .ok () s
  | n + 1, e, s => (if bitAt m e then f e s else .ok () s).andThen fun _ s1 => vecLoop m f n (e + 1) s1

/-- f at every enabled element below VL, the mask register m governing (R843). -/
def vecEach (m : BitVec 3) (f : Nat → State → Res Unit) (s : State) : Res Unit :=
  vecLoop (s.mask m) f (vecCount s) 0 s

/-- v[Vt][e] <- w as a part. -/
def putV (vt : RegNo) (e : Nat) (w : Word) (s : State) : Res Unit := .ok () (s.setVec vt e w)

/-- ForEach of a value that raises nothing (R843). -/
def vecMap (m : BitVec 3) (vt : RegNo) (f : Nat → State → Word) (s : State) : Outcome :=
  (vecEach m (fun e t => putV vt e (f e t) t) s).retire

/-- ForEach of a floating-point operation; each element ends with FpFinish (R845, R846). -/
def vecMapFp (m : BitVec 3) (vt : RegNo) (status : FpResult → BitVec 7) (f : Nat → State → FpResult) (s : State) :
    Outcome :=
  (vecEach m (fun e t => fpFinish status (putV vt e) (f e t) t) s).retire

/-! ## Presence, precision, rounding mode, v0: R840, R842, R847 -/

/-- The precision check of a form (R842). -/
def vecLenOk (s : State) : VecLen → Bool
  | .short => true
  | .long prc _ => prcOk s prc

/-- The rounding mode code of a form: the 32-bit form takes FSTAT.RM, and opcode 31h ignores Rm3 (R842, log 47). -/
def vecRm (s : State) (fp : Bool) : VecLen → BitVec 3
  | .short => s.fpRm
  | .long _ rm => if fp then rmEff s rm else s.fpRm

/-- What the element operations of a form depend on. -/
def vecEnv (s : State) (fp : Bool) (len : VecLen) : FpEnv := fpEnv s (vecRm s fp len)

/-- Whether vector registers may be named (R847). -/
def vregsOk (s : State) (rs : List RegNo) : Bool := s.cfg.v0Ordinary || !rs.contains 0

/-- A vector instruction: reserved without the unit, with a precision the core does not have, or naming v0 where v0 is
reserved (R840, R842, R847). -/
def vecInstr (ok : Bool) (rs : List RegNo) (s : State) (m : Outcome) : Outcome :=
  if s.cfg.supVector && ok && vregsOk s rs then m else reserved s

/-- The scalar of an arithmetic element operation (R844). -/
def vecScalar (fp : Bool) (s : State) (r : RegNo) : Word := if fp then s.f r else s.x r

/-! ## Shared forms -/

/-- A two-source element operation, its second source given (R860 to R868). -/
def vecArith (fp : Bool) (fi : Word → Word → Word) (ff : FpEnv → Word → Word → FpResult) (len : VecLen) (m : BitVec 3)
    (vt : RegNo) (a b : Nat → State → Word) (s : State) : Outcome :=
  if fp then vecMapFp m vt resultStatus (fun e t => ff (vecEnv s fp len) (a e t) (b e t)) s
  else vecMap m vt (fun e t => fi (a e t) (b e t)) s

/-- Vector by vector. -/
def vecVV (fi : Word → Word → Word) (ff : FpEnv → Word → Word → FpResult) (fp : Bool) (len : VecLen) (m : BitVec 3)
    (vt va vb : RegNo) (s : State) : Outcome :=
  vecInstr (vecLenOk s len) [vt, va, vb] s
    (vecArith fp fi ff len m vt (fun e t => t.vec va e) (fun e t => t.vec vb e) s)

/-- Vector by scalar. -/
def vecVS (fi : Word → Word → Word) (ff : FpEnv → Word → Word → FpResult) (fp : Bool) (len : VecLen) (m : BitVec 3)
    (vt va rb : RegNo) (s : State) : Outcome :=
  vecInstr (vecLenOk s len) [vt, va] s
    (vecArith fp fi ff len m vt (fun e t => t.vec va e) (fun _ _ => vecScalar fp s rb) s)

/-- Scalar by vector (R864). DESIGN CHOICE (log 52): of two NaN operands the scalar comes first. -/
def vecSV (fi : Word → Word → Word) (ff : FpEnv → Word → Word → FpResult) (fp : Bool) (len : VecLen) (m : BitVec 3)
    (vt va rb : RegNo) (s : State) : Outcome :=
  vecInstr (vecLenOk s len) [vt, va] s
    (vecArith fp fi ff len m vt (fun _ _ => vecScalar fp s rb) (fun e t => t.vec va e) s)

/-- A bitwise operation of two vectors (R871 to R876). -/
def vecBitsVV (f : Word → Word → Word) (len : VecLen) (m : BitVec 3) (vt va vb : RegNo) (s : State) : Outcome :=
  vecInstr (vecLenOk s len) [vt, va, vb] s (vecMap m vt (fun e t => f (t.vec va e) (t.vec vb e)) s)

/-- A bitwise operation with a scalar, always x[Rb]. -/
def vecBitsVS (f : Word → Word → Word) (len : VecLen) (m : BitVec 3) (vt va rb : RegNo) (s : State) : Outcome :=
  vecInstr (vecLenOk s len) [vt, va] s (vecMap m vt (fun e t => f (t.vec va e) (s.x rb)) s)

/-- A one-source element operation without conditions. -/
def vecOne (f : Word → Word) (len : VecLen) (m : BitVec 3) (vt va : RegNo) (s : State) : Outcome :=
  vecInstr (vecLenOk s len) [vt, va] s (vecMap m vt (fun e t => f (t.vec va e)) s)

/-- A one-source rounded conversion (R884, R885). -/
def vecConvert (status : FpResult → BitVec 7) (f : FpEnv → Word → FpResult) (fp : Bool) (len : VecLen) (m : BitVec 3)
    (vt va : RegNo) (s : State) : Outcome :=
  vecInstr (vecLenOk s len) [vt, va] s (vecMapFp m vt status (fun e t => f (vecEnv s fp len) (t.vec va e)) s)

def wAdd (a b : Word) : Word := a + b
def wSub (a b : Word) : Word := a - b
def wMul (a b : Word) : Word := a * b
def wAnd (a b : Word) : Word := a &&& b
def wOr (a b : Word) : Word := a ||| b
def wXor (a b : Word) : Word := a ^^^ b

/-! ## Arithmetic: R860 to R877 -/

/-- R860. -/
def execVadd (fp : Bool) (len : VecLen) (m : BitVec 3) (vt va vb : RegNo) (s : State) : Outcome :=
  vecVV wAdd fpAdd fp len m vt va vb s
/-- R861. -/
def execVadds (fp : Bool) (len : VecLen) (m : BitVec 3) (vt va rb : RegNo) (s : State) : Outcome :=
  vecVS wAdd fpAdd fp len m vt va rb s
/-- R862. -/
def execVsub (fp : Bool) (len : VecLen) (m : BitVec 3) (vt va vb : RegNo) (s : State) : Outcome :=
  vecVV wSub fpSub fp len m vt va vb s
/-- R863. -/
def execVsubs (fp : Bool) (len : VecLen) (m : BitVec 3) (vt va rb : RegNo) (s : State) : Outcome :=
  vecVS wSub fpSub fp len m vt va rb s
/-- R864. -/
def execVsubrs (fp : Bool) (len : VecLen) (m : BitVec 3) (vt va rb : RegNo) (s : State) : Outcome :=
  vecSV wSub fpSub fp len m vt va rb s
/-- R864: Rb = 0. -/
def execVneg (fp : Bool) (len : VecLen) (m : BitVec 3) (vt va : RegNo) (s : State) : Outcome :=
  vecSV wSub fpSub fp len m vt va 0 s
/-- R865. -/
def execVmul (fp : Bool) (len : VecLen) (m : BitVec 3) (vt va vb : RegNo) (s : State) : Outcome :=
  vecVV wMul fpMul fp len m vt va vb s
/-- R866. -/
def execVmuls (fp : Bool) (len : VecLen) (m : BitVec 3) (vt va rb : RegNo) (s : State) : Outcome :=
  vecVS wMul fpMul fp len m vt va rb s
/-- R867: no exception on a zero divisor (R845). -/
def execVdiv (fp : Bool) (len : VecLen) (m : BitVec 3) (vt va vb : RegNo) (s : State) : Outcome :=
  vecVV (fnDivS s.cfg.divByZero 64) fpDiv fp len m vt va vb s
/-- R868. -/
def execVdivs (fp : Bool) (len : VecLen) (m : BitVec 3) (vt va rb : RegNo) (s : State) : Outcome :=
  vecVS (fnDivS s.cfg.divByZero 64) fpDiv fp len m vt va rb s
/-- R869. -/
def execVabs (fp : Bool) (len : VecLen) (m : BitVec 3) (vt va : RegNo) (s : State) : Outcome :=
  vecOne (if fp then fpAbsolute else fnAbs 64) len m vt va s
/-- The sign of an integer element (R870). -/
def wSign (a : Word) : Word := if a.slt 0 then BitVec.allOnes 64 else if a = 0 then 0 else 1
/-- R870. -/
def execVsign (fp : Bool) (len : VecLen) (m : BitVec 3) (vt va : RegNo) (s : State) : Outcome :=
  vecOne (if fp then fpSignum else wSign) len m vt va s
/-- R871. -/
def execVand (_fp : Bool) (len : VecLen) (m : BitVec 3) (vt va vb : RegNo) (s : State) : Outcome :=
  vecBitsVV wAnd len m vt va vb s
/-- R873. -/
def execVor (_fp : Bool) (len : VecLen) (m : BitVec 3) (vt va vb : RegNo) (s : State) : Outcome :=
  vecBitsVV wOr len m vt va vb s
/-- R875. -/
def execVxor (_fp : Bool) (len : VecLen) (m : BitVec 3) (vt va vb : RegNo) (s : State) : Outcome :=
  vecBitsVV wXor len m vt va vb s
/-- R872. -/
def execVands (_fp : Bool) (len : VecLen) (m : BitVec 3) (vt va rb : RegNo) (s : State) : Outcome :=
  vecBitsVS wAnd len m vt va rb s
/-- R874. -/
def execVors (_fp : Bool) (len : VecLen) (m : BitVec 3) (vt va rb : RegNo) (s : State) : Outcome :=
  vecBitsVS wOr len m vt va rb s
/-- R876. -/
def execVxors (_fp : Bool) (len : VecLen) (m : BitVec 3) (vt va rb : RegNo) (s : State) : Outcome :=
  vecBitsVS wXor len m vt va rb s
/-- R877. -/
def execVcntpop (_fp : Bool) (len : VecLen) (m : BitVec 3) (vt va : RegNo) (s : State) : Outcome :=
  vecOne (fun a => BitVec.ofNat 64 (ones a 64)) len m vt va s

/-! ## Shifts and element moves: R878 to R883 -/

/-- The shift amount at an element: a register, a vector element, an immediate (R878). -/
def vecShiftAmt (len : ShiftLen) (b : RegNo) (s t : State) (e : Nat) : Nat :=
  match len with
  | .short => (field (s.x b) 0 6).toNat
  | .long s2 _ _ =>
    match s2.toNat with
    | 0 => (field (s.x b) 0 6).toNat
    | 1 => (field (t.vec b e) 0 6).toNat
    | _ => b.toNat

/-- Whether a shift form exists: S2 = 3 is reserved, and the precision check (R842, R878). -/
def vecShiftOk (s : State) : ShiftLen → Bool
  | .short => true
  | .long s2 prc _ => s2 != 3 && prcOk s prc

/-- The vector registers a shift form names. -/
def vecShiftRegs (len : ShiftLen) (vt va b : RegNo) : List RegNo :=
  match len with
  | .short => [vt, va]
  | .long s2 _ _ => if s2 = 1 then [vt, va, b] else [vt, va]

/-- A vector shift (R878 to R880). -/
def vecShift (f : Word → Nat → Word) (len : ShiftLen) (m : BitVec 3) (vt va b : RegNo) (s : State) : Outcome :=
  vecInstr (vecShiftOk s len) (vecShiftRegs len vt va b) s
    (vecMap m vt (fun e t => f (t.vec va e) (vecShiftAmt len b s t e)) s)

/-- R878. -/
def execVshl (_fp : Bool) (len : ShiftLen) (m : BitVec 3) (vt va b : RegNo) (s : State) : Outcome :=
  vecShift (fun a n => a <<< n) len m vt va b s
/-- R879. -/
def execVshr (_fp : Bool) (len : ShiftLen) (m : BitVec 3) (vt va b : RegNo) (s : State) : Outcome :=
  vecShift (fun a n => a >>> n) len m vt va b s
/-- R880. -/
def execVasr (_fp : Bool) (len : ShiftLen) (m : BitVec 3) (vt va b : RegNo) (s : State) : Outcome :=
  vecShift (fun a n => a.sshiftRight n) len m vt va b s
/-- R881: the source is read as it was before the instruction (R843). -/
def execVshlv (_fp : Bool) (len : VecLen) (m : BitVec 3) (vt va amt : RegNo) (s : State) : Outcome :=
  vecInstr (vecLenOk s len) [vt, va] s
    (vecMap m vt (fun e _ => if amt.toNat ≤ e then s.vec va (e - amt.toNat) else 0) s)
/-- R882. -/
def execVshrv (_fp : Bool) (len : VecLen) (m : BitVec 3) (vt va amt : RegNo) (s : State) : Outcome :=
  vecInstr (vecLenOk s len) [vt, va] s
    (vecMap m vt (fun e _ => if e + amt.toNat < vecCount s then s.vec va (e + amt.toNat) else 0) s)
/-- R883: a true exchange. -/
def execVxchg (_fp : Bool) (len : VecLen) (m : BitVec 3) (va vb : RegNo) (s : State) : Outcome :=
  vecInstr (vecLenOk s len) [va, vb] s
    (vecEach m (fun e t => .ok () ((t.setVec va e (t.vec vb e)).setVec vb e (t.vec va e))) s).retire

/-! ## Conversions: R884, R885 -/

/-- R884. -/
def execVflt2int (fp : Bool) (len : VecLen) (m : BitVec 3) (vt va : RegNo) (s : State) : Outcome :=
  vecConvert integerStatus fpToInt fp len m vt va s
/-- R885. -/
def execVint2flt (fp : Bool) (len : VecLen) (m : BitVec 3) (vt va : RegNo) (s : State) : Outcome :=
  vecConvert resultStatus fpOfInt fp len m vt va s

/-! ## Compression, scans, element and bit transfers: R886 to R892 -/

/-- f written to consecutive elements of Vt for the enabled elements from e; y is the next one written (R886, R887). -/
def vecPack (mk : Word) (vt : RegNo) (f : Nat → Word) : Nat → Nat → Nat → State → State
  | 0, _, _, s => s
  | n + 1, e, y, s =>
    if bitAt mk e then vecPack mk vt f n (e + 1) (y + 1) (s.setVec vt y (f e)) else vecPack mk vt f n (e + 1) y s

/-- The cumulative sum of v (R888). -/
def vecScan (mk : Word) (vt : RegNo) (v : Word) : Nat → Nat → Word → State → State
  | 0, _, _, s => s
  | n + 1, e, sum, s => vecScan mk vt v n (e + 1) (if bitAt mk e then sum + v else sum) (s.setVec vt e sum)

/-- R886: the source is read as it was before the instruction (R843). -/
def execVcmprss (_fp : Bool) (len : VecLen) (m : BitVec 3) (vt va : RegNo) (s : State) : Outcome :=
  vecInstr (vecLenOk s len) [vt, va] s
    (.next (vecPack (s.mask m) vt (fun e => s.vec va e) (vecCount s) 0 0 s).advance)
/-- R887. -/
def execVcidx (_fp : Bool) (len : VecLen) (m : BitVec 3) (vt ra : RegNo) (s : State) : Outcome :=
  vecInstr (vecLenOk s len) [vt] s
    (.next (vecPack (s.mask m) vt (fun e => s.x ra * BitVec.ofNat 64 e) (vecCount s) 0 0 s).advance)
/-- R888. -/
def execVscan (_fp : Bool) (len : VecLen) (m : BitVec 3) (vt ra : RegNo) (s : State) : Outcome :=
  vecInstr (vecLenOk s len) [vt] s (.next (vecScan (s.mask m) vt (s.x ra) (vecCount s) 0 0 s).advance)
/-- R889. -/
def execVbits2v (_fp : Bool) (len : VecLen) (m : BitVec 3) (vt ra : RegNo) (s : State) : Outcome :=
  vecInstr (vecLenOk s len) [vt] s (vecMap m vt (fun e _ => boolWord (bitAt (s.x ra) e)) s)
/-- R890: bits of elements that are masked off or not below VL are 0. -/
def execV2bits (_fp : Bool) (len : VecLen) (m : BitVec 3) (rt va : RegNo) (s : State) : Outcome :=
  vecInstr (vecLenOk s len) [va] s
    (writeX rt (wordOfBits fun e => decide (e < vecCount s) && bitAt (s.mask m) e && bitAt (s.vec va e) 0) s)
/-- R891: neither masked nor limited by VL; element 63 is no element. -/
def execVeins (_fp : Bool) (len : VecLen) (_m : BitVec 3) (vt ra rb : RegNo) (s : State) : Outcome :=
  vecInstr (vecLenOk s len) [vt] s
    (.next (if field (s.x ra) 0 6 = 63 then s
      else s.setVec vt (field (s.x ra) 0 6).toNat (s.x rb)).advance)
/-- R892. -/
def execVex (_fp : Bool) (len : VecLen) (_m : BitVec 3) (rt ra vb : RegNo) (s : State) : Outcome :=
  vecInstr (vecLenOk s len) [vb] s
    (writeX rt (if field (s.x ra) 0 6 = 63 then 0 else s.vec vb (field (s.x ra) 0 6).toNat) s)

/-! ## Compares: R893 -/

/-- An integer condition; lt is the signed or the unsigned less-than. -/
def intCond (lt : Word → Word → Bool) (cn : BitVec 3) (a b : Word) : Bool :=
  match cn.toNat with
  | 0 => a == b
  | 1 => a != b
  | 2 => lt a b
  | 3 => !lt a b
  | 4 => !lt b a
  | 5 => lt b a
  | _ => false

/-- A floating-point condition. -/
def fpCond (cn : BitVec 3) (a b : Word) : Bool :=
  match cn.toNat with
  | 0 => fpEq a b
  | 1 => !fpEq a b
  | 2 => fpLt a b
  | 3 => fpLe b a
  | 4 => fpLe a b
  | 5 => fpLt b a
  | 7 => fpUnordered a b
  | _ => false

/-- vm[k][e] <- b. -/
def State.setMaskBit (s : State) (k : BitVec 3) (e : Nat) (b : Bool) : State :=
  s.setMask k (setBitAt (s.mask k) e b)

/-- A compare of integer elements. -/
def vecCmpInt (lt : Word → Word → Bool) (cn mt m : BitVec 3) (a b : Nat → State → Word) (s : State) : Outcome :=
  (vecEach m (fun e t => .ok () (t.setMaskBit mt e (intCond lt cn (a e t) (b e t)))) s).retire

/-- A compare of floating-point elements: the flags are FCMP's. -/
def vecCmpFp (cn mt m : BitVec 3) (a b : Nat → State → Word) (s : State) : Outcome :=
  (vecEach m (fun e t =>
    (fpFlags (fpQuietCmp (a e t) (b e t) 0) t).andThen fun _ t1 =>
      .ok () (t1.setMaskBit mt e (fpCond cn (a e t) (b e t)))) s).retire

/-- A compare; condition 6 is reserved. -/
def vecCmp (fp : Bool) (lt : Word → Word → Bool) (len : VecLen) (cn mt m : BitVec 3) (rs : List RegNo)
    (a b : Nat → State → Word) (s : State) : Outcome :=
  vecInstr (vecLenOk s len && cn != 6) rs s
    (if fp then vecCmpFp cn mt m a b s else vecCmpInt lt cn mt m a b s)

/-- R893, vector and vector. -/
def execVsxx (fp : Bool) (len : VecLen) (m cn mt : BitVec 3) (va vb : RegNo) (s : State) : Outcome :=
  vecCmp fp BitVec.slt len cn mt m [va, vb] (fun e t => t.vec va e) (fun e t => t.vec vb e) s
/-- R893, vector and scalar. -/
def execVsxxs (fp : Bool) (len : VecLen) (m cn mt : BitVec 3) (va rb : RegNo) (s : State) : Outcome :=
  vecCmp fp BitVec.slt len cn mt m [va] (fun e t => t.vec va e) (fun _ _ => vecScalar fp s rb) s
/-- R893, unsigned. -/
def execVsxxu (len : VecLen) (m cn mt : BitVec 3) (va vb : RegNo) (s : State) : Outcome :=
  vecCmp false BitVec.ult len cn mt m [va, vb] (fun e t => t.vec va e) (fun e t => t.vec vb e) s
/-- R893, unsigned, vector and scalar. -/
def execVsxxsu (len : VecLen) (m cn mt : BitVec 3) (va rb : RegNo) (s : State) : Outcome :=
  vecCmp false BitVec.ult len cn mt m [va] (fun e t => t.vec va e) (fun _ _ => s.x rb) s

/-! ## Mask operations: R895 to R899 -/

/-- vm[Vmt] <- w. -/
def maskResult (mt : BitVec 3) (w : Word) (s : State) : Outcome :=
  vecInstr true [] s (.next (s.setMask mt w).advance)

/-- x[Rt] <- a count or a position. -/
def maskCount (rt : RegNo) (n : Nat) (s : State) : Outcome := vecInstr true [] s (writeX rt (BitVec.ofNat 64 n) s)

/-- R895. -/
def execVmand (_fp : Bool) (mt ma mb : BitVec 3) (s : State) : Outcome := maskResult mt (s.mask ma &&& s.mask mb) s
/-- R895. -/
def execVmor (_fp : Bool) (mt ma mb : BitVec 3) (s : State) : Outcome := maskResult mt (s.mask ma ||| s.mask mb) s
/-- R895. -/
def execVmxor (_fp : Bool) (mt ma mb : BitVec 3) (s : State) : Outcome := maskResult mt (s.mask ma ^^^ s.mask mb) s
/-- R895. -/
def execVmxnor (_fp : Bool) (mt ma mb : BitVec 3) (s : State) : Outcome :=
  maskResult mt (~~~(s.mask ma ^^^ s.mask mb)) s
/-- R896. -/
def execVmpop (_fp : Bool) (rt : RegNo) (ma : BitVec 3) (s : State) : Outcome := maskCount rt (ones (s.mask ma) 64) s
/-- R897. -/
def execVmfill (_fp : Bool) (mt : BitVec 3) (ra : RegNo) (s : State) : Outcome :=
  maskResult mt (wordOfBits fun b => decide (b < (s.x ra).toNat)) s
/-- R898. -/
def execVmfirst (_fp : Bool) (rt : RegNo) (ma : BitVec 3) (s : State) : Outcome :=
  maskCount rt ((lowestSet (s.mask ma) 64 0).getD 64) s
/-- R899. -/
def execVmlast (_fp : Bool) (rt : RegNo) (ma : BitVec 3) (s : State) : Outcome :=
  maskCount rt ((highestSet (s.mask ma) 64).getD 64) s

/-! ## VMOV, VSYNC: R900, R901 -/

/-- Whether a control-register number is assigned: a mask register, or VL (R900). The others are reserved encodings
(93 U21, log 25). -/
def vmovOk (c : RegNo) : Bool := decide (c.toNat < 8) || c == 15

/-- R900: VL is held at 63. -/
def execVmovTo (ct ra : RegNo) (s : State) : Outcome :=
  vecInstr (vmovOk ct) [] s
    (.next (if ct = 15 then { s with vl := BitVec.ofNat 7 (min (field (s.x ra) 0 7).toNat 63) }
      else s.setMask (field ct 0 3) (s.x ra)).advance)
/-- R900. -/
def execVmovFrom (rt ca : RegNo) (s : State) : Outcome :=
  vecInstr (vmovOk ca) [] s (writeX rt (if ca = 15 then zext64 s.vl else s.mask (field ca 0 3)) s)
/-- R901. -/
def execVsync (_fp : Bool) (s : State) : Outcome := vecInstr true [] s (.next s.advance)

/-! ## Vector loads and stores: R850 to R856 -/

/-- Loads of the enabled elements, mask register 0 governing (R850). -/
def vecLoad (vt : RegNo) (rs : List RegNo) (ea : Nat → State → Word) (s : State) : Outcome :=
  vecInstr true rs s
    (vecEach 0 (fun e t => (memRead (ea e t) 8 t).andThen fun v t1 => putV vt e (zeroBytes v) t1) s).retire

/-- Stores of the enabled elements, mask register 0 governing (R850). -/
def vecStore (vb : RegNo) (rs : List RegNo) (ea : Nat → State → Word) (s : State) : Outcome :=
  vecInstr true rs s (vecEach 0 (fun e t => memWrite (ea e t) 8 (t.vec vb e).toNat t) s).retire

/-- R851. -/
def execLv (vt ra : RegNo) (imm : Imm) (s : State) : Outcome :=
  vecLoad vt [vt] (fun e _ => eaDisp s ra imm + BitVec.ofNat 64 (8 * e)) s
/-- R852. -/
def execSv (vb ra : RegNo) (disp : Imm) (s : State) : Outcome :=
  vecStore vb [vb] (fun e _ => eaDisp s ra disp + BitVec.ofNat 64 (8 * e)) s
/-- R853: Sc2 is ignored. -/
def execLvws (vt ra rc : RegNo) (_sc : BitVec 2) (s : State) : Outcome :=
  vecLoad vt [vt] (fun e _ => s.x ra + s.x rc * BitVec.ofNat 64 (8 * e)) s
/-- R854. -/
def execSvws (vb ra rc : RegNo) (_sc : BitVec 2) (s : State) : Outcome :=
  vecStore vb [vb] (fun e _ => s.x ra + s.x rc * BitVec.ofNat 64 (8 * e)) s
/-- R855: each offset is read before its element is written. -/
def execLvx (vt ra vc : RegNo) (_sc : BitVec 2) (s : State) : Outcome :=
  vecLoad vt [vt, vc] (fun e t => s.x ra + t.vec vc e) s
/-- R856. -/
def execSvx (vb ra vc : RegNo) (_sc : BitVec 2) (s : State) : Outcome :=
  vecStore vb [vb, vc] (fun e t => s.x ra + t.vec vc e) s

end Sys2Proof.Machine
end

