-- ==== Sys2Proof/Machine/Dispatch.lean ====
section
/-! DEFINITION. Every instruction's meaning, one arm each: the family files hold the meanings. -/

namespace Sys2Proof.Machine

def exec (i : Instr) (s : State) : Host.Outcome State Fault Refusal :=
  match i with
  | .addi rt ra imm => Sys2Proof.Machine.execAddi rt ra imm s
  | .slti rt ra imm => Sys2Proof.Machine.execSlti rt ra imm s
  | .sltui rt ra imm => Sys2Proof.Machine.execSltui rt ra imm s
  | .andi rt ra imm => Sys2Proof.Machine.execAndi rt ra imm s
  | .ori rt ra imm => Sys2Proof.Machine.execOri rt ra imm s
  | .xori rt ra imm => Sys2Proof.Machine.execXori rt ra imm s
  | .seqi rt ra imm => Sys2Proof.Machine.execSeqi rt ra imm s
  | .sgtui rt ra imm => Sys2Proof.Machine.execSgtui rt ra imm s
  | .sgti rt ra imm => Sys2Proof.Machine.execSgti rt ra imm s
  | .mulfi rt ra imm => Sys2Proof.Machine.execMulfi rt ra imm s
  | .modi rt ra imm => Sys2Proof.Machine.execModi rt ra imm s
  | .mului rt ra imm => Sys2Proof.Machine.execMului rt ra imm s
  | .muli rt ra imm => Sys2Proof.Machine.execMuli rt ra imm s
  | .divui rt ra imm => Sys2Proof.Machine.execDivui rt ra imm s
  | .divi rt ra imm => Sys2Proof.Machine.execDivi rt ra imm s
  | .ldi rt imm => Sys2Proof.Machine.execLdi rt imm s
  | .lui rt imm => Sys2Proof.Machine.execLui rt imm s
  | .auipc rt imm => Sys2Proof.Machine.execAuipc rt imm s
  | .addv rt ra rb long => Sys2Proof.Machine.execAddv rt ra rb long s
  | .add rt ra rb sz => Sys2Proof.Machine.execAdd rt ra rb sz s
  | .sub rt ra rb sz => Sys2Proof.Machine.execSub rt ra rb sz s
  | .slt rt ra rb sz => Sys2Proof.Machine.execSlt rt ra rb sz s
  | .sltu rt ra rb sz => Sys2Proof.Machine.execSltu rt ra rb sz s
  | .and rt ra rb sz => Sys2Proof.Machine.execAnd rt ra rb sz s
  | .or rt ra rb sz => Sys2Proof.Machine.execOr rt ra rb sz s
  | .xor rt ra rb sz => Sys2Proof.Machine.execXor rt ra rb sz s
  | .seq rt ra rb sz => Sys2Proof.Machine.execSeq rt ra rb sz s
  | .nand rt ra rb => Sys2Proof.Machine.execNand rt ra rb s
  | .nor rt ra rb => Sys2Proof.Machine.execNor rt ra rb s
  | .xnor rt ra rb => Sys2Proof.Machine.execXnor rt ra rb s
  | .modu rt ra rb sz => Sys2Proof.Machine.execModu rt ra rb sz s
  | .modsu rt ra rb sz => Sys2Proof.Machine.execModsu rt ra rb sz s
  | .mod rt ra rb sz => Sys2Proof.Machine.execMod rt ra rb sz s
  | .ptrdif rt ra rb sc => Sys2Proof.Machine.execPtrdif rt ra rb sc s
  | .muluh rt ra rb sz => Sys2Proof.Machine.execMuluh rt ra rb sz s
  | .mulsuh rt ra rb sz => Sys2Proof.Machine.execMulsuh rt ra rb sz s
  | .mulh rt ra rb sz => Sys2Proof.Machine.execMulh rt ra rb sz s
  | .sle rt ra rb sz => Sys2Proof.Machine.execSle rt ra rb sz s
  | .sleu rt ra rb sz => Sys2Proof.Machine.execSleu rt ra rb sz s
  | .mulf rt ra rb sz => Sys2Proof.Machine.execMulf rt ra rb sz s
  | .min rt ra rb sz => Sys2Proof.Machine.execMin rt ra rb sz s
  | .max rt ra rb sz => Sys2Proof.Machine.execMax rt ra rb sz s
  | .mulu rt ra rb sz => Sys2Proof.Machine.execMulu rt ra rb sz s
  | .mulsu rt ra rb sz => Sys2Proof.Machine.execMulsu rt ra rb sz s
  | .mul rt ra rb sz => Sys2Proof.Machine.execMul rt ra rb sz s
  | .fxmul rt ra rb sz => Sys2Proof.Machine.execFxmul rt ra rb sz s
  | .divu rt ra rb sz => Sys2Proof.Machine.execDivu rt ra rb sz s
  | .divsu rt ra rb sz => Sys2Proof.Machine.execDivsu rt ra rb sz s
  | .div rt ra rb sz => Sys2Proof.Machine.execDiv rt ra rb sz s
  | .bcdadd rt ra rb => Sys2Proof.Machine.execBcdadd rt ra rb s
  | .bcdsub rt ra rb => Sys2Proof.Machine.execBcdsub rt ra rb s
  | .bcdmul rt ra rb => Sys2Proof.Machine.execBcdmul rt ra rb s
  | .mor rt ra rb => Sys2Proof.Machine.execMor rt ra rb s
  | .mxor rt ra rb => Sys2Proof.Machine.execMxor rt ra rb s
  | .mort rt ra rb => Sys2Proof.Machine.execMort rt ra rb s
  | .mxort rt ra rb => Sys2Proof.Machine.execMxort rt ra rb s
  | .mov d rs rt ra => Sys2Proof.Machine.execMov d rs rt ra s
  | .chk ra rb rc => Sys2Proof.Machine.execChk ra rb rc s
  | .chki ra rb imm => Sys2Proof.Machine.execChki ra rb imm s
  | .shl rt ra rb => Sys2Proof.Machine.execShl rt ra rb s
  | .shlImm rt ra n => Sys2Proof.Machine.execShlImm rt ra n s
  | .shlOp op2 sz n rt ra rc => Sys2Proof.Machine.execShlOp op2 sz n rt ra rc s
  | .shr rt ra rb => Sys2Proof.Machine.execShr rt ra rb s
  | .shrImm rt ra n => Sys2Proof.Machine.execShrImm rt ra n s
  | .shrOp op2 sz n rt ra rc => Sys2Proof.Machine.execShrOp op2 sz n rt ra rc s
  | .asl rt ra rb => Sys2Proof.Machine.execAsl rt ra rb s
  | .aslImm rt ra n => Sys2Proof.Machine.execAslImm rt ra n s
  | .aslOp op2 sz n rt ra rc => Sys2Proof.Machine.execAslOp op2 sz n rt ra rc s
  | .asr rt ra rb => Sys2Proof.Machine.execAsr rt ra rb s
  | .asrImm rt ra n => Sys2Proof.Machine.execAsrImm rt ra n s
  | .asrOp op2 sz n rt ra rc => Sys2Proof.Machine.execAsrOp op2 sz n rt ra rc s
  | .rol rt ra rb => Sys2Proof.Machine.execRol rt ra rb s
  | .rolImm rt ra n => Sys2Proof.Machine.execRolImm rt ra n s
  | .rolOp op2 sz n rt ra rc => Sys2Proof.Machine.execRolOp op2 sz n rt ra rc s
  | .ror rt ra rb => Sys2Proof.Machine.execRor rt ra rb s
  | .rorImm rt ra n => Sys2Proof.Machine.execRorImm rt ra n s
  | .rorOp op2 sz n rt ra rc => Sys2Proof.Machine.execRorOp op2 sz n rt ra rc s
  | .cntlz rt ra sz => Sys2Proof.Machine.execCntlz rt ra sz s
  | .cntlo rt ra sz => Sys2Proof.Machine.execCntlo rt ra sz s
  | .cntpop rt ra sz => Sys2Proof.Machine.execCntpop rt ra sz s
  | .com rt ra => Sys2Proof.Machine.execCom rt ra s
  | .abs rt ra sz => Sys2Proof.Machine.execAbs rt ra sz s
  | .not rt ra sz => Sys2Proof.Machine.execNot rt ra sz s
  | .redor rt ra sz => Sys2Proof.Machine.execRedor rt ra sz s
  | .neg rt ra sz => Sys2Proof.Machine.execNeg rt ra sz s
  | .zxh rt ra => Sys2Proof.Machine.execZxh rt ra s
  | .zxc rt ra => Sys2Proof.Machine.execZxc rt ra s
  | .zxb rt ra => Sys2Proof.Machine.execZxb rt ra s
  | .sxh rt ra => Sys2Proof.Machine.execSxh rt ra s
  | .sxc rt ra => Sys2Proof.Machine.execSxc rt ra s
  | .sxb rt ra => Sys2Proof.Machine.execSxb rt ra s
  | .memdb => Sys2Proof.Machine.execMemdb s
  | .memsb => Sys2Proof.Machine.execMemsb s
  | .sync => Sys2Proof.Machine.execSync s
  | .execBuf n => Sys2Proof.Machine.execExecBuf n s
  | .chainoff => Sys2Proof.Machine.execChainoff s
  | .chainon => Sys2Proof.Machine.execChainon s
  | .setwb rn => Sys2Proof.Machine.execSetwb rn s
  | .wtme ra rb => Sys2Proof.Machine.execWtme ra rb s
  | .rtop rt ra rb rc sz => Sys2Proof.Machine.execRtop rt ra rb rc sz s
  | .add3 rt ra rb rc => Sys2Proof.Machine.execAdd3 rt ra rb rc s
  | .or3 rt ra rb rc sz => Sys2Proof.Machine.execOr3 rt ra rb rc sz s
  | .xorOp op2 sz rt ra rb rc => Sys2Proof.Machine.execXorOp op2 sz rt ra rb rc s
  | .subv rt ra rb => Sys2Proof.Machine.execSubv rt ra rb s
  | .mux rt ra rb rc => Sys2Proof.Machine.execMux rt ra rb rc s
  | .cmovez rt ra rb rc => Sys2Proof.Machine.execCmovez rt ra rb rc s
  | .cmovnz rt ra rb rc => Sys2Proof.Machine.execCmovnz rt ra rb rc s
  | .caddnz rt ra rb rc => Sys2Proof.Machine.execCaddnz rt ra rb rc s
  | .cmovnzi rt ra rb imm => Sys2Proof.Machine.execCmovnzi rt ra rb imm s
  | .caddnzi rt ra rb imm => Sys2Proof.Machine.execCaddnzi rt ra rb imm s
  | .min3 rt ra rb rc sz => Sys2Proof.Machine.execMin3 rt ra rb rc sz s
  | .max3 rt ra rb rc sz => Sys2Proof.Machine.execMax3 rt ra rb rc sz s
  | .maj rt ra rb rc => Sys2Proof.Machine.execMaj rt ra rb rc s
  | .bfclr rt rg da bw bo => Sys2Proof.Machine.execBfclr rt rg da bw bo s
  | .bfchg rt rg da bw bo => Sys2Proof.Machine.execBfchg rt rg da bw bo s
  | .bfins rt rg da bw bo => Sys2Proof.Machine.execBfins rt rg da bw bo s
  | .bfinsi rt rg da bw bo => Sys2Proof.Machine.execBfinsi rt rg da bw bo s
  | .bfext rt rg da bw bo => Sys2Proof.Machine.execBfext rt rg da bw bo s
  | .bfextu rt rg da bw bo => Sys2Proof.Machine.execBfextu rt rg da bw bo s
  | .bfffo rt rg da bw bo => Sys2Proof.Machine.execBfffo rt rg da bw bo s
  | .nop long => Sys2Proof.Machine.execNop long s
  | .lb rt ra imm => Sys2Proof.Machine.execLb rt ra imm s
  | .lbu rt ra imm => Sys2Proof.Machine.execLbu rt ra imm s
  | .lwr rt ra imm => Sys2Proof.Machine.execLwr rt ra imm s
  | .lc rt ra disp => Sys2Proof.Machine.execLc rt ra disp s
  | .lh rt ra disp => Sys2Proof.Machine.execLh rt ra disp s
  | .lw rt ra disp => Sys2Proof.Machine.execLw rt ra disp s
  | .ld rt ra disp => Sys2Proof.Machine.execLd rt ra disp s
  | .lcu rt ra disp => Sys2Proof.Machine.execLcu rt ra disp s
  | .lhu rt ra disp => Sys2Proof.Machine.execLhu rt ra disp s
  | .lfs rt ra disp => Sys2Proof.Machine.execLfs rt ra disp s
  | .lfd rt ra disp => Sys2Proof.Machine.execLfd rt ra disp s
  | .lfq rt ra disp => Sys2Proof.Machine.execLfq rt ra disp s
  | .lvc rt ra disp => Sys2Proof.Machine.execLvc rt ra disp s
  | .lvh rt ra disp => Sys2Proof.Machine.execLvh rt ra disp s
  | .lvw rt ra disp => Sys2Proof.Machine.execLvw rt ra disp s
  | .lvcu rt ra disp => Sys2Proof.Machine.execLvcu rt ra disp s
  | .lvhu rt ra disp => Sys2Proof.Machine.execLvhu rt ra disp s
  | .sb rb ra disp => Sys2Proof.Machine.execSb rb ra disp s
  | .swc rb ra disp => Sys2Proof.Machine.execSwc rb ra disp s
  | .sc rb ra disp => Sys2Proof.Machine.execSc rb ra disp s
  | .sh rb ra disp => Sys2Proof.Machine.execSh rb ra disp s
  | .sw rb ra disp => Sys2Proof.Machine.execSw rb ra disp s
  | .sfs rb ra disp => Sys2Proof.Machine.execSfs rb ra disp s
  | .sfd rb ra disp => Sys2Proof.Machine.execSfd rb ra disp s
  | .sfq rb ra disp => Sys2Proof.Machine.execSfq rb ra disp s
  | .cas rt ra disp => Sys2Proof.Machine.execCas rt ra disp s
  | .pushc rt ra imm => Sys2Proof.Machine.execPushc rt ra imm s
  | .inc amt ra imm => Sys2Proof.Machine.execInc amt ra imm s
  | .cache cmd ra imm => Sys2Proof.Machine.execCache cmd ra imm s
  | .lv vt ra imm => Sys2Proof.Machine.execLv vt ra imm s
  | .sv vb ra disp => Sys2Proof.Machine.execSv vb ra disp s
  | .lvbx rt ra rc sc => Sys2Proof.Machine.execLvbx rt ra rc sc s
  | .lvbux rt ra rc sc => Sys2Proof.Machine.execLvbux rt ra rc sc s
  | .lvcx rt ra rc sc => Sys2Proof.Machine.execLvcx rt ra rc sc s
  | .lvcux rt ra rc sc => Sys2Proof.Machine.execLvcux rt ra rc sc s
  | .lvhx rt ra rc sc => Sys2Proof.Machine.execLvhx rt ra rc sc s
  | .lvhux rt ra rc sc => Sys2Proof.Machine.execLvhux rt ra rc sc s
  | .lvwx rt ra rc sc => Sys2Proof.Machine.execLvwx rt ra rc sc s
  | .lcx rt ra rc sc => Sys2Proof.Machine.execLcx rt ra rc sc s
  | .lcux rt ra rc sc => Sys2Proof.Machine.execLcux rt ra rc sc s
  | .lbux rt ra rc sc => Sys2Proof.Machine.execLbux rt ra rc sc s
  | .lhx rt ra rc sc => Sys2Proof.Machine.execLhx rt ra rc sc s
  | .lhux rt ra rc sc => Sys2Proof.Machine.execLhux rt ra rc sc s
  | .lwx rt ra rc sc => Sys2Proof.Machine.execLwx rt ra rc sc s
  | .lbx rt ra rc sc => Sys2Proof.Machine.execLbx rt ra rc sc s
  | .lwrx rt ra rc sc => Sys2Proof.Machine.execLwrx rt ra rc sc s
  | .leax rt ra rc sc => Sys2Proof.Machine.execLeax rt ra rc sc s
  | .lvx vt ra vc sc => Sys2Proof.Machine.execLvx vt ra vc sc s
  | .lvws vt ra rc sc => Sys2Proof.Machine.execLvws vt ra rc sc s
  | .lfsx rt ra rc sc => Sys2Proof.Machine.execLfsx rt ra rc sc s
  | .lfdx rt ra rc sc => Sys2Proof.Machine.execLfdx rt ra rc sc s
  | .cachex cmd ra rc sc => Sys2Proof.Machine.execCachex cmd ra rc sc s
  | .lfqx rt ra rc sc => Sys2Proof.Machine.execLfqx rt ra rc sc s
  | .sbx rb ra rc sc => Sys2Proof.Machine.execSbx rb ra rc sc s
  | .shx rb ra rc sc => Sys2Proof.Machine.execShx rb ra rc sc s
  | .swx rb ra rc sc => Sys2Proof.Machine.execSwx rb ra rc sc s
  | .swcx rb ra rc sc => Sys2Proof.Machine.execSwcx rb ra rc sc s
  | .scx rb ra rc sc => Sys2Proof.Machine.execScx rb ra rc sc s
  | .casx rt ra rc sc => Sys2Proof.Machine.execCasx rt ra rc sc s
  | .svws vb ra rc sc => Sys2Proof.Machine.execSvws vb ra rc sc s
  | .incx amt ra rc sc => Sys2Proof.Machine.execIncx amt ra rc sc s
  | .sfsx rb ra rc sc => Sys2Proof.Machine.execSfsx rb ra rc sc s
  | .sfdx rb ra rc sc => Sys2Proof.Machine.execSfdx rb ra rc sc s
  | .sfqx rb ra rc sc => Sys2Proof.Machine.execSfqx rb ra rc sc s
  | .svx vb ra vc sc => Sys2Proof.Machine.execSvx vb ra vc sc s
  | .push rb rt ra => Sys2Proof.Machine.execPush rb rt ra s
  | .amoSwap rt ra rb sz acq rel => Sys2Proof.Machine.execAmoSwap rt ra rb sz acq rel s
  | .amoSwapImm rt ra imm sz acq rel => Sys2Proof.Machine.execAmoSwapImm rt ra imm sz acq rel s
  | .amoAdd rt ra rb sz acq rel => Sys2Proof.Machine.execAmoAdd rt ra rb sz acq rel s
  | .amoAddImm rt ra imm sz acq rel => Sys2Proof.Machine.execAmoAddImm rt ra imm sz acq rel s
  | .amoAnd rt ra rb sz acq rel => Sys2Proof.Machine.execAmoAnd rt ra rb sz acq rel s
  | .amoAndImm rt ra imm sz acq rel => Sys2Proof.Machine.execAmoAndImm rt ra imm sz acq rel s
  | .amoOr rt ra rb sz acq rel => Sys2Proof.Machine.execAmoOr rt ra rb sz acq rel s
  | .amoOrImm rt ra imm sz acq rel => Sys2Proof.Machine.execAmoOrImm rt ra imm sz acq rel s
  | .amoXor rt ra rb sz acq rel => Sys2Proof.Machine.execAmoXor rt ra rb sz acq rel s
  | .amoXorImm rt ra imm sz acq rel => Sys2Proof.Machine.execAmoXorImm rt ra imm sz acq rel s
  | .amoShl rt ra rb sz acq rel => Sys2Proof.Machine.execAmoShl rt ra rb sz acq rel s
  | .amoShlImm rt ra imm sz acq rel => Sys2Proof.Machine.execAmoShlImm rt ra imm sz acq rel s
  | .amoShr rt ra rb sz acq rel => Sys2Proof.Machine.execAmoShr rt ra rb sz acq rel s
  | .amoShrImm rt ra imm sz acq rel => Sys2Proof.Machine.execAmoShrImm rt ra imm sz acq rel s
  | .amoMin rt ra rb sz acq rel => Sys2Proof.Machine.execAmoMin rt ra rb sz acq rel s
  | .amoMinImm rt ra imm sz acq rel => Sys2Proof.Machine.execAmoMinImm rt ra imm sz acq rel s
  | .amoMax rt ra rb sz acq rel => Sys2Proof.Machine.execAmoMax rt ra rb sz acq rel s
  | .amoMaxImm rt ra imm sz acq rel => Sys2Proof.Machine.execAmoMaxImm rt ra imm sz acq rel s
  | .amoMinu rt ra rb sz acq rel => Sys2Proof.Machine.execAmoMinu rt ra rb sz acq rel s
  | .amoMinuImm rt ra imm sz acq rel => Sys2Proof.Machine.execAmoMinuImm rt ra imm sz acq rel s
  | .amoMaxu rt ra rb sz acq rel => Sys2Proof.Machine.execAmoMaxu rt ra rb sz acq rel s
  | .amoMaxuImm rt ra imm sz acq rel => Sys2Proof.Machine.execAmoMaxuImm rt ra imm sz acq rel s
  | .beq ra rb disp => Sys2Proof.Machine.execBeq ra rb disp s
  | .bne ra rb disp => Sys2Proof.Machine.execBne ra rb disp s
  | .blt ra rb disp => Sys2Proof.Machine.execBlt ra rb disp s
  | .bge ra rb disp => Sys2Proof.Machine.execBge ra rb disp s
  | .band ra rb disp => Sys2Proof.Machine.execBand ra rb disp s
  | .bor ra rb disp => Sys2Proof.Machine.execBor ra rb disp s
  | .bltu ra rb disp => Sys2Proof.Machine.execBltu ra rb disp s
  | .bgeu ra rb disp => Sys2Proof.Machine.execBgeu ra rb disp s
  | .fbeq ra rb disp => Sys2Proof.Machine.execFbeq ra rb disp s
  | .fbne ra rb disp => Sys2Proof.Machine.execFbne ra rb disp s
  | .fblt ra rb disp => Sys2Proof.Machine.execFblt ra rb disp s
  | .fbge ra rb disp => Sys2Proof.Machine.execFbge ra rb disp s
  | .fbun ra rb disp => Sys2Proof.Machine.execFbun ra rb disp s
  | .bbs ra bit disp => Sys2Proof.Machine.execBbs ra bit disp s
  | .bbc ra bit disp => Sys2Proof.Machine.execBbc ra bit disp s
  | .beqi ra imm disp => Sys2Proof.Machine.execBeqi ra imm disp s
  | .bnei ra imm disp => Sys2Proof.Machine.execBnei ra imm disp s
  | .jmp t => Sys2Proof.Machine.execJmp t s
  | .call t => Sys2Proof.Machine.execCall t s
  | .jal rt ra t => Sys2Proof.Machine.execJal rt ra t s
  | .ret lr rt ra imm => Sys2Proof.Machine.execRet lr rt ra imm s
  | .brk user skip lvl cause long => Sys2Proof.Machine.execBrk user skip lvl cause long s
  | .brkReg user skip lvl ra long => Sys2Proof.Machine.execBrkReg user skip lvl ra long s
  | .pfi user => Sys2Proof.Machine.execPfi user s
  | .csrrd ol regno rt ra => Sys2Proof.Machine.execCsrrd ol regno rt ra s
  | .csrrw ol regno rt ra => Sys2Proof.Machine.execCsrrw ol regno rt ra s
  | .csrrs ol regno rt ra => Sys2Proof.Machine.execCsrrs ol regno rt ra s
  | .csrrc ol regno rt ra => Sys2Proof.Machine.execCsrrc ol regno rt ra s
  | .rex im pl tgt ra => Sys2Proof.Machine.execRex im pl tgt ra s
  | .sei rt ra m => Sys2Proof.Machine.execSei rt ra m s
  | .cli => Sys2Proof.Machine.execCli s
  | .wait ra rb imm => Sys2Proof.Machine.execWait ra rb imm s
  | .rti sema ra => Sys2Proof.Machine.execRti sema ra s
  | .vmovTo ct ra => Sys2Proof.Machine.execVmovTo ct ra s
  | .vmovFrom rt ca => Sys2Proof.Machine.execVmovFrom rt ca s
  | .tlb cmd tn rt ra => Sys2Proof.Machine.execTlb cmd tn rt ra s
  | .nop16 => Sys2Proof.Machine.execNop16 s
  | .addisp amt => Sys2Proof.Machine.execAddisp amt s
  | .addi16 rt amt => Sys2Proof.Machine.execAddi16 rt amt s
  | .ldi16 rt amt => Sys2Proof.Machine.execLdi16 rt amt s
  | .brk16 f5 => Sys2Proof.Machine.execBrk16 f5 s
  | .pfi16 => Sys2Proof.Machine.execPfi16 s
  | .andi16 rt amt => Sys2Proof.Machine.execAndi16 rt amt s
  | .ret16 amt => Sys2Proof.Machine.execRet16 amt s
  | .shli16 rt amt => Sys2Proof.Machine.execShli16 rt amt s
  | .shri16 q amt => Sys2Proof.Machine.execShri16 q amt s
  | .asri16 q amt => Sys2Proof.Machine.execAsri16 q amt s
  | .ori16 q amt => Sys2Proof.Machine.execOri16 q amt s
  | .sub16 q r => Sys2Proof.Machine.execSub16 q r s
  | .and16 q r => Sys2Proof.Machine.execAnd16 q r s
  | .or16 q r => Sys2Proof.Machine.execOr16 q r s
  | .xor16 q r => Sys2Proof.Machine.execXor16 q r s
  | .call16 addr => Sys2Proof.Machine.execCall16 addr s
  | .bra16 disp => Sys2Proof.Machine.execBra16 disp s
  | .beqz16 ra disp => Sys2Proof.Machine.execBeqz16 ra disp s
  | .bnez16 ra disp => Sys2Proof.Machine.execBnez16 ra disp s
  | .mov16 ra rt => Sys2Proof.Machine.execMov16 ra rt s
  | .add16 rt rb => Sys2Proof.Machine.execAdd16 rt rb s
  | .jalr16 ra rt => Sys2Proof.Machine.execJalr16 ra rt s
  | .push16 rb => Sys2Proof.Machine.execPush16 rb s
  | .lhSp rt d => Sys2Proof.Machine.execLhSp rt d s
  | .lwSp rt d => Sys2Proof.Machine.execLwSp rt d s
  | .lhFp rt d => Sys2Proof.Machine.execLhFp rt d s
  | .lwFp rt d => Sys2Proof.Machine.execLwFp rt d s
  | .shSp rb d => Sys2Proof.Machine.execShSp rb d s
  | .swSp rb d => Sys2Proof.Machine.execSwSp rb d s
  | .shFp rb d => Sys2Proof.Machine.execShFp rb d s
  | .swFp rb d => Sys2Proof.Machine.execSwFp rb d s
  | .lhPr r q d => Sys2Proof.Machine.execLhPr r q d s
  | .lwPr r q d => Sys2Proof.Machine.execLwPr r q d s
  | .shPr r q d => Sys2Proof.Machine.execShPr r q d s
  | .swPr r q d => Sys2Proof.Machine.execSwPr r q d s
  | .fadd rt ra rb f => Sys2Proof.Machine.execFadd rt ra rb f s
  | .fsub rt ra rb f => Sys2Proof.Machine.execFsub rt ra rb f s
  | .fcmp rt ra rb f => Sys2Proof.Machine.execFcmp rt ra rb f s
  | .fmul rt ra rb f => Sys2Proof.Machine.execFmul rt ra rb f s
  | .fdiv rt ra rb f => Sys2Proof.Machine.execFdiv rt ra rb f s
  | .fslt rt ra rb f => Sys2Proof.Machine.execFslt rt ra rb f s
  | .fsge rt ra rb f => Sys2Proof.Machine.execFsge rt ra rb f s
  | .fsle rt ra rb f => Sys2Proof.Machine.execFsle rt ra rb f s
  | .fsgt rt ra rb f => Sys2Proof.Machine.execFsgt rt ra rb f s
  | .fseq rt ra rb f => Sys2Proof.Machine.execFseq rt ra rb f s
  | .fsne rt ra rb f => Sys2Proof.Machine.execFsne rt ra rb f s
  | .fsun rt ra rb f => Sys2Proof.Machine.execFsun rt ra rb f s
  | .fmov rt ra prc rm long => Sys2Proof.Machine.execFmov rt ra prc rm long s
  | .ftoi rt ra prc rm long => Sys2Proof.Machine.execFtoi rt ra prc rm long s
  | .itof rt ra fromX prc rm long => Sys2Proof.Machine.execItof rt ra fromX prc rm long s
  | .fneg rt ra prc rm long => Sys2Proof.Machine.execFneg rt ra prc rm long s
  | .fabs rt ra prc rm long => Sys2Proof.Machine.execFabs rt ra prc rm long s
  | .fsign rt ra prc rm long => Sys2Proof.Machine.execFsign rt ra prc rm long s
  | .fnabs rt ra prc rm long => Sys2Proof.Machine.execFnabs rt ra prc rm long s
  | .fcvtsd rt ra prc rm long => Sys2Proof.Machine.execFcvtsd rt ra prc rm long s
  | .fsqrt rt ra prc rm long => Sys2Proof.Machine.execFsqrt rt ra prc rm long s
  | .ftx ra imm f => Sys2Proof.Machine.execFtx ra imm f s
  | .fcx ra imm f => Sys2Proof.Machine.execFcx ra imm f s
  | .fex ra imm f => Sys2Proof.Machine.execFex ra imm f s
  | .fdx ra imm f => Sys2Proof.Machine.execFdx ra imm f s
  | .fsync f => Sys2Proof.Machine.execFsync f s
  | .vcmprss fp len m vt va => Sys2Proof.Machine.execVcmprss fp len m vt va s
  | .vcidx fp len m vt ra => Sys2Proof.Machine.execVcidx fp len m vt ra s
  | .vscan fp len m vt ra => Sys2Proof.Machine.execVscan fp len m vt ra s
  | .vabs fp len m vt va => Sys2Proof.Machine.execVabs fp len m vt va s
  | .vadd fp len m vt va vb => Sys2Proof.Machine.execVadd fp len m vt va vb s
  | .vsub fp len m vt va vb => Sys2Proof.Machine.execVsub fp len m vt va vb s
  | .vand fp len m vt va vb => Sys2Proof.Machine.execVand fp len m vt va vb s
  | .vor fp len m vt va vb => Sys2Proof.Machine.execVor fp len m vt va vb s
  | .vxor fp len m vt va vb => Sys2Proof.Machine.execVxor fp len m vt va vb s
  | .vxchg fp len m va vb => Sys2Proof.Machine.execVxchg fp len m va vb s
  | .vshl fp len m vt va b => Sys2Proof.Machine.execVshl fp len m vt va b s
  | .vshr fp len m vt va b => Sys2Proof.Machine.execVshr fp len m vt va b s
  | .vasr fp len m vt va b => Sys2Proof.Machine.execVasr fp len m vt va b s
  | .vshlv fp len m vt va amt => Sys2Proof.Machine.execVshlv fp len m vt va amt s
  | .vshrv fp len m vt va amt => Sys2Proof.Machine.execVshrv fp len m vt va amt s
  | .vadds fp len m vt va rb => Sys2Proof.Machine.execVadds fp len m vt va rb s
  | .vsubs fp len m vt va rb => Sys2Proof.Machine.execVsubs fp len m vt va rb s
  | .vsubrs fp len m vt va rb => Sys2Proof.Machine.execVsubrs fp len m vt va rb s
  | .vands fp len m vt va rb => Sys2Proof.Machine.execVands fp len m vt va rb s
  | .vors fp len m vt va rb => Sys2Proof.Machine.execVors fp len m vt va rb s
  | .vxors fp len m vt va rb => Sys2Proof.Machine.execVxors fp len m vt va rb s
  | .vbits2v fp len m vt ra => Sys2Proof.Machine.execVbits2v fp len m vt ra s
  | .v2bits fp len m rt va => Sys2Proof.Machine.execV2bits fp len m rt va s
  | .veins fp len m vt ra rb => Sys2Proof.Machine.execVeins fp len m vt ra rb s
  | .vex fp len m rt ra vb => Sys2Proof.Machine.execVex fp len m rt ra vb s
  | .vflt2int fp len m vt va => Sys2Proof.Machine.execVflt2int fp len m vt va s
  | .vint2flt fp len m vt va => Sys2Proof.Machine.execVint2flt fp len m vt va s
  | .vsign fp len m vt va => Sys2Proof.Machine.execVsign fp len m vt va s
  | .vcntpop fp len m vt va => Sys2Proof.Machine.execVcntpop fp len m vt va s
  | .vmuls fp len m vt va rb => Sys2Proof.Machine.execVmuls fp len m vt va rb s
  | .vdivs fp len m vt va rb => Sys2Proof.Machine.execVdivs fp len m vt va rb s
  | .vmul fp len m vt va vb => Sys2Proof.Machine.execVmul fp len m vt va vb s
  | .vdiv fp len m vt va vb => Sys2Proof.Machine.execVdiv fp len m vt va vb s
  | .vneg fp len m vt va => Sys2Proof.Machine.execVneg fp len m vt va s
  | .vsxx fp len m cn mt va vb => Sys2Proof.Machine.execVsxx fp len m cn mt va vb s
  | .vsxxs fp len m cn mt va rb => Sys2Proof.Machine.execVsxxs fp len m cn mt va rb s
  | .vsxxu len m cn mt va vb => Sys2Proof.Machine.execVsxxu len m cn mt va vb s
  | .vsxxsu len m cn mt va rb => Sys2Proof.Machine.execVsxxsu len m cn mt va rb s
  | .vmand fp mt ma mb => Sys2Proof.Machine.execVmand fp mt ma mb s
  | .vmor fp mt ma mb => Sys2Proof.Machine.execVmor fp mt ma mb s
  | .vmxor fp mt ma mb => Sys2Proof.Machine.execVmxor fp mt ma mb s
  | .vmxnor fp mt ma mb => Sys2Proof.Machine.execVmxnor fp mt ma mb s
  | .vmpop fp rt ma => Sys2Proof.Machine.execVmpop fp rt ma s
  | .vmfill fp mt ra => Sys2Proof.Machine.execVmfill fp mt ra s
  | .vmfirst fp rt ma => Sys2Proof.Machine.execVmfirst fp rt ma s
  | .vmlast fp rt ma => Sys2Proof.Machine.execVmlast fp rt ma s
  | .vsync fp => Sys2Proof.Machine.execVsync fp s

end Sys2Proof.Machine
end

