-- ==== Sys2Proof/Machine/Level.lean ====
section
/-! DEFINITION. An instruction at its operating level: the order of a reserved encoding and a privilege violation
(60_exceptions R945) for the parameter USER_PRIV_FAULTS (45_system R630). -/

namespace Sys2Proof.Machine

/-- Whether an instruction is one that USER_PRIV_FAULTS forbids at operating level 3 (45_system R630, log 49). -/
def userForbidden (i : Instr) (s : State) : Bool := s.ol == 3 && s.cfg.userPrivFaults.contains i.mnemonic

/-- Whether an outcome is the exception of a reserved encoding: nothing else raises UNIMP (60_exceptions R986). -/
def isUnimp : Outcome → Bool
  | .next t => t.event == .raised && field t.csr.cause0 0 8 == causeUNIMP
  | _ => false

/-- Whether an instruction is a reserved encoding in a state: it would raise UNIMP under RESERVED_ENCODING = fault
(30_encoding R258). -/
def reservedIn (i : Instr) (s : State) : Bool :=
  isUnimp (exec i { s with event := .completed, cfg := { s.cfg with reservedFault := true } })

/-- The meaning with the level check: a reserved encoding comes before a privilege violation (60_exceptions R945). -/
def execAtLevel (i : Instr) (s : State) : Outcome :=
  if userForbidden i s && !reservedIn i s then .next (raise causePRIV s) else exec i s

end Sys2Proof.Machine
end

