-- ==== Sys2Proof/Machine/Step.lean ====
section
/-! DEFINITION. One step of the machine: 60_exceptions R945. The decoder is marked noncomputable (log 50), so the step is:
the kernel evaluates both. -/

namespace Sys2Proof.Machine

/-- An instruction word run in a state that is loaded with it: decode, the level check, the meaning. -/
noncomputable def runWord (w : Nat) (s : State) : Outcome :=
  match decodeNat s.cfg.fbccOpcode w with
  | .error _ => reserved s
  | .ok i => execAtLevel i s

/-- The word of a code buffer run in the place of its EXEC (45_system R670). -/
noncomputable def runBuffer (b : Word) (s : State) : Outcome :=
  match decodeNat s.cfg.fbccOpcode (bufferWord b) with
  | .error _ => reserved (s.loadBuffer b)
  | .ok i => if isExec i then reserved (s.loadBuffer b) else runWord (bufferWord b) (s.loadBuffer b)

/-- An instruction word, and the code buffer it hands on if it is EXEC. -/
noncomputable def runInstr (n w : Nat) (s : State) : Outcome :=
  match runWord w (s.load n w) with
  | .next t =>
    match t.pending with
    | none => .next t
    | some b => runBuffer b t
  | .fault x => .fault x
  | .refused r => .refused r

/-- The step before the free-running counters move (60_exceptions R945). -/
noncomputable def stepCore (s : State) : Outcome :=
  match modeRefusal s with
  | some r => .refused r
  | none =>
    if interruptPending s then .next (takeInterrupt s)
    else if instrMatches s != 0 then .next (raiseBare causeDBG (noteMatch (instrMatches s) s))
    else
      match fetch s with
      | .exc c s1 => .next (raiseBare c s1)
      | .ok nw s1 => mapNext (afterInstr (bitAt s.csr.dbcr 63)) (runInstr nw.1 nw.2 s1)

/-- One step: the Reset event if its input asks for it (70_reset_and_hazards R1020), else an interrupt, a trap or an
instruction. -/
noncomputable def step (s : State) : Outcome :=
  if s.resetPin then .next (resetEvent s) else mapNext envTick (stepCore s)

/-- The state with an instruction stored where the next step fetches it: at pc[39:0] on the bus (20_memory R152,
log 40). -/
def State.withFetchWord (s : State) (nbits w : Nat) : State :=
  placeWord s 6 (field s.pc 0 40).toNat (w % 2 ^ nbits)

end Sys2Proof.Machine
end

