-- ==== Sys2Proof/Safety.lean ====
section
/-! DEFINITION. What a safe run is, in the terms the claims use: the invariants that every step keeps, the kinds of
outcome, and the forms of a completion claim. Each form says what an instruction answers for every state that meets
hypotheses on the state alone, with a clause for each way it can end. -/

namespace Sys2Proof.Machine

/-- The state's data are in canonical form (20_memory R140; the model's own form): every store has rising keys and lists
no default value. -/
structure State.Canonical (s : State) : Prop where
  xs : StoreWf 0 s.xs
  v : StoreWf 0 s.v
  codebuf : StoreWf 0 s.csr.codebuf
  tlb : StoreWf tlbEntryZero s.tlb.entries
  refcnts : StoreWf 0 s.tlb.refcnts
  mapTab : StoreWf 0 s.mapTab
  tagEnable : StoreWf false s.tagEnable
  icacheStale : StoreWf none s.icacheStale
  mem : Memory.wf s.mem

/-- An outcome is a next state. -/
def isNext (o : Outcome) : Prop := ∃ t, o = .next t

/-- The instruction is a reserved encoding in this state: UNIMP, or nothing, by RESERVED_ENCODING (30_encoding R258). -/
def IsReserved (i : Instr) (s : State) : Prop :=
  exec i s = .next (if s.cfg.reservedFault then raise causeUNIMP s else s.advance)

/-- The instruction goes on to the next one with x[rt] = v and nothing else changed; where the stack bounds forbid the
value it takes the stack fault with nothing changed (60_exceptions R997). -/
def WritesX (i : Instr) (rt : RegNo) (v : State → Word) : Prop :=
  ∀ s : State,
    (stackFault s s.rs rt (v s) = false → exec i s = .next (s.setX rt (v s)).advance) ∧
    (stackFault s s.rs rt (v s) = true → exec i s = .next (raise causeSTK s))

/-- The same where a form exists only under a condition, and is reserved otherwise. -/
def WritesXWhen (ok : State → Bool) (i : Instr) (rt : RegNo) (v : State → Word) : Prop :=
  ∀ s : State,
    (ok s = true → stackFault s s.rs rt (v s) = false → exec i s = .next (s.setX rt (v s)).advance) ∧
    (ok s = true → stackFault s s.rs rt (v s) = true → exec i s = .next (raise causeSTK s)) ∧
    (ok s = false → IsReserved i s)

/-- A result with an arithmetic condition: the occurrence bit is set whenever the condition holds; the exception is taken
when it holds and is enabled (40_integer_alu R305, 60_exceptions R989). -/
def WritesXNoting (occurrence enable : Nat) (cause : BitVec 8) (i : Instr) (rt : RegNo) (happens : State → Bool)
    (v : State → Word) : Prop :=
  ∀ s : State,
    (happens s = false → stackFault s s.rs rt (v s) = false → exec i s = .next (s.setX rt (v s)).advance) ∧
    (happens s = false → stackFault s s.rs rt (v s) = true → exec i s = .next (raise causeSTK s)) ∧
    (happens s = true → bitAt s.csr.aec enable = false → stackFault s s.rs rt (v s) = false →
      exec i s = .next ((noteAec occurrence s).setX rt (v s)).advance) ∧
    (happens s = true → bitAt s.csr.aec enable = false → stackFault s s.rs rt (v s) = true →
      exec i s = .next (raise causeSTK (noteAec occurrence s))) ∧
    (happens s = true → bitAt s.csr.aec enable = true → exec i s = .next (raise cause (noteAec occurrence s)))

/-- A load of n bytes: the address checks answer, and x[rt] receives the value of the bytes; or they raise
(20_memory R150). -/
def LoadsX (i : Instr) (n : Nat) (rt : RegNo) (ea : State → Word) (val : Nat → Word) : Prop :=
  ∀ s : State,
    (∀ pa t, dataAccess (ea s) n .read s = .ok pa t → stackFault t t.rs rt (val (busRead t n pa)) = false →
      exec i s = .next (t.setX rt (val (busRead t n pa))).advance) ∧
    (∀ pa t, dataAccess (ea s) n .read s = .ok pa t → stackFault t t.rs rt (val (busRead t n pa)) = true →
      exec i s = .next (raise causeSTK t)) ∧
    (∀ c t, dataAccess (ea s) n .read s = .exc c t → exec i s = .next (raise c t))

/-- The same for a register of the floating-point set. -/
def LoadsF (i : Instr) (n : Nat) (rt : RegNo) (ea : State → Word) : Prop :=
  ∀ s : State,
    (∀ pa t, dataAccess (ea s) n .read s = .ok pa t → stackFault t t.fps rt (zeroBytes (busRead t n pa)) = false →
      exec i s = .next (t.setReg t.fps rt (zeroBytes (busRead t n pa))).advance) ∧
    (∀ pa t, dataAccess (ea s) n .read s = .ok pa t → stackFault t t.fps rt (zeroBytes (busRead t n pa)) = true →
      exec i s = .next (raise causeSTK t)) ∧
    (∀ c t, dataAccess (ea s) n .read s = .exc c t → exec i s = .next (raise c t))

/-- A store of the low n bytes of a value (20_memory R151). -/
def StoresTo (i : Instr) (n : Nat) (ea v : State → Word) : Prop :=
  ∀ s : State,
    (∀ pa t, dataAccess (ea s) n .write s = .ok pa t → exec i s = .next (memCommit n pa (v s).toNat t).advance) ∧
    (∀ c t, dataAccess (ea s) n .write s = .exc c t → exec i s = .next (raise c t))

/-- A store whose address goes to x[rt] (43_memory_ops R515). -/
def PushesTo (i : Instr) (rt : RegNo) (ea v : State → Word) : Prop :=
  ∀ s : State,
    (∀ pa t, dataAccess (ea s) 8 .write s = .ok pa t → stackFault t t.rs rt (ea s) = false →
      exec i s = .next ((memCommit 8 pa (v s).toNat t).setX rt (ea s)).advance) ∧
    (∀ pa t, dataAccess (ea s) 8 .write s = .ok pa t → stackFault t t.rs rt (ea s) = true →
      exec i s = .next (raise causeSTK t)) ∧
    (∀ c t, dataAccess (ea s) 8 .write s = .exc c t → exec i s = .next (raise c t))

/-- A read-modify-write of n bytes that returns the old value to x[rt] (43_memory_ops R550): reserved for size codes 4 to
7; otherwise both accesses are checked before memory changes. -/
def AtomicallyUpdates (i : Instr) (rt : RegNo) (ea : State → Word) (sz : BitVec 3)
    (f : State → (w : Nat) → BitVec w → BitVec w) : Prop :=
  ∀ s : State,
    (sz.toNat < 4 → ∀ pa t pa' t', dataAccess (ea s) (2 ^ sz.toNat) .read s = .ok pa t →
      dataAccess (ea s) (2 ^ sz.toNat) .write t = .ok pa' t' →
      stackFault t' t'.rs rt (sext64 (BitVec.ofNat (8 * 2 ^ sz.toNat) (busRead t (2 ^ sz.toNat) pa))) = false →
      exec i s = .next ((memCommit (2 ^ sz.toNat) pa'
        (f s (8 * 2 ^ sz.toNat) (BitVec.ofNat (8 * 2 ^ sz.toNat) (busRead t (2 ^ sz.toNat) pa))).toNat t').setX rt
          (sext64 (BitVec.ofNat (8 * 2 ^ sz.toNat) (busRead t (2 ^ sz.toNat) pa)))).advance) ∧
    (sz.toNat < 4 → ∀ c t, dataAccess (ea s) (2 ^ sz.toNat) .read s = .exc c t → exec i s = .next (raise c t)) ∧
    (sz.toNat < 4 → ∀ pa t c t', dataAccess (ea s) (2 ^ sz.toNat) .read s = .ok pa t →
      dataAccess (ea s) (2 ^ sz.toNat) .write t = .exc c t' → exec i s = .next (raise c t')) ∧
    (4 ≤ sz.toNat → IsReserved i s)

/-- A conditional branch: not taken it goes on; taken, with a displacement that is not 0, it goes to its target
(44_flow_control R580, R582). -/
def BranchesTo (i : Instr) (zero : Prop) (taken : State → Bool) (target : State → Word) : Prop :=
  ∀ s : State,
    (taken s = false → exec i s = .next s.advance) ∧
    (taken s = true → ¬zero → exec i s = .next (s.setPc (target s)))

/-- A branch on a floating-point condition: the same with a floating-point unit, reserved without (44_flow_control R597,
47_float R802). -/
def FpBranchesTo (i : Instr) (zero : Prop) (taken : State → Bool) (target : State → Word) : Prop :=
  ∀ s : State,
    (s.cfg.numFpu ≠ 0 → taken s = false → exec i s = .next s.advance) ∧
    (s.cfg.numFpu ≠ 0 → taken s = true → ¬zero → exec i s = .next (s.setPc (target s))) ∧
    (s.cfg.numFpu = 0 → IsReserved i s)

/-- A conditional branch to itself: taken it raises BD at its own address; not taken it goes on (44_flow_control R581). -/
def RaisesBd (i : Instr) (ok : State → Prop) (taken : State → Bool) : Prop :=
  ∀ s : State, ok s →
    (taken s = true → exec i s = .next (raise causeBD s)) ∧ (taken s = false → exec i s = .next s.advance)

/-- x[rt] receives a value and control goes to an address, both read before the write. -/
def LinksTo (i : Instr) (rt : RegNo) (v target : State → Word) : Prop :=
  ∀ s : State,
    (stackFault s s.rs rt (v s) = false → exec i s = .next ((s.setX rt (v s)).setPc (target s))) ∧
    (stackFault s s.rs rt (v s) = true → exec i s = .next (raise causeSTK s))

/-- The second operations with their codes (40_integer_alu R320). -/
def secondOps : List (Nat × LaneFn2) :=
  [(0x00, fun _ t _ => t), (0x3D, fun _ t _ => t), (0x04, fun _ t c => t + c), (0x05, fun _ t c => t - c),
   (0x08, fun _ t c => t &&& c), (0x09, fun _ t c => t ||| c), (0x0A, fun _ t c => t ^^^ c),
   (0x06, fun _ t c => if t.slt c then 1 else 0), (0x07, fun _ t c => if t.ult c then 1 else 0),
   (0x0B, fun _ t c => if t = c then 1 else 0), (0x20, fun _ t _ => ~~~t), (0x21, fun _ t _ => if t = 0 then 1 else 0)]

/-- FSTAT after a floating-point result whose conditions are not trapped (47_float R768). -/
def fstatAfter (status : FpResult → BitVec 7) (r : FpResult) (w : Word) : Word :=
  setField (fstatNote w r.exc r.types) 16 (status r)

/-- A floating-point operation whose result goes to f[rt] (47_float R768): the flags are noted; an enabled condition takes
FLT with the target unchanged; otherwise the result and its status are written. -/
def FpWrites (ok : State → Bool) (i : Instr) (rt : RegNo) (status : FpResult → BitVec 7) (r : State → FpResult) : Prop :=
  ∀ s : State,
    let t := s.withFstat (fstatNote s.csr.fstat (r s).exc (r s).types)
    (s.cfg.numFpu ≠ 0 → ok s = true → (r s).exc &&& field t.csr.fstat 24 5 = 0 →
      stackFault t t.fps rt (r s).bits = false →
      exec i s = .next ((t.setReg t.fps rt (r s).bits).withFstat (fstatAfter status (r s) s.csr.fstat)).advance) ∧
    (s.cfg.numFpu ≠ 0 → ok s = true → (r s).exc &&& field t.csr.fstat 24 5 = 0 →
      stackFault t t.fps rt (r s).bits = true → exec i s = .next (raise causeSTK t)) ∧
    (s.cfg.numFpu ≠ 0 → ok s = true → (r s).exc &&& field t.csr.fstat 24 5 ≠ 0 → exec i s = .next (raise causeFLT t)) ∧
    ((s.cfg.numFpu = 0 ∨ ok s = false) → IsReserved i s)

/-- A floating-point comparison whose result goes to x[rt] (47_float R775 to R780). -/
def FpCompares (ok : State → Bool) (i : Instr) (rt : RegNo) (r : State → FpResult) : Prop :=
  ∀ s : State,
    let t := s.withFstat (fstatNote s.csr.fstat (r s).exc (r s).types)
    (s.cfg.numFpu ≠ 0 → ok s = true → (r s).exc &&& field t.csr.fstat 24 5 = 0 →
      stackFault t t.rs rt (r s).bits = false → exec i s = .next (t.setX rt (r s).bits).advance) ∧
    (s.cfg.numFpu ≠ 0 → ok s = true → (r s).exc &&& field t.csr.fstat 24 5 = 0 →
      stackFault t t.rs rt (r s).bits = true → exec i s = .next (raise causeSTK t)) ∧
    (s.cfg.numFpu ≠ 0 → ok s = true → (r s).exc &&& field t.csr.fstat 24 5 ≠ 0 → exec i s = .next (raise causeFLT t)) ∧
    ((s.cfg.numFpu = 0 ∨ ok s = false) → IsReserved i s)

/-- A sign operation or move in the floating-point set (47_float R785 to R789): no flag changes. -/
def FpMoves (ok : State → Bool) (i : Instr) (rt : RegNo) (v : State → Word) : Prop :=
  ∀ s : State,
    (s.cfg.numFpu ≠ 0 → ok s = true → stackFault s s.fps rt (v s) = false →
      exec i s = .next (s.setReg s.fps rt (v s)).advance) ∧
    (s.cfg.numFpu ≠ 0 → ok s = true → stackFault s s.fps rt (v s) = true → exec i s = .next (raise causeSTK s)) ∧
    ((s.cfg.numFpu = 0 ∨ ok s = false) → IsReserved i s)

/-- An element that an element loop processes: below VL, and enabled by mask register m (48_vector R843). -/
def enabled (s : State) (m : BitVec 3) (e : Nat) : Bool := decide (e < min s.vl.toNat 63) && bitAt (s.mask m) e

/-- The vector unit is there, the form is one it has, and the registers named exist (48_vector R840, R842, R847). -/
def vecReady (s : State) (ok : Bool) (rs : List RegNo) : Bool := s.cfg.supVector && ok && vregsOk s rs

/-- The elements of vt selected by a predicate receive g; no other element of any register changes. -/
def VecElems (s t : State) (vt : RegNo) (sel : Nat → Bool) (g : Nat → Word) : Prop :=
  (∀ e < 64, t.vec vt e = if sel e then g e else s.vec vt e) ∧
  ∀ r, r ≠ vt → ∀ e < 64, t.vec r e = s.vec r e

/-- An instruction that writes selected elements of vt and nothing else (48_vector R843, R845); reserved where the form
does not exist. -/
def VecWrites (ok : State → Bool) (i : Instr) (vt : RegNo) (sel : State → Nat → Bool) (g : State → Nat → Word) : Prop :=
  ∀ s : State,
    (ok s = true → StoreWf 0 s.v →
      ∃ t, exec i s = .next t ∧ VecElems s t vt (sel s) (g s) ∧ { t with v := s.v } = s.advance) ∧
    (ok s = false → IsReserved i s)

/-- FSTAT after the enabled elements in ascending order, each with its flags noted, then f applied (48_vector R846). -/
def vecFstat (s : State) (m : BitVec 3) (r : Nat → FpResult) (f : FpResult → Word → Word) : Word :=
  (List.range (min s.vl.toNat 63)).foldl (fun w e => if bitAt (s.mask m) e then f (r e) w else w) s.csr.fstat

/-- An element-wise floating-point instruction with no exception enabled: the enabled elements receive the results and
FSTAT gathers the conditions (48_vector R845, R846). -/
def VecFpWrites (ok : State → Bool) (i : Instr) (m : BitVec 3) (vt : RegNo) (status : FpResult → BitVec 7)
    (r : State → Nat → FpResult) : Prop :=
  ∀ s : State,
    (ok s = true → StoreWf 0 s.v → field s.csr.fstat 24 5 = 0 →
      ∃ t, exec i s = .next t ∧ VecElems s t vt (enabled s m) (fun e => (r s e).bits) ∧
        { t with v := s.v } = (s.withFstat (vecFstat s m (r s) (fstatAfter status))).advance) ∧
    (ok s = false → IsReserved i s)

/-- The checks of a data access pass with no memory management: aligned, no debug match armed, and memory answers, no
device (20_memory R150). -/
def AccessOk (s : State) (ea : Word) (n : Nat) (k : AccessKind) : Prop :=
  s.cfg.mmuKind = .none ∧ (s.cfg.supportDbg = false ∨ field s.csr.dbcr 0 4 = 0) ∧ ea.toNat % n = 0 ∧
    busAllOk s.cfg k n (ea.toNat % 2 ^ s.cfg.paBits) = true ∧ anyDevice s.cfg n (ea.toNat % 2 ^ s.cfg.paBits) = false

/-- A vector load of the elements that mask register 0 enables (48_vector R850). -/
def VecLoads (ok : State → Bool) (i : Instr) (vt : RegNo) (ea : State → Nat → Word) : Prop :=
  ∀ s : State,
    (ok s = true → StoreWf 0 s.v → (∀ e, enabled s 0 e = true → AccessOk s (ea s e) 8 .read) →
      ∃ t, exec i s = .next t ∧
        VecElems s t vt (enabled s 0) (fun e => zeroBytes (busRead s 8 ((ea s e).toNat % 2 ^ s.cfg.paBits))) ∧
        { t with v := s.v } = s.advance) ∧
    (ok s = false → IsReserved i s)

/-- A vector store of the elements that mask register 0 enables, in ascending order (48_vector R850). -/
def VecStores (ok : State → Bool) (i : Instr) (vb : RegNo) (ea : State → Nat → Word) : Prop :=
  ∀ s : State,
    (ok s = true → (∀ e, enabled s 0 e = true → AccessOk s (ea s e) 8 .write) →
      exec i s = .next ((List.range (min s.vl.toNat 63)).foldl (fun t e =>
        if bitAt (s.mask 0) e then
          memCommit 8 ((ea s e).toNat % 2 ^ s.cfg.paBits) (s.vec vb e).toNat t
        else t) s).advance) ∧
    (ok s = false → IsReserved i s)

/-- An instruction that writes selected bits of mask register mt and nothing else but FSTAT, which becomes w. -/
def MaskBits (s t : State) (mt : BitVec 3) (sel : Nat → Bool) (g : Nat → Bool) (w : Word) : Prop :=
  (∀ e < 64, bitAt (t.mask mt) e = if sel e then g e else bitAt (s.mask mt) e) ∧
  (∀ k, k ≠ mt → t.mask k = s.mask k) ∧ { t with vm := s.vm } = (s.withFstat w).advance

/-- The bits of a control and status register that a write of the machine level reaches; none where the register has no
storage that an instruction writes (10_state R42, 45_system R640). -/
def csrWritable (n : Nat) : Option Word :=
  if n ∈ [0x000, 0x003, 0x004, 0x005, 0x007, 0x008, 0x009, 0x00A, 0x00B, 0x00C, 0x00D, 0x00E, 0x010, 0x011, 0x018, 0x019,
      0x01A, 0x01B, 0x01C, 0x01D, 0x02C, 0x030, 0x031, 0x032, 0x033, 0x042, 0x048, 0x049, 0x04A, 0x04B, 0x04C, 0x04D,
      0x04E, 0x04F] then some 0xFFFFFFFFFFFFFFFF
  else if 0x080 ≤ n ∧ n < 0x0C0 then some 0xFFFFFFFFFFFFFFFF
  else if n = 0x006 then some 0xFFFF
  else if n = 0x014 then some 0x00000FFFFFFFFFFF
  else if n = 0x040 ∨ n = 0x041 then some 0xFFFFFFFF
  else if n = 0x043 ∨ n = 0x046 then some 0x0000FFFFFFFFFFFF
  else if n = 0x044 then some 0xFFFFFFFFF0FFFFFF
  else none

end Sys2Proof.Machine
end

