-- ==== Sys2Proof/Certificates/Slice0/Obligations.lean ====
section
/-! DEFINITION. The statements for the provers. Each docstring names the rules it formalises; what rests on a choice of the
model names its assumption log entry. -/

open Sys2Proof Sys2Proof.Machine

/-- Decoding the encoding of any well-formed instruction gives it back (30_encoding R220, 30_encoding R221, 30_encoding
R243, 30_encoding R255, 46_compressed R700). What an opcode means that the map assigns and FBCC_OPCODE takes is the
choice of the model, and outside this statement: assumption log 43. -/
def Obligations.EncodedInstructionDecodesToItself : Prop :=
  ∀ (fb : BitVec 6) (i : Instr) (rest : List Byte), blankMajor fb = true → i.wellFormed = true →
    decode fb (encode fb i ++ rest) = .ok (i, rest)

/-- Whatever the decoder answers is a well-formed instruction (30_encoding R221, 30_encoding R242, 30_encoding R256,
30_encoding R264). -/
def Obligations.DecodedInstructionIsWellFormed : Prop :=
  ∀ (fb : BitVec 6) (w : Nat) (i : Instr), decodeNat fb w = .ok i → i.wellFormed = true

/-- Words printed in the spec decode to the instructions they are printed for, with their lengths (95_test_vectors part
2, 30_encoding R220). -/
def Obligations.WordsOfTheSpecDecode : Prop :=
  decodeNat 0x10 0x13886102 = .ok (.add 3 1 2 7) ∧
  decodeNat 0x10 0xFFFC2204 = .ok (.addi 1 2 (.short (-1))) ∧
  decodeNat 0x10 0x48D159E02244 = .ok (.addi 1 2 (.long 0x12345678)) ∧
  decodeNat 0x10 0x7C106102 = .ok (.shlImm 3 1 36) ∧
  decodeNat 0x10 0x500101050862 = .ok (.bfext 2 4 1 8 8) ∧
  decodeNat 0x10 0xEB886102 = .ok (.mul 3 1 2 7) ∧
  decodeNat 0x10 0x00502220 = .ok (.lw 1 2 (.short 16)) ∧
  decodeNat 0x10 0x01080130 = .ok (.beq 1 2 8) ∧
  decodeNat 0x10 0x0040F000 = .ok (.brk 0 2 0 240 false) ∧
  decodeNat 0x10 0x40C00505 = .ok (.csrrw 0 0x030 0 5) ∧
  decodeNat 0x10 0x0FA5 = .ok (.addi16 5 (-1)) ∧
  decodeNat 0x10 0x1388610F = .ok (.fadd 3 1 2 (.short 7)) ∧
  decodeNat 0x10 0x108C4131 = .ok (.vadd false .short 1 2 1 3) ∧
  ∀ b : Byte, lengthOf b.toNat =
    if field b 6 2 = 0 then 4 else if field b 6 2 = 1 then 6 else 2

/-- A step at a decodable word is exec of the instruction, with what the step adds around it (60_exceptions R945,
60_exceptions R991, 45_system R630, 45_system R670, 30_encoding R258, 10_state R67). What moves by itself is the
choice of the model: assumption log 11, 16 and 36; what counts as a reserved encoding before the privilege check:
assumption log 49. -/
def Obligations.StepRunsTheDecodedInstruction : Prop :=
  ∀ (s s1 : State) (n w : Nat), s.resetPin = false → modeRefusal s = none → interruptPending s = false →
    instrMatches s = 0 → fetch s = .ok (n, w) s1 →
    let after (o : Outcome) : Outcome :=
      mapNext envTick (mapNext (afterInstr (bitAt s.csr.dbcr 63))
        (match o with
          | .next t => (match t.pending with
            | none => .next t
            | some b => runBuffer b t)
          | .fault x => .fault x
          | .refused r => .refused r))
    (∀ i, decodeNat s1.cfg.fbccOpcode w = .ok i →
      (userForbidden i (s1.load n w) = false ∨ reservedIn i (s1.load n w) = true) →
      step s = after (exec i (s1.load n w))) ∧
    (∀ e, decodeNat s1.cfg.fbccOpcode w = .error e → step s = after (reserved (s1.load n w))) ∧
    (∀ i, decodeNat s1.cfg.fbccOpcode w = .ok i →
      userForbidden i (s1.load n w) = true → reservedIn i (s1.load n w) = false →
      step s = after (.next (raise causePRIV (s1.load n w))))

/-- No instruction but EXEC hands a code buffer on to the step (45_system R670). That a code buffer goes through a field
of State is the choice of the model: assumption log 50. -/
def Obligations.OnlyExecHandsOnABuffer : Prop :=
  ∀ (i : Instr) (s : State), s.pending = none →
    (isExec i = false → ∀ t, exec i s = .next t → t.pending = none) ∧
    (∀ n : BitVec 6, exec (.execBuf n) s = .next { s with pending := some (storeGet 0 s.csr.codebuf n.toNat) })

/-- Fetch answers the instruction whose bytes lie at the program counter, low byte first (20_memory R141, 20_memory
R152, 20_memory R196, 30_encoding R220, 10_state R37). -/
def Obligations.FetchReadsLittleEndianBytes : Prop :=
  ∀ s : State, s.cfg.mmuKind = .none → s.cfg.icacheCoherent = true → s.cfg.paBits ≤ 40 →
    let pa := (field s.pc 0 40).toNat % 2 ^ s.cfg.paBits
    let n := lengthOf (busByte s pa).toNat
    busAllOk s.cfg .exec n pa = true → fetch s = .ok (n, busRead s n pa) s

/-- EXEC runs the buffered instruction in its own place (45_system R670, 30_encoding R258). That a code buffer goes
through a field of State is the choice of the model: assumption log 50; what counts as a reserved encoding before
the privilege check: assumption log 49. -/
def Obligations.ExecRunsTheBufferedWord : Prop :=
  ∀ (s s1 : State) (w : Nat) (n : BitVec 6), s.resetPin = false → modeRefusal s = none → interruptPending s = false →
    instrMatches s = 0 → fetch s = .ok (4, w) s1 → decodeNat s1.cfg.fbccOpcode w = .ok (.execBuf n) →
    userForbidden (.execBuf n) (s1.load 4 w) = false →
    let fb := s1.cfg.fbccOpcode
    let b := bufferWord (storeGet 0 s1.csr.codebuf n.toNat)
    let after (o : Outcome) : Outcome := mapNext envTick (mapNext (afterInstr (bitAt s.csr.dbcr 63)) o)
    (∀ j, decodeNat fb b = .ok j → isExec j = false →
      (userForbidden j (s1.load 4 b) = false ∨ reservedIn j (s1.load 4 b) = true) →
      step s = after (exec j (s1.load 4 b))) ∧
    (∀ j, decodeNat fb b = .ok j → isExec j = false → userForbidden j (s1.load 4 b) = true →
      reservedIn j (s1.load 4 b) = false → step s = after (.next (raise causePRIV (s1.load 4 b)))) ∧
    (∀ e, decodeNat fb b = .error e → step s = after (reserved (s1.load 4 b))) ∧
    (∀ m, decodeNat fb b = .ok (.execBuf m) → step s = after (reserved (s1.load 4 b)))

/-- An interrupt above the mask, then an instruction-address match, is taken before the instruction (60_exceptions R951,
60_exceptions R952, 60_exceptions R990, 60_exceptions R991, 60_exceptions R980). That the single-step trap writes
BAD_INSTR, and which instructions it follows, are the choice of the model: assumption log 37. -/
def Obligations.InterruptsAndDebugTrapsPrecedeTheInstruction : Prop :=
  (∀ s : State, s.resetPin = false → modeRefusal s = none →
    (s.im.ult s.irqLevel = true →
      step s = .next (envTick (trapEnter (1#1 ++ field s.irqCause 0 7 : BitVec 8) 0 s.irqLevel s.pc s))) ∧
    (s.im.ult s.irqLevel = false → s.cfg.supportDbg = true → matchBits (instrMatch s.csr s.pc) ≠ 0 →
      step s = .next (envTick (raiseBare causeDBG (noteMatch (matchBits (instrMatch s.csr s.pc)) s)))) ∧
    (s.im.ult s.irqLevel = false → instrMatches s = 0 → ∀ c t, fetch s = .exc c t →
      step s = .next (envTick (raiseBare c t)))) ∧
  (∀ s : State, s.cfg.supportDbg = true → s.event = .completed →
    singleStep true s = trapEnter causeSSM 0 0 s.pc (noteInstr s) ∧ singleStep false s = s)

/-- Every step keeps every store of the machine in canonical form (20_memory R140, 10_state R20, 10_state R32). -/
def Obligations.StepKeepsCanonicalForm : Prop :=
  ∀ s t : State, s.Canonical → step s = .next t → t.Canonical

/-- No step makes the vector length exceed the number of elements (10_state R35, 48_vector R900). -/
def Obligations.StepKeepsVectorLengthInRange : Prop :=
  ∀ s t : State, s.vl.toNat ≤ 63 → step s = .next t → t.vl.toNat ≤ 63

/-- The state after reset meets the invariants that every step keeps (20_memory R140, 10_state R35, 70_reset_and_hazards
R1021). -/
def Obligations.ResetMeetsTheInvariants : Prop :=
  State.reset.Canonical ∧ State.reset.vl.toNat ≤ 63

/-- Reset, at the start and at any later time, leaves the values the spec states, and by D13 the ones it fixes; memory
stays (10_state R74, 70_reset_and_hazards R1020, 70_reset_and_hazards R1021, 20_memory R160, 20_memory R168). The
values of D13 are model values of the spec, assumption log 3 and 7; what the Reset event keeps is in assumption log
42. -/
def Obligations.ResetStateHasTheSpecsValues : Prop :=
  let values (r : State) : Prop :=
    (r.pc = 0xFFFFFFFFFFFC0100 ∧ r.rs = 0 ∧ field r.csr.status 56 5 = (0 : BitVec 5) ∧
      bitAt r.csr.cr0 16 = false ∧ bitAt r.csr.cr0 34 = false ∧ bitAt r.csr.cr0 35 = false ∧ bitAt r.csr.cr0 36 = false ∧
      (∀ k : BitVec 3, r.mask k = 0xFFFFFFFFFFFFFFFF) ∧
      r.ctr.tick = 0 ∧ r.ctr.iqCtr = 0 ∧ r.ctr.bmCtr = 0 ∧ r.ctr.irqCtr = 0 ∧ r.ctr.brCtr = 0 ∧ r.ctr.instret = 0 ∧
      r.csr.wrs = 15 ∧ r.tlb.enabled = false ∧ r.tlb.afc = 20000) ∧
    (r.resvValid = false ∧ r.ol = 0 ∧ r.pl = 0 ∧ r.dl = 0 ∧ r.im = 15 ∧ bitAt r.csr.status 55 = false ∧ r.csr.pcr = 0 ∧
      r.csr.dbcr = 0)
  values State.reset ∧
  ∀ s : State, s.resetPin = true →
    ∃ r, step s = .next r ∧ values r ∧ r.mem = s.mem ∧ r.cfg = s.cfg ∧ r.ctr.tmClk = s.ctr.tmClk ∧
      r.csr.epc = State.reset.csr.epc ∧ r.csr.cause0 = State.reset.csr.cause0

/-- An instruction run at operating level 3 stays there or enters a trap at its vector (60_exceptions R960,
60_exceptions R961, 45_system R630, 45_system R640, 45_system R650, 45_system R655). -/
def Obligations.UserLevelIsLeftOnlyByATrap : Prop :=
  ∀ (i : Instr) (s t : State), s.ol = 3 → exec i s = .next t →
    t.csr.tvec = s.csr.tvec ∧ (t.ol = 3 ∨ (t.ol = 0 ∧ t.pc = vectorFor s.csr.tvec.r0 3))

/-- Only MOV reaches a register set that is neither the current nor the floating-point set (10_state R22, 10_state R27,
10_state R30, 40_integer_alu R360). -/
def Obligations.OtherRegisterSetsAreUntouched : Prop :=
  ∀ (i : Instr) (s t : State), (∀ d q rt ra, i ≠ .mov d q rt ra) → exec i s = .next t →
    ∀ (q : BitVec 6) (r : RegNo), q ≠ s.rs → q ≠ s.fps → t.reg q r = s.reg q r

/-- Register 0 of every set reads 0 and discards writes; the other effects still happen (R21). -/
def Obligations.RegisterZeroReadsZeroAndDiscardsWrites : Prop :=
  (∀ (s : State) (q : BitVec 6) (v : Word), s.reg q 0 = 0 ∧ s.setReg q 0 v = s ∧ s.x 0 = 0 ∧ s.setX 0 v = s) ∧
  (∀ (s : State) (ra rb : RegNo) (sz : BitVec 3), exec (.add 0 ra rb sz) s = .next s.advance) ∧
  (∀ (s : State) (ra : RegNo) (d : Imm),
    ((eaDisp s ra d).toNat % 8 ≠ 0 → exec (.lw 0 ra d) s = .next (raise causeALN (noteAddr (eaDisp s ra d) s))) ∧
    (∀ pa t, dataAccess (eaDisp s ra d) 8 .read s = .ok pa t → exec (.lw 0 ra d) s = .next t.advance))

/-- Taking a trap saves what it interrupts, sets the status and goes to the vector (60_exceptions R960, 60_exceptions
R961, 60_exceptions R962, 60_exceptions R991, 00_scope R11, 10_state R65, 10_state R43, 10_state R58, 10_state R61).
What debug mode is, is free: assumption log 53; that BRS_STACK takes STATUS.RS is the reading of the model:
assumption log 23; the direction of the single-step history is decision D101 of the spec. -/
def Obligations.TrapEntrySavesAndSwitches : Prop :=
  (∀ (c : BitVec 8) (u : BitVec 6) (il : BitVec 4) (ret : Word) (s : State),
    let t := trapEnter c u il ret s
    (t.csr.epc.r0 = ret ∧ t.csr.epc.r1 = s.csr.epc.r0 ∧ t.csr.epc.r2 = s.csr.epc.r1 ∧ t.csr.epc.r3 = s.csr.epc.r2 ∧
      t.csr.epc.r4 = s.csr.epc.r3 ∧ t.csr.epc.r5 = s.csr.epc.r4 ∧ t.csr.epc.r6 = s.csr.epc.r5 ∧
      t.csr.epc.r7 = s.csr.epc.r6) ∧
    (field t.csr.imStack 0 4 = s.im ∧ field t.csr.imStack 4 28 = field s.csr.imStack 0 28) ∧
    (field t.csr.olStack 0 2 = s.ol ∧ field t.csr.olStack 2 14 = field s.csr.olStack 0 14) ∧
    (field t.csr.olStack 16 2 = s.dl ∧ field t.csr.olStack 18 14 = field s.csr.olStack 16 14) ∧
    (field t.csr.plStack 0 8 = s.pl ∧ field t.csr.plStack 8 56 = field s.csr.plStack 0 56) ∧
    (field t.csr.rsStack 0 6 = s.rs ∧ field t.csr.rsStack 6 42 = field s.csr.rsStack 0 42) ∧
    (field t.csr.brsStack 0 6 = s.rs ∧ field t.csr.brsStack 6 42 = field s.csr.brsStack 0 42) ∧
    (bitAt t.csr.dbcr 63 = false ∧ bitAt t.csr.dbcr 55 = bitAt s.csr.dbcr 63 ∧
      field t.csr.dbcr 56 7 = field s.csr.dbcr 55 7 ∧ field t.csr.dbcr 0 55 = field s.csr.dbcr 0 55) ∧
    field t.csr.cause0 0 8 = c ∧ field t.csr.cause0 8 6 = u ∧
    t.ol = 0 ∧ t.pl = 0 ∧ t.dl = 0 ∧
    (il = 0 → t.im = s.im ∧ t.rs = 0) ∧
    (il ≠ 0 → t.im = il ∧ field t.csr.status 28 4 = il ∧ t.rs = BitVec.ofNat 6 (s.cfg.irqRsScale * il.toNat)) ∧
    (il = 0 → t.csr.cr0 = s.csr.cr0) ∧ field t.csr.cr0 0 63 = field s.csr.cr0 0 63 ∧
    (il ≠ 0 → s.cfg.supportDbg = false → bitAt t.csr.cr0 63 = false) ∧
    t.vca = s.vchain ∧ t.vchain = false ∧ bitAt t.csr.sema 0 = false ∧ t.resvValid = false ∧
    t.pc = vectorFor s.csr.tvec.r0 s.ol ∧
    t.xs = s.xs ∧ t.v = s.v ∧ t.vm = s.vm ∧ t.mem = s.mem ∧ t.csr.tvec = s.csr.tvec ∧ t.csr.fstat = s.csr.fstat ∧
      t.csr.aec = s.csr.aec) ∧
  (∀ (c : BitVec 8) (s : State),
    (raise c s).csr.badInstr = s.ir ∧ (raise c s).csr.epc.r0 = s.pc ∧ field (raise c s).csr.cause0 0 8 = c ∧
      (raise c s).pc = vectorFor s.csr.tvec.r0 s.ol)

/-- The vector is TVEC[0] with its low eight bits cleared plus 32 times the old level (R961). -/
def Obligations.TrapVectorIsTvecZeroPlusLevel : Prop :=
  (∀ (c : BitVec 8) (u : BitVec 6) (il : BitVec 4) (ret : Word) (s : State),
    (trapEnter c u il ret s).pc = (s.csr.tvec.r0 &&& 0xFFFFFFFFFFFFFF00) + 0x20 * zext64 s.ol ∧
    ∀ (c' : BitVec 8) (low : BitVec 8) (w1 w2 w3 : Word),
      (trapEnter c' u il ret { s with csr := { s.csr with tvec :=
        { r0 := setField s.csr.tvec.r0 0 low, r1 := w1, r2 := w2, r3 := w3 } } }).pc = (trapEnter c u il ret s).pc) ∧
  vectorFor 0xFFFFFFFFFFFC00FF 0 = 0xFFFFFFFFFFFC0000 ∧ vectorFor 0xFFFFFFFFFFFC00FF 1 = 0xFFFFFFFFFFFC0020 ∧
  vectorFor 0xFFFFFFFFFFFC00FF 2 = 0xFFFFFFFFFFFC0040 ∧ vectorFor 0xFFFFFFFFFFFC00FF 3 = 0xFFFFFFFFFFFC0060

/-- Returning from a trap just entered restores the interrupted context (60_exceptions R960, 60_exceptions R975,
60_exceptions R976, 60_exceptions R991, 10_state R58, 10_state R61, 10_state R65). That BRS_STACK takes STATUS.RS is
the reading of the model: assumption log 23; the direction of the single-step history is decision D101 of the spec. -/
def Obligations.TrapReturnUndoesTrapEntry : Prop :=
  ∀ (c : BitVec 8) (u : BitVec 6) (il : BitVec 4) (ret : Word) (s : State),
    let t := trapReturn (trapEnter c u il ret s)
    t.pc = ret ∧ t.im = s.im ∧ t.ol = s.ol ∧ t.dl = s.dl ∧ t.pl = s.pl ∧ t.rs = s.rs ∧ t.vchain = s.vchain ∧
    t.csr.epc = { s.csr.epc with r7 := vectorFor s.csr.tvec.r0 0 } ∧
    t.csr.imStack = setField s.csr.imStack 28 (7 : BitVec 4) ∧
    t.csr.olStack = setField (setField s.csr.olStack 14 (0 : BitVec 2)) 30 (0 : BitVec 2) ∧
    t.csr.plStack = setField s.csr.plStack 56 (0 : BitVec 8) ∧
    t.csr.rsStack = setField s.csr.rsStack 42 (8 : BitVec 6) ∧
    t.csr.brsStack = setField s.csr.brsStack 42 (8 : BitVec 6) ∧
    t.csr.dbcr = setBitAt s.csr.dbcr 62 false

/-- BRK in every form and PFI with a request take their trap; PFI without one goes on (45_system R631, 45_system R633,
46_compressed R720, 46_compressed R721, 60_exceptions R962). -/
def Obligations.BreakAndPollTakeTheirTrap : Prop :=
  ∀ (s : State) (user : BitVec 6) (skip : BitVec 5) (lvl : BitVec 4) (cause : BitVec 8) (long : Bool) (ra : RegNo)
    (f5 : BitVec 5),
    let enters (c : BitVec 8) (u : BitVec 6) (l : BitVec 4) (ret : Word) : Outcome :=
      .next { trapEnter c u l ret (noteInstr s) with event := .entered }
    let polls (o : Outcome) : Prop :=
      (pollHit s = false → o = .next s.advance) ∧
      (pollHit s = true → o = enters (1#1 ++ field s.irqCause 0 7 : BitVec 8) 0 s.irqLevel s.nextPc)
    (cause ≠ 255 → exec (.brk user skip lvl cause long) s = enters cause user lvl (pcPlus s.pc (2 * skip.toNat))) ∧
    polls (exec (.brk user skip lvl 255 long) s) ∧
    exec (.brkReg user skip lvl ra long) s = enters (field (s.x ra) 0 8) user lvl (pcPlus s.pc (2 * skip.toNat)) ∧
    exec (.brk16 f5) s = enters (32 + f5.setWidth 8) 0 0 (pcPlus s.pc 2) ∧
    polls (exec (.pfi user) s) ∧ polls (exec .pfi16 s)

/-- RTI clears its semaphore bits and the reservation and restores the pushed context (45_system R655, 45_system R630,
60_exceptions R975, 60_exceptions R991, 10_state R58, 10_state R61). The direction of the single-step history is
decision D101 of the spec. -/
def Obligations.ReturnFromInterruptRestores : Prop :=
  ∀ (s : State) (sema : BitVec 6) (ra : RegNo),
    (s.ol = 3 → exec (.rti sema ra) s = .next (raise causePRIV s)) ∧
    (s.ol ≠ 3 → ∃ t, exec (.rti sema ra) s = .next t ∧
      t.pc = s.csr.epc.r0 ∧ t.csr.epc = epcPop s.csr.epc (vectorFor s.csr.tvec.r0 0) ∧
      t.im = field s.csr.imStack 0 4 ∧ t.ol = field s.csr.olStack 0 2 ∧ t.dl = field s.csr.olStack 16 2 ∧
      t.pl = field s.csr.plStack 0 8 ∧ t.rs = field s.csr.rsStack 0 6 ∧ t.vchain = s.vca ∧ t.resvValid = false ∧
      (field t.csr.imStack 0 28 = field s.csr.imStack 4 28 ∧ field t.csr.imStack 28 4 = (7 : BitVec 4)) ∧
      (field t.csr.olStack 0 14 = field s.csr.olStack 2 14 ∧ field t.csr.olStack 14 2 = (0 : BitVec 2)) ∧
      (field t.csr.olStack 16 14 = field s.csr.olStack 18 14 ∧ field t.csr.olStack 30 2 = (0 : BitVec 2)) ∧
      (field t.csr.plStack 0 56 = field s.csr.plStack 8 56 ∧ field t.csr.plStack 56 8 = (0 : BitVec 8)) ∧
      (field t.csr.rsStack 0 42 = field s.csr.rsStack 6 42 ∧ field t.csr.rsStack 42 6 = (8 : BitVec 6)) ∧
      (field t.csr.brsStack 0 42 = field s.csr.brsStack 6 42 ∧ field t.csr.brsStack 42 6 = (8 : BitVec 6)) ∧
      (bitAt t.csr.dbcr 63 = bitAt s.csr.dbcr 55 ∧ field t.csr.dbcr 55 7 = field s.csr.dbcr 56 7 ∧
        bitAt t.csr.dbcr 62 = false ∧ field t.csr.dbcr 0 55 = field s.csr.dbcr 0 55) ∧
      (∀ k < 64, bitAt t.csr.sema k =
        if k = 0 ∨ k = (sema ||| field (s.x ra) 0 6).toNat then false else bitAt s.csr.sema k) ∧
      t.xs = s.xs ∧ t.v = s.v ∧ t.vm = s.vm ∧ t.mem = s.mem ∧ t.csr.tvec = s.csr.tvec ∧ t.csr.cause0 = s.csr.cause0)

/-- REX redirects or falls through with the mask set; SEI and CLI set the mask; WAIT goes on or stays (45_system R634,
45_system R635, 45_system R636, 45_system R650). Which signals are true and which time-outs have elapsed are input
pins of the model: assumption log 16. -/
def Obligations.RedirectMaskAndWait : Prop :=
  ∀ (s : State) (im : BitVec 3) (pl : BitVec 8) (tgt : BitVec 2) (ra rb rt : RegNo) (m : BitVec 4) (imm : BitVec 5),
    let newPl := if tgt = 1 then 1 else pl ||| field (s.x ra) 0 8
    let allowed := (tgt = 1 ∧ s.cfg.rexEnabled1 = true ∨ tgt = 2 ∧ s.cfg.rexEnabled2 = true) ∧
      s.ol.toNat < tgt.toNat ∧ tgt.toNat ≤ newPl.toNat
    (¬allowed → exec (.rex im pl tgt ra) s =
      .next (s.withStatus (setField s.csr.status 0 (im.setWidth 4 : BitVec 4))).advance) ∧
    (allowed → ∃ t, exec (.rex im pl tgt ra) s = .next t ∧ t.im = im.setWidth 4 ∧ t.ol = tgt ∧ t.pl = newPl ∧
      t.rs = s.rs ∧ t.pc = bank4Get s.csr.tvec tgt.toNat ∧
      causeOf t.csr tgt.toNat = causeOf s.csr s.ol.toNat ∧ badaddrOf t.csr tgt.toNat = badaddrOf s.csr s.ol.toNat ∧
      t.xs = s.xs ∧ t.mem = s.mem ∧ t.csr.epc = s.csr.epc ∧ t.csr.tvec = s.csr.tvec) ∧
    (stackFault s s.rs rt (zext64 s.im) = false → ∃ t, exec (.sei rt ra m) s = .next t ∧
      t.im = m ||| field (s.x ra) 0 4 ∧
      { t with csr := s.csr } = (s.setX rt (zext64 s.im)).advance ∧
      t.csr = { s.csr with status := setField s.csr.status 0 t.im }) ∧
    exec .cli s = .next (s.withStatus (setField s.csr.status 0 (0 : BitVec 4))).advance ∧
    ((zext64 imm ||| s.x ra ∉ s.waitLow ∨ rb ≠ 0 ∧ s.x rb ∉ s.waitRunning) → exec (.wait ra rb imm) s = .next s.advance) ∧
    (zext64 imm ||| s.x ra ∈ s.waitLow → (rb = 0 ∨ s.x rb ∈ s.waitRunning) →
      exec (.wait ra rb imm) s = .next { s with event := .stalled })

/-- The CSR instructions check existence and level, return the old value and write the new one (45_system R630,
45_system R640, 60_exceptions R945, 10_state R41, 10_state R24, 10_state R38). That a reserved encoding comes before
the privilege violation is the order of R945, which the model follows over the operation of R640: assumption log 49.
The refusals are those of assumption log 19 and 20; the place of the stack check is the choice of the model:
assumption log 38. -/
def Obligations.CsrInstructionsAccessTheRegister : Prop :=
  ∀ (s : State) (ol : BitVec 2) (n : BitVec 10) (rt ra : RegNo),
    let writes (i : Instr) (old v : Word) : Prop :=
      (csrRefusal s.cfg ol.toNat n.toNat v = none → stackFault s s.rs rt old = false →
        exec i s = .next ({ s with csr := csrWrite s.csr ol.toNat n.toNat v }.setReg s.rs rt old).advance) ∧
      (csrRefusal s.cfg ol.toNat n.toNat v = none → stackFault s s.rs rt old = true →
        exec i s = .next (raise causeSTK s)) ∧
      (∀ r, csrRefusal s.cfg ol.toNat n.toNat v = some r → exec i s = .refused r)
    (csrRead s ol.toNat n.toNat = none →
      ∀ i ∈ [Instr.csrrd ol n rt ra, .csrrw ol n rt ra, .csrrs ol n rt ra, .csrrc ol n rt ra], IsReserved i s) ∧
    (csrBitCapable ol.toNat n.toNat = false →
      IsReserved (.csrrs ol n rt ra) s ∧ IsReserved (.csrrc ol n rt ra) s) ∧
    (ol.ult s.ol = true → csrRead s ol.toNat n.toNat ≠ none →
      (∀ i ∈ [Instr.csrrd ol n rt ra, .csrrw ol n rt ra], exec i s = .next (raise causePRIV s)) ∧
      (csrBitCapable ol.toNat n.toNat = true →
        ∀ i ∈ [Instr.csrrs ol n rt ra, .csrrc ol n rt ra], exec i s = .next (raise causePRIV s))) ∧
    (ol.ult s.ol = false → ∀ old, csrRead s ol.toNat n.toNat = some old →
      (stackFault s s.rs rt old = false → exec (.csrrd ol n rt ra) s = .next (s.setX rt old).advance) ∧
      (stackFault s s.rs rt old = true → exec (.csrrd ol n rt ra) s = .next (raise causeSTK s)) ∧
      writes (.csrrw ol n rt ra) old (s.x ra) ∧
      (csrBitCapable ol.toNat n.toNat = true →
        writes (.csrrs ol n rt ra) old (old ||| s.x ra) ∧ writes (.csrrc ol n rt ra) old (old &&& ~~~(s.x ra))))

/-- A writable register of the machine level reads back the bits that were written (10_state R41, 10_state R42,
45_system R640, 10_state R57, 10_state R61, 10_state R62). That the unused and reserved bits of AEC, DBSR, KEYS,
CR0, PCR, DBCR and STATUS read back as written is the choice of the model: assumption log 51. -/
def Obligations.CsrReadsWhatWasWritten : Prop :=
  ∀ (s : State) (n : Nat) (v m : Word), StoreWf 0 s.csr.codebuf → s.cfg.supportDbg = true → csrWritable n = some m →
    csrRead { s with csr := csrWrite s.csr 0 n v } 0 n = some (v &&& m) ∧
    ∀ k, k ≠ n → csrRead { s with csr := csrWrite s.csr 0 n v } 0 k = csrRead s 0 k

/-- The TLB instruction runs each of its commands at level 0; elsewhere one that is not reserved is a privilege
violation; cycles age the counts (45_system R660, 45_system R630, 60_exceptions R945, 20_memory R161, 20_memory
R168, 70_reset_and_hazards R1055). That a reserved command comes before the privilege violation is the order of
R945, which the model follows over the operation of R660: assumption log 49. The entry a probe picks of several is
free: assumption log 28. That the decrement of 0 is the underflow, and that the counts are free after it, is the
choice of the model: assumption log 26; how many cycles a step takes is free: assumption log 11. -/
def Obligations.TlbInstructionCommands : Prop :=
  ∀ (s : State) (tn : BitVec 4) (rt ra : RegNo),
    let t := s.tlb
    let idx := (field t.index 0 8).toNat
    let way := (t.random ++ field t.virtPage 0 4 : BitVec 8).toNat
    let filled (k : Nat) : TlbState := tlbSet t k { vpn := t.virtPage, ppn := t.physPage, attr := t.asid }
    (∀ cmd : BitVec 4, 12 ≤ cmd.toNat → IsReserved (.tlb cmd tn rt ra) s) ∧
    (s.ol ≠ 0 → ∀ cmd : BitVec 4, cmd.toNat < 12 → exec (.tlb cmd tn rt ra) s = .next (raise causePRIV s)) ∧
    (s.ol = 0 →
      exec (.tlb 0 tn rt ra) s = .next s.advance ∧
      exec (.tlb 1 tn rt ra) s = .next { s with tlb := tlbProbe s.freeIdx t }.advance ∧
      exec (.tlb 2 tn rt ra) s = .next { s with tlb :=
        { t with virtPage := (tlbGet t idx).vpn, physPage := (tlbGet t idx).ppn, asid := (tlbGet t idx).attr } }.advance ∧
      exec (.tlb 3 tn rt ra) s = .next { s with tlb := filled way }.advance ∧
      exec (.tlb 4 tn rt ra) s = .next { s with tlb := filled idx }.advance ∧
      exec (.tlb 5 tn rt ra) s = .next { s with tlb := { t with enabled := true } }.advance ∧
      exec (.tlb 6 tn rt ra) s = .next { s with tlb := { t with enabled := false } }.advance ∧
      (stackFault s s.rs rt (tlbRegGet t tn) = false →
        exec (.tlb 7 tn rt ra) s = .next (s.setX rt (tlbRegGet t tn)).advance) ∧
      exec (.tlb 8 tn rt ra) s = .next { s with tlb := tlbRegSet t tn (s.x ra) }.advance ∧
      (∃ u, exec (.tlb 9 tn rt ra) s = .next u ∧ (∀ k, tlbValid (tlbGet u.tlb k) = false) ∧
        { u with tlb := t } = s.advance ∧ u.tlb = { t with entries := u.tlb.entries }) ∧
      (stackFault s s.rs rt (zext64 (tlbCount t idx)) = false →
        exec (.tlb 10 tn rt ra) s = .next (s.setX rt (zext64 (tlbCount t idx))).advance) ∧
      exec (.tlb 11 tn rt ra) s = .next { s with tlb := tlbSetCount t idx (field (s.x ra) 0 32) }.advance) ∧
    (let u := (envTick s).tlb
      let cycles := Config.freeTick s.freeIdx
      { u with aging := t.aging, refcnts := t.refcnts, random := t.random } = t ∧
      (cycles ≤ t.aging.toNat → u.aging.toNat + cycles = t.aging.toNat ∧ u.refcnts = t.refcnts) ∧
      (t.aging.toNat < cycles → u.aging.toNat ≤ t.afc.toNat ∧
        ∃ k, 0 < k ∧ u.aging.toNat + cycles = t.aging.toNat + k * (t.afc.toNat + 1)))

/-- Translation gives the page of the one matching TLB entry, or of the map entry, or raises the named fault (20_memory
R147, 20_memory R162, 20_memory R165, 20_memory R167, 20_memory R170, 20_memory R172, 20_memory R173, 20_memory
R174, 20_memory R175). That a match marks the entry before its permission is checked is the choice of the model:
assumption log 41. -/
def Obligations.TranslationFollowsEntryAndMap : Prop :=
  (∀ (s : State) (va : Word) (k : AccessKind), s.cfg.mmuKind = .tlb → s.tlb.enabled = true →
    (∀ n < 256, (∀ j < 256, tlbHit (tlbGet s.tlb j) va s.asid = decide (j = n)) →
      let e := tlbGet s.tlb n
      let t := { s with tlb := tlbSetCount (tlbSet s.tlb n (tlbTouch e k)) n (countUp (tlbCount s.tlb n)) }
      (tlbPermits e k = true → translate va k s =
        .ok ((e.ppn <<< tlbShift e ||| (va &&& ((1 <<< tlbShift e) - 1))).toNat % 2 ^ s.cfg.paBits) t) ∧
      (tlbPermits e k = false → translate va k s = .exc (permCause k) t)) ∧
    ((∀ j < 256, tlbHit (tlbGet s.tlb j) va s.asid = false) → translate va k s =
      .exc causeTLB (if s.tlb.ma = 0 then { s with tlb := { s.tlb with ma := va } } else s))) ∧
  (∀ (s : State) (va : Word) (k : AccessKind), s.cfg.mmuKind = .simple →
    let m := (field s.csr.pcr 0 6).toNat
    let big := bitAt s.csr.pcr2 m
    let e := storeGet 0 s.mapTab (m * 1024 + (if big then field va 19 10 else field va 13 10).toNat)
    let allowed := bitAt e (match k with | .read => 17 | .write => 18 | .exec => 16)
    let page : Nat := if big then (field e 6 10).toNat * 2 ^ 19 + (field va 0 19).toNat
      else (field e 0 16).toNat * 2 ^ 13 + (field va 0 13).toNat
    ((bitAt s.csr.pcr 31 = false ∨ field va 29 3 ≠ 0) → translate va k s = .ok (va.toNat % 2 ^ s.cfg.paBits) s) ∧
    (bitAt s.csr.pcr 31 = true → field va 29 3 = 0 → allowed = true →
      translate va k s = .ok (page % 2 ^ s.cfg.paBits) s) ∧
    (bitAt s.csr.pcr 31 = true → field va 29 3 = 0 → allowed = false → translate va k s = .exc (permCause k) s))

/-- Barriers, NOPs, chaining, SETWB, WTME and the cache commands have their one effect and go on (40_integer_alu R364,
46_compressed R705, 45_system R662, 45_system R668, 45_system R672, 45_system R675, 45_system R680, 45_system R681,
45_system R682). -/
def Obligations.SystemInstructionsComplete : Prop :=
  ∀ (s : State) (ra rb rc rn : RegNo) (imm : Imm) (sc : BitVec 2) (long : Bool),
    let key := (field s.csr.pcr 8 6).toNat * 1024 + (field (s.x ra) 0 10).toNat
    exec (.nop long) s = .next s.advance ∧ exec .nop16 s = .next s.advance ∧
    exec .memdb s = .next s.advance ∧ exec .memsb s = .next s.advance ∧ exec .sync s = .next s.advance ∧
    exec .chainoff s = .next { s with vchain := false }.advance ∧
    exec .chainon s = .next { s with vchain := true }.advance ∧
    exec (.setwb rn) s =
      .next { s with csr := { s.csr with wbrcd := setBitAt s.csr.wbrcd s.rs.toNat true } }.advance ∧
    exec (.wtme ra rb) s =
      .next { s with tagEnable := storeSet false s.tagEnable key (bitAt (s.x rb) 0) }.advance ∧
    ∀ (cmd : RegNo) (i : Instr), i = .cache cmd ra imm ∨ i = .cachex cmd ra rc sc →
      (cmd.toNat ∈ [0x02, 0x12, 0x13] → exec i s = .next s.advance) ∧
      (cmd.toNat = 0x03 → exec i s = .next { s with icacheStale := [] }.advance) ∧
      (cmd.toNat = 0x10 → exec i s = .next { s with dcacheEnabled := false }.advance) ∧
      (cmd.toNat = 0x11 → exec i s = .next { s with dcacheEnabled := true }.advance) ∧
      (cmd.toNat ∉ [0x02, 0x03, 0x10, 0x11, 0x12, 0x13] → IsReserved i s)

/-- Bytes stored through the bus read back, low byte first, others are untouched; the map-table window gives and takes
its entry (20_memory R140, 20_memory R141, 20_memory R142, 20_memory R151, 20_memory R172). That a device takes a
store out of the machine is the choice of the model: assumption log 14. -/
def Obligations.MemoryReadsWhatWasStored : Prop :=
  (∀ (s : State) (n pa v : Nat), s.Canonical → n ≤ 2 ^ s.cfg.paBits →
    (anyDevice s.cfg n pa = false → (∀ k < n, inMapWindow s.cfg ((pa + k) % 2 ^ s.cfg.paBits) = false) →
      busRead (busWrite s n pa v) n pa = v % 256 ^ n ∧
      ∀ k < n, memByte (busWrite s n pa v) ((pa + k) % 2 ^ s.cfg.paBits) = BitVec.ofNat 8 (v / 256 ^ k)) ∧
    ((∀ k < n, isDevice s.cfg ((pa + k) % 2 ^ s.cfg.paBits) = true) → busWrite s n pa v = s) ∧
    ∀ a, (∀ k < n, a ≠ (pa + k) % 2 ^ s.cfg.paBits) → memByte (busWrite s n pa v) a = memByte s a) ∧
  (∀ (s : State) (i : Nat) (rt rb ra : RegNo) (d : Imm), s.cfg.mmuKind = .simple → 32 ≤ s.cfg.paBits → i < 1024 →
    (s.cfg.supportDbg = false ∨ field s.csr.dbcr 0 4 = 0) →
    s.x ra + immS d = BitVec.ofNat 64 (0xFFDC4000 + 4 * i) →
    let key := (field s.csr.pcr 8 6).toNat * 1024 + i
    let entry : Word := zext64 (storeGet 0 s.mapTab key)
    (∀ j ∈ [Instr.lhu rt ra d, .lh rt ra d],
      (stackFault s s.rs rt entry = false → exec j s = .next (s.setX rt entry).advance) ∧
      (stackFault s s.rs rt entry = true → exec j s = .next (raise causeSTK s))) ∧
    (StoreWf 0 s.mapTab → ∃ t, exec (.sh rb ra d) s = .next t ∧ storeGet 0 t.mapTab key = field (s.x rb) 0 21 ∧
      (∀ k, k ≠ key → storeGet 0 t.mapTab k = storeGet 0 s.mapTab k) ∧
      t.resvValid = (s.resvValid && !breaksReservation s 4 (0xFFDC4000 + 4 * i)) ∧
      { t with mapTab := s.mapTab, resvValid := s.resvValid } = s.advance))

/-- A data access is checked for alignment, debug match, translation and bus answer, in this order (20_memory R145,
20_memory R148, 20_memory R150, 60_exceptions R962, 60_exceptions R990, 60_exceptions R1005). That an access to a
device is a draw of the free values is the choice of the model: assumption log 14. -/
def Obligations.DataAccessChecksInOrder : Prop :=
  ∀ (s : State) (ea : Word) (n : Nat) (k : AccessKind),
    let hit := s.cfg.supportDbg && matchBits (dataMatch s.csr ea k) != 0
    (ea.toNat % n ≠ 0 → dataAccess ea n k s = .exc causeALN (noteAddr ea s)) ∧
    (ea.toNat % n = 0 → hit = true →
      dataAccess ea n k s = .exc causeDBG (noteAddr ea (noteMatch (matchBits (dataMatch s.csr ea k)) s))) ∧
    (ea.toNat % n = 0 → hit = false → ∀ c t, translate ea k s = .exc c t →
      dataAccess ea n k s = .exc c (noteAddr ea t)) ∧
    (ea.toNat % n = 0 → hit = false → ∀ pa t, translate ea k s = .ok pa t →
      (busAllOk t.cfg k n pa = false → dataAccess ea n k s = .exc causeDBE (noteAddr ea t)) ∧
      (busAllOk t.cfg k n pa = true → anyDevice t.cfg n pa = false → dataAccess ea n k s = .ok pa t) ∧
      (busAllOk t.cfg k n pa = true → anyDevice t.cfg n pa = true →
        dataAccess ea n k s = .ok pa { t with freeIdx := t.freeIdx + 1 })) ∧
    (AccessOk s ea n k → dataAccess ea n k s = .ok (ea.toNat % 2 ^ s.cfg.paBits) s)

/-- Every scalar load completes with the sign- or zero-extended bytes in its target (43_memory_ops R480, 43_memory_ops
R481, 43_memory_ops R485 to R498, 46_compressed R735 to R738, 46_compressed R743, 46_compressed R744, 20_memory
R150). -/
def Obligations.LoadsCompleteWithTheValue : Prop :=
  ∀ (rt ra rc : RegNo) (d : Imm) (d5 : BitVec 5) (d4 : BitVec 4) (q r : BitVec 3) (sc : BitVec 2),
    LoadsX (.lb rt ra d) 1 rt (fun s => s.x ra + immS d) (signBytes 1) ∧
    LoadsX (.lbu rt ra d) 1 rt (fun s => s.x ra + immS d) zeroBytes ∧
    LoadsX (.lc rt ra d) 2 rt (fun s => s.x ra + immS d) (signBytes 2) ∧
    LoadsX (.lcu rt ra d) 2 rt (fun s => s.x ra + immS d) zeroBytes ∧
    LoadsX (.lh rt ra d) 4 rt (fun s => s.x ra + immS d) (signBytes 4) ∧
    LoadsX (.lhu rt ra d) 4 rt (fun s => s.x ra + immS d) zeroBytes ∧
    LoadsX (.lw rt ra d) 8 rt (fun s => s.x ra + immS d) zeroBytes ∧
    LoadsX (.ld rt ra d) 16 rt (fun s => s.x ra + immS d) zeroBytes ∧
    LoadsX (.lvc rt ra d) 2 rt (fun s => s.x ra + immS d) (signBytes 2) ∧
    LoadsX (.lvcu rt ra d) 2 rt (fun s => s.x ra + immS d) zeroBytes ∧
    LoadsX (.lvh rt ra d) 4 rt (fun s => s.x ra + immS d) (signBytes 4) ∧
    LoadsX (.lvhu rt ra d) 4 rt (fun s => s.x ra + immS d) zeroBytes ∧
    LoadsX (.lvw rt ra d) 8 rt (fun s => s.x ra + immS d) zeroBytes ∧
    LoadsX (.lbx rt ra rc sc) 1 rt (fun s => s.x ra + (s.x rc <<< sc.toNat)) (signBytes 1) ∧
    LoadsX (.lbux rt ra rc sc) 1 rt (fun s => s.x ra + (s.x rc <<< sc.toNat)) zeroBytes ∧
    LoadsX (.lcx rt ra rc sc) 2 rt (fun s => s.x ra + (s.x rc <<< sc.toNat)) (signBytes 2) ∧
    LoadsX (.lcux rt ra rc sc) 2 rt (fun s => s.x ra + (s.x rc <<< sc.toNat)) zeroBytes ∧
    LoadsX (.lhx rt ra rc sc) 4 rt (fun s => s.x ra + (s.x rc <<< sc.toNat)) (signBytes 4) ∧
    LoadsX (.lhux rt ra rc sc) 4 rt (fun s => s.x ra + (s.x rc <<< sc.toNat)) zeroBytes ∧
    LoadsX (.lwx rt ra rc sc) 8 rt (fun s => s.x ra + (s.x rc <<< sc.toNat)) zeroBytes ∧
    LoadsX (.lvbx rt ra rc sc) 1 rt (fun s => s.x ra + (s.x rc <<< sc.toNat)) (signBytes 1) ∧
    LoadsX (.lvbux rt ra rc sc) 1 rt (fun s => s.x ra + (s.x rc <<< sc.toNat)) zeroBytes ∧
    LoadsX (.lvcx rt ra rc sc) 2 rt (fun s => s.x ra + (s.x rc <<< sc.toNat)) (signBytes 2) ∧
    LoadsX (.lvcux rt ra rc sc) 2 rt (fun s => s.x ra + (s.x rc <<< sc.toNat)) zeroBytes ∧
    LoadsX (.lvhx rt ra rc sc) 4 rt (fun s => s.x ra + (s.x rc <<< sc.toNat)) (signBytes 4) ∧
    LoadsX (.lvhux rt ra rc sc) 4 rt (fun s => s.x ra + (s.x rc <<< sc.toNat)) zeroBytes ∧
    LoadsX (.lvwx rt ra rc sc) 8 rt (fun s => s.x ra + (s.x rc <<< sc.toNat)) zeroBytes ∧
    LoadsF (.lfs rt ra d) 4 rt (fun s => s.x ra + immS d) ∧
    LoadsF (.lfsx rt ra rc sc) 4 rt (fun s => s.x ra + (s.x rc <<< sc.toNat)) ∧
    LoadsF (.lfd rt ra d) 8 rt (fun s => s.x ra + immS d) ∧
    LoadsF (.lfdx rt ra rc sc) 8 rt (fun s => s.x ra + (s.x rc <<< sc.toNat)) ∧
    LoadsF (.lfq rt ra d) 16 rt (fun s => s.x ra + immS d) ∧
    LoadsF (.lfqx rt ra rc sc) 16 rt (fun s => s.x ra + (s.x rc <<< sc.toNat)) ∧
    LoadsX (.lhSp rt d5) 4 rt (fun s => s.x 31 + cDisp s (d5 ++ (0 : BitVec 2))) (signBytes 4) ∧
    LoadsX (.lwSp rt d5) 8 rt (fun s => s.x 31 + cDisp s (d5 ++ (0 : BitVec 3))) zeroBytes ∧
    LoadsX (.lhFp rt d5) 4 rt (fun s => s.x 30 + cDisp s (d5 ++ (0 : BitVec 2))) (signBytes 4) ∧
    LoadsX (.lwFp rt d5) 8 rt (fun s => s.x 30 + cDisp s (d5 ++ (0 : BitVec 3))) zeroBytes ∧
    WritesX (.leax rt ra rc sc) rt (fun s => s.x ra + (s.x rc <<< sc.toNat)) ∧
    (∀ (s : State) (pa : Nat) (t : State) (c : BitVec 8),
      let eaH := s.x (creg s q) + cDisp s (d4 ++ (0 : BitVec 2))
      let eaW := s.x (creg s q) + cDisp s (d4 ++ (0 : BitVec 3))
      (dataAccess eaH 4 .read s = .ok pa t → stackFault t t.rs (creg s r) (signBytes 4 (busRead t 4 pa)) = false →
        exec (.lhPr r q d4) s = .next (t.setX (creg s r) (signBytes 4 (busRead t 4 pa))).advance) ∧
      (dataAccess eaH 4 .read s = .exc c t → exec (.lhPr r q d4) s = .next (raise c t)) ∧
      (dataAccess eaW 8 .read s = .ok pa t → stackFault t t.rs (creg s r) (zeroBytes (busRead t 8 pa)) = false →
        exec (.lwPr r q d4) s = .next (t.setX (creg s r) (zeroBytes (busRead t 8 pa))).advance) ∧
      (dataAccess eaW 8 .read s = .exc c t → exec (.lwPr r q d4) s = .next (raise c t)))

/-- Every scalar store completes with the low bytes of its source in memory (43_memory_ops R480, 43_memory_ops R481,
43_memory_ops R505 to R510, 46_compressed R739 to R742, 46_compressed R745, 46_compressed R746, 20_memory R151).
What a store does to the reservation is compared by physical bytes: assumption log 34. -/
def Obligations.StoresCompleteWithTheBytes : Prop :=
  ∀ (rb ra rc : RegNo) (d : Imm) (d5 : BitVec 5) (d4 : BitVec 4) (q r : BitVec 3) (sc : BitVec 2),
    StoresTo (.sb rb ra d) 1 (fun s => s.x ra + immS d) (fun s => s.x rb) ∧
    StoresTo (.sbx rb ra rc sc) 1 (fun s => s.x ra + (s.x rc <<< sc.toNat)) (fun s => s.x rb) ∧
    StoresTo (.sc rb ra d) 2 (fun s => s.x ra + immS d) (fun s => s.x rb) ∧
    StoresTo (.scx rb ra rc sc) 2 (fun s => s.x ra + (s.x rc <<< sc.toNat)) (fun s => s.x rb) ∧
    StoresTo (.sh rb ra d) 4 (fun s => s.x ra + immS d) (fun s => s.x rb) ∧
    StoresTo (.shx rb ra rc sc) 4 (fun s => s.x ra + (s.x rc <<< sc.toNat)) (fun s => s.x rb) ∧
    StoresTo (.sw rb ra d) 8 (fun s => s.x ra + immS d) (fun s => s.x rb) ∧
    StoresTo (.swx rb ra rc sc) 8 (fun s => s.x ra + (s.x rc <<< sc.toNat)) (fun s => s.x rb) ∧
    StoresTo (.sfs rb ra d) 4 (fun s => s.x ra + immS d) (fun s => s.f rb) ∧
    StoresTo (.sfsx rb ra rc sc) 4 (fun s => s.x ra + (s.x rc <<< sc.toNat)) (fun s => s.f rb) ∧
    StoresTo (.sfd rb ra d) 8 (fun s => s.x ra + immS d) (fun s => s.f rb) ∧
    StoresTo (.sfdx rb ra rc sc) 8 (fun s => s.x ra + (s.x rc <<< sc.toNat)) (fun s => s.f rb) ∧
    StoresTo (.sfq rb ra d) 16 (fun s => s.x ra + immS d) (fun s => s.f rb) ∧
    StoresTo (.sfqx rb ra rc sc) 16 (fun s => s.x ra + (s.x rc <<< sc.toNat)) (fun s => s.f rb) ∧
    StoresTo (.shSp rb d5) 4 (fun s => s.x 31 + cDisp s (d5 ++ (0 : BitVec 2))) (fun s => s.x rb) ∧
    StoresTo (.swSp rb d5) 8 (fun s => s.x 31 + cDisp s (d5 ++ (0 : BitVec 3))) (fun s => s.x rb) ∧
    StoresTo (.shFp rb d5) 4 (fun s => s.x 30 + cDisp s (d5 ++ (0 : BitVec 2))) (fun s => s.x rb) ∧
    StoresTo (.swFp rb d5) 8 (fun s => s.x 30 + cDisp s (d5 ++ (0 : BitVec 3))) (fun s => s.x rb) ∧
    StoresTo (.shPr r q d4) 4 (fun s => s.x (creg s q) + cDisp s (d4 ++ (0 : BitVec 2))) (fun s => s.x (creg s r)) ∧
    StoresTo (.swPr r q d4) 8 (fun s => s.x (creg s q) + cDisp s (d4 ++ (0 : BitVec 3))) (fun s => s.x (creg s r))

/-- A store changes no byte outside the ones it stores to, and no register, flag or mask (43_memory_ops R480,
43_memory_ops R481, 43_memory_ops R505 to R510, 20_memory R151, 20_memory R172). That a store of any size reaches
the bytes of the map-table window is the choice of the model: assumption log 33. -/
def Obligations.StoresLeaveOtherBytesAndRegisters : Prop :=
  ∀ (rb ra rc : RegNo) (d : Imm) (sc : BitVec 2),
    let frame (i : Instr) (n : Nat) (ea : State → Word) : Prop :=
      ∀ (s t : State) (pa : Nat), dataAccess (ea s) n .write s = .ok pa t →
        let byte (k : Nat) : Nat := (pa + k) % 2 ^ s.cfg.paBits
        ∃ u, exec i s = .next u ∧
          ((∀ k < n, inMapWindow s.cfg (byte k) = false) → u.mapTab = s.mapTab) ∧
          (∀ e, (∀ k < n, inMapWindow s.cfg (byte k) = true →
              e ≠ (field s.csr.pcr 8 6).toNat * 1024 + (byte k - 0xFFDC4000) / 4) →
            storeGet 0 u.mapTab e = storeGet 0 s.mapTab e) ∧
          (∀ a, (∀ k < n, a ≠ byte k) → memByte u a = memByte s a) ∧
          u.xs = s.xs ∧ u.v = s.v ∧ u.vm = s.vm ∧ u.vl = s.vl ∧ u.csr = s.csr ∧ u.ctr = s.ctr ∧
          u.tagEnable = s.tagEnable ∧ u.vchain = s.vchain ∧ u.cfg = s.cfg ∧ u.pc = s.nextPc
    frame (.sb rb ra d) 1 (fun s => s.x ra + immS d) ∧
    frame (.sbx rb ra rc sc) 1 (fun s => s.x ra + (s.x rc <<< sc.toNat)) ∧
    frame (.sc rb ra d) 2 (fun s => s.x ra + immS d) ∧
    frame (.scx rb ra rc sc) 2 (fun s => s.x ra + (s.x rc <<< sc.toNat)) ∧
    frame (.sh rb ra d) 4 (fun s => s.x ra + immS d) ∧
    frame (.shx rb ra rc sc) 4 (fun s => s.x ra + (s.x rc <<< sc.toNat)) ∧
    frame (.sw rb ra d) 8 (fun s => s.x ra + immS d) ∧
    frame (.swx rb ra rc sc) 8 (fun s => s.x ra + (s.x rc <<< sc.toNat)) ∧
    frame (.sfs rb ra d) 4 (fun s => s.x ra + immS d) ∧
    frame (.sfsx rb ra rc sc) 4 (fun s => s.x ra + (s.x rc <<< sc.toNat)) ∧
    frame (.sfd rb ra d) 8 (fun s => s.x ra + immS d) ∧
    frame (.sfdx rb ra rc sc) 8 (fun s => s.x ra + (s.x rc <<< sc.toNat)) ∧
    frame (.sfq rb ra d) 16 (fun s => s.x ra + immS d) ∧
    frame (.sfqx rb ra rc sc) 16 (fun s => s.x ra + (s.x rc <<< sc.toNat))

/-- PUSH, PUSHC, INC and CAS complete with their read, their write and their register (43_memory_ops R515, 43_memory_ops
R516, 43_memory_ops R520, 43_memory_ops R521, 43_memory_ops R545, 46_compressed R733). The order of the checks is
the choice of the model: assumption log 38 and 39. -/
def Obligations.PushIncrementAndSwapComplete : Prop :=
  (∀ (rb rt ra : RegNo) (imm : Imm),
    PushesTo (.push rb rt ra) rt (fun s => s.x ra - 8) (fun s => s.x rb) ∧
    PushesTo (.pushc rt ra imm) rt (fun s => s.x ra - 8) (fun _ => immS imm) ∧
    PushesTo (.push16 rb) 31 (fun s => s.x 31 - 8) (fun s => s.x rb)) ∧
  (∀ (amt ra rc : RegNo) (imm : Imm) (sc : BitVec 2) (s t t' : State) (pa pa' : Nat) (i : Instr) (ea : Word),
    (i = .inc amt ra imm ∧ ea = s.x ra + immS imm ∨ i = .incx amt ra rc sc ∧ ea = s.x ra + (s.x rc <<< sc.toNat)) →
    (dataAccess ea 8 .read s = .ok pa t → dataAccess ea 8 .write t = .ok pa' t' →
      exec i s = .next (memCommit 8 pa' (BitVec.ofNat 64 (busRead t 8 pa) + sext64 amt).toNat t').advance) ∧
    (∀ c, dataAccess ea 8 .read s = .exc c t → exec i s = .next (raise c t)) ∧
    (∀ c, dataAccess ea 8 .read s = .ok pa t → dataAccess ea 8 .write t = .exc c t' → exec i s = .next (raise c t'))) ∧
  (∀ (rt ra rc : RegNo) (disp : BitVec 14) (sc : BitVec 2) (s t : State) (pa : Nat) (i : Instr) (ea : Word),
    (i = .cas rt ra disp ∧ ea = s.x ra + sext64 disp ∨ i = .casx rt ra rc sc ∧ ea = s.x ra + (s.x rc <<< sc.toNat)) →
    (∀ c, dataAccess ea 8 .read s = .exc c t → exec i s = .next (raise c t)) ∧
    (dataAccess ea 8 .read s = .ok pa t → BitVec.ofNat 64 (busRead t 8 pa) = t.csr.cas →
      (∀ pa' t', dataAccess ea 8 .write t = .ok pa' t' → stackFault t' t'.rs rt 1 = false →
        exec i s = .next ((memCommit 8 pa' (s.x rt).toNat t').setX rt 1).advance) ∧
      (∀ pa' t', dataAccess ea 8 .write t = .ok pa' t' → stackFault t' t'.rs rt 1 = true →
        exec i s = .next (raise causeSTK t')) ∧
      (∀ c t', dataAccess ea 8 .write t = .exc c t' → exec i s = .next (raise c t'))) ∧
    (dataAccess ea 8 .read s = .ok pa t → BitVec.ofNat 64 (busRead t 8 pa) ≠ t.csr.cas →
      (stackFault t t.rs rt 0 = false → exec i s =
        .next ({ t with csr := { t.csr with cas := BitVec.ofNat 64 (busRead t 8 pa) } }.setX rt 0).advance) ∧
      (stackFault t t.rs rt 0 = true → exec i s = .next (raise causeSTK t))))

/-- LWR takes a reservation; SWC stores only with it, and says so in SEMA[0] (43_memory_ops R540, 10_state R71). The
order of the checks is the choice of the model: assumption log 38; the physical address: assumption log 34. -/
def Obligations.ReservationDecidesTheConditionalStore : Prop :=
  ∀ (rt rb ra rc : RegNo) (d : Imm) (sc : BitVec 2) (s t : State) (pa : Nat) (i j : Instr) (ea : Word) (c : BitVec 8),
    (i = .lwr rt ra d ∧ j = .swc rb ra d ∧ ea = s.x ra + immS d ∨
      i = .lwrx rt ra rc sc ∧ j = .swcx rb ra rc sc ∧ ea = s.x ra + (s.x rc <<< sc.toNat)) →
    (dataAccess ea 8 .read s = .ok pa t → stackFault t t.rs rt (zeroBytes (busRead t 8 pa)) = false →
      exec i s = .next
        { (t.setX rt (zeroBytes (busRead t 8 pa))) with resvValid := true, resvAddr := ea, resvPa := pa }.advance) ∧
    (dataAccess ea 8 .read s = .exc c t → exec i s = .next (raise c t)) ∧
    (dataAccess ea 8 .write s = .ok pa t → (t.resvValid = true ∧ t.resvAddr = ea) →
      exec j s = .next { (memCommit 8 pa (s.x rb).toNat t) with
        resvValid := false, csr := { t.csr with sema := setBitAt t.csr.sema 0 true } }.advance) ∧
    (dataAccess ea 8 .write s = .ok pa t → ¬(t.resvValid = true ∧ t.resvAddr = ea) →
      exec j s = .next { t with
        resvValid := false, csr := { t.csr with sema := setBitAt t.csr.sema 0 false } }.advance) ∧
    (dataAccess ea 8 .write s = .exc c t → exec j s = .next (raise c t))

/-- Each AMO returns the sign-extended old value and stores the combined one (43_memory_ops R550, 20_memory R191). The
order of the checks is the choice of the model: assumption log 39. -/
def Obligations.AtomicOperationsReturnTheOldValue : Prop :=
  ∀ (rt ra rb : RegNo) (imm : BitVec 5) (sz : BitVec 3) (acq rel : Bool),
    let both (i : RegNo → Instr) (j : BitVec 5 → Instr) (f : (w : Nat) → BitVec w → Word → BitVec w) : Prop :=
      AtomicallyUpdates (i rb) rt (fun s => s.x ra) sz (fun s w m => f w m (s.x rb)) ∧
      AtomicallyUpdates (j imm) rt (fun s => s.x ra) sz (fun _ w m => f w m (zext64 imm))
    both (fun b => .amoSwap rt ra b sz acq rel) (fun b => .amoSwapImm rt ra b sz acq rel) (fun w _ b => b.setWidth w) ∧
    both (fun b => .amoAdd rt ra b sz acq rel) (fun b => .amoAddImm rt ra b sz acq rel) (fun w m b => m + b.setWidth w) ∧
    both (fun b => .amoAnd rt ra b sz acq rel) (fun b => .amoAndImm rt ra b sz acq rel) (fun w m b => m &&& b.setWidth w) ∧
    both (fun b => .amoOr rt ra b sz acq rel) (fun b => .amoOrImm rt ra b sz acq rel) (fun w m b => m ||| b.setWidth w) ∧
    both (fun b => .amoXor rt ra b sz acq rel) (fun b => .amoXorImm rt ra b sz acq rel) (fun w m b => m ^^^ b.setWidth w) ∧
    both (fun b => .amoShl rt ra b sz acq rel) (fun b => .amoShlImm rt ra b sz acq rel) (fun _ m b => m <<< (field b 0 6).toNat) ∧
    both (fun b => .amoShr rt ra b sz acq rel) (fun b => .amoShrImm rt ra b sz acq rel) (fun _ m b => m >>> (field b 0 6).toNat) ∧
    both (fun b => .amoMin rt ra b sz acq rel) (fun b => .amoMinImm rt ra b sz acq rel) (fun w m b => if m.slt (b.setWidth w) then m else b.setWidth w) ∧
    both (fun b => .amoMax rt ra b sz acq rel) (fun b => .amoMaxImm rt ra b sz acq rel) (fun w m b => if (b.setWidth w).slt m then m else b.setWidth w) ∧
    both (fun b => .amoMinu rt ra b sz acq rel) (fun b => .amoMinuImm rt ra b sz acq rel) (fun w m b => if m.ult (b.setWidth w) then m else b.setWidth w) ∧
    both (fun b => .amoMaxu rt ra b sz acq rel) (fun b => .amoMaxuImm rt ra b sz acq rel) (fun w m b => if (b.setWidth w).ult m then m else b.setWidth w)

/-- Two-source and immediate arithmetic, logic, compares and products write their result (40_integer_alu R300 to R319,
40_integer_alu R321, 40_integer_alu R330 to R335, 42_muldiv R443 to R451). -/
def Obligations.IntegerResults : Prop :=
  ∀ (rt ra rb : RegNo) (imm : Imm) (u : UpperImm) (sz : BitVec 3),
    WritesX (.addi rt ra imm) rt (fun s => (fun (a b : Word) => a + b) (s.x ra) (immS imm)) ∧
    WritesX (.andi rt ra imm) rt (fun s => (fun (a b : Word) => a &&& b) (s.x ra) (immS imm)) ∧
    WritesX (.ori rt ra imm) rt (fun s => (fun (a b : Word) => a ||| b) (s.x ra) (immS imm)) ∧
    WritesX (.xori rt ra imm) rt (fun s => (fun (a b : Word) => a ^^^ b) (s.x ra) (immS imm)) ∧
    WritesX (.slti rt ra imm) rt (fun s => (fun (a b : Word) => if a.slt b then 1 else 0) (s.x ra) (immS imm)) ∧
    WritesX (.sltui rt ra imm) rt (fun s => (fun (a b : Word) => if a.ult b then 1 else 0) (s.x ra) (immS imm)) ∧
    WritesX (.seqi rt ra imm) rt (fun s => (fun (a b : Word) => if a = b then 1 else 0) (s.x ra) (immS imm)) ∧
    WritesX (.sgti rt ra imm) rt (fun s => (fun (a b : Word) => if b.slt a then 1 else 0) (s.x ra) (immS imm)) ∧
    WritesX (.sgtui rt ra imm) rt (fun s => (fun (a b : Word) => if b.ult a then 1 else 0) (s.x ra) (immS imm)) ∧
    WritesX (.add rt ra rb sz) rt (fun s => lanes2 sz (fun _ a b => a + b) (s.x ra) (s.x rb)) ∧
    WritesX (.sub rt ra rb sz) rt (fun s => lanes2 sz (fun _ a b => a - b) (s.x ra) (s.x rb)) ∧
    WritesX (.and rt ra rb sz) rt (fun s => lanes2 sz (fun _ a b => a &&& b) (s.x ra) (s.x rb)) ∧
    WritesX (.or rt ra rb sz) rt (fun s => lanes2 sz (fun _ a b => a ||| b) (s.x ra) (s.x rb)) ∧
    WritesX (.xor rt ra rb sz) rt (fun s => lanes2 sz (fun _ a b => a ^^^ b) (s.x ra) (s.x rb)) ∧
    WritesX (.slt rt ra rb sz) rt (fun s => lanes2 sz (fun _ a b => if a.slt b then 1 else 0) (s.x ra) (s.x rb)) ∧
    WritesX (.sltu rt ra rb sz) rt (fun s => lanes2 sz (fun _ a b => if a.ult b then 1 else 0) (s.x ra) (s.x rb)) ∧
    WritesX (.sle rt ra rb sz) rt (fun s => lanes2 sz (fun _ a b => if a.sle b then 1 else 0) (s.x ra) (s.x rb)) ∧
    WritesX (.sleu rt ra rb sz) rt (fun s => lanes2 sz (fun _ a b => if a.ule b then 1 else 0) (s.x ra) (s.x rb)) ∧
    WritesX (.seq rt ra rb sz) rt (fun s => lanes2 sz (fun _ a b => if a = b then 1 else 0) (s.x ra) (s.x rb)) ∧
    WritesX (.min rt ra rb sz) rt (fun s => lanes2 sz (fun _ a b => if a.slt b then a else b) (s.x ra) (s.x rb)) ∧
    WritesX (.max rt ra rb sz) rt (fun s => lanes2 sz (fun _ a b => if b.slt a then a else b) (s.x ra) (s.x rb)) ∧
    WritesX (.nand rt ra rb) rt (fun s => ~~~(s.x ra &&& s.x rb)) ∧
    WritesX (.nor rt ra rb) rt (fun s => ~~~(s.x ra ||| s.x rb)) ∧
    WritesX (.xnor rt ra rb) rt (fun s => ~~~(s.x ra ^^^ s.x rb)) ∧
    WritesX (.mulu rt ra rb sz) rt (fun s => lanes2 sz (fun w a b => BitVec.ofNat w (a.toNat * b.toNat)) (s.x ra) (s.x rb)) ∧
    WritesX (.mulsu rt ra rb sz) rt (fun s => lanes2 sz (fun w a b => BitVec.ofInt w (a.toInt * (b.toNat : Int))) (s.x ra) (s.x rb)) ∧
    WritesX (.mulh rt ra rb sz) rt (fun s => lanes2 sz (fun w a b => BitVec.ofInt w (a.toInt * b.toInt / 2 ^ w)) (s.x ra) (s.x rb)) ∧
    WritesX (.muluh rt ra rb sz) rt (fun s => lanes2 sz (fun w a b => BitVec.ofNat w (a.toNat * b.toNat / 2 ^ w)) (s.x ra) (s.x rb)) ∧
    WritesX (.mulsuh rt ra rb sz) rt (fun s => lanes2 sz (fun w a b => BitVec.ofInt w (a.toInt * (b.toNat : Int) / 2 ^ w)) (s.x ra) (s.x rb)) ∧
    WritesX (.fxmul rt ra rb sz) rt (fun s => lanes2 sz (fun w a b => BitVec.ofInt w (a.toInt * b.toInt / 2 ^ (w / 2))) (s.x ra) (s.x rb)) ∧
    WritesX (.mulf rt ra rb sz) rt (fun s => BitVec.ofNat 64 ((field (s.x ra) 0 24).toNat * (field (s.x rb) 0 16).toNat)) ∧
    WritesX (.mulfi rt ra imm) rt (fun s => BitVec.ofNat 64 ((field (s.x ra) 0 24).toNat * (field (immS imm) 0 16).toNat)) ∧
    WritesX (.mului rt ra imm) rt (fun s => s.x ra * immS imm) ∧
    WritesX (.ldi rt imm) rt (fun _ => immS imm) ∧
    WritesX (.lui rt u) rt (fun _ => upperS u <<< 30) ∧
    WritesX (.auipc rt u) rt (fun s => (s.pc + (upperS u <<< 30)) &&& ~~~0x3FFFFFFF)

/-- A parallel operation works on each lane alone; the other sizes work once on the whole register (40_integer_alu
R301). That sizes 0 to 3 and 7 work once on the whole register is decision D51 of the spec: assumption log 21. -/
def Obligations.LanesAreIndependent : Prop :=
  (∀ (f1 : LaneFn1) (f2 : LaneFn2) (f3 : LaneFn3) (a b c : Word),
    (∀ k < 8, field (lanes1 4 f1 a) (8 * k) 8 = f1 8 (field a (8 * k) 8) ∧
      field (lanes2 4 f2 a b) (8 * k) 8 = f2 8 (field a (8 * k) 8) (field b (8 * k) 8) ∧
      field (lanes3 4 f3 a b c) (8 * k) 8 = f3 8 (field a (8 * k) 8) (field b (8 * k) 8) (field c (8 * k) 8)) ∧
    (∀ k < 4, field (lanes1 5 f1 a) (16 * k) 16 = f1 16 (field a (16 * k) 16) ∧
      field (lanes2 5 f2 a b) (16 * k) 16 = f2 16 (field a (16 * k) 16) (field b (16 * k) 16) ∧
      field (lanes3 5 f3 a b c) (16 * k) 16 = f3 16 (field a (16 * k) 16) (field b (16 * k) 16) (field c (16 * k) 16)) ∧
    (∀ k < 2, field (lanes1 6 f1 a) (32 * k) 32 = f1 32 (field a (32 * k) 32) ∧
      field (lanes2 6 f2 a b) (32 * k) 32 = f2 32 (field a (32 * k) 32) (field b (32 * k) 32) ∧
      field (lanes3 6 f3 a b c) (32 * k) 32 = f3 32 (field a (32 * k) 32) (field b (32 * k) 32) (field c (32 * k) 32)) ∧
    (∀ sz : BitVec 3, bitAt sz 2 = false ∨ sz = 7 →
      lanes1 sz f1 a = f1 64 a ∧ lanes2 sz f2 a b = f2 64 a b ∧ lanes3 sz f3 a b c = f3 64 a b c)) ∧
  (∀ (s : State) (rt ra rb rc : RegNo) (sz : BitVec 3), rt ≠ 0 → s.cfg.stackBounds = none → StoreWf 0 s.xs →
    (∃ t, exec (.add rt ra rb sz) s = .next t ∧ t.reg s.rs rt = lanes2 sz (fun _ a b => a + b) (s.x ra) (s.x rb)) ∧
    (∃ t, exec (.or3 rt ra rb rc sz) s = .next t ∧
      t.reg s.rs rt = lanes3 sz (fun _ a b c => a ||| b ||| c) (s.x ra) (s.x rb) (s.x rc)) ∧
    (∃ t, exec (.abs rt ra sz) s = .next t ∧ t.reg s.rs rt = lanes1 sz (fun _ a => if a.slt 0 then -a else a) (s.x ra)))

/-- Three-source arithmetic, select and conditional instructions write their result (40_integer_alu R304, 40_integer_alu
R317, 40_integer_alu R336, 40_integer_alu R340 to R344). -/
def Obligations.ThreeSourceAndSelectResults : Prop :=
  ∀ (rt ra rb rc : RegNo) (sz : BitVec 3) (imm : BitVec 16),
    WritesX (.add3 rt ra rb rc) rt (fun s => s.x ra + s.x rb + s.x rc) ∧
    WritesX (.or3 rt ra rb rc sz) rt (fun s => lanes3 sz (fun _ a b c => a ||| b ||| c) (s.x ra) (s.x rb) (s.x rc)) ∧
    WritesX (.min3 rt ra rb rc sz) rt (fun s => lanes3 sz (fun _ a b c =>
      (fun m => if m.slt c then m else c) (if a.slt b then a else b)) (s.x ra) (s.x rb) (s.x rc)) ∧
    WritesX (.max3 rt ra rb rc sz) rt (fun s => lanes3 sz (fun _ a b c =>
      (fun m => if c.slt m then m else c) (if b.slt a then a else b)) (s.x ra) (s.x rb) (s.x rc)) ∧
    WritesX (.maj rt ra rb rc) rt (fun s =>
      (s.x ra &&& s.x rb) ||| (s.x ra &&& s.x rc) ||| (s.x rb &&& s.x rc)) ∧
    WritesX (.mux rt ra rb rc) rt (fun s => (s.x ra &&& s.x rb) ||| (~~~(s.x ra) &&& s.x rc)) ∧
    WritesX (.cmovez rt ra rb rc) rt (fun s => if s.x ra = 0 then s.x rb else s.x rc) ∧
    WritesX (.cmovnz rt ra rb rc) rt (fun s => if s.x ra ≠ 0 then s.x rb else s.x rc) ∧
    WritesX (.cmovnzi rt ra rb imm) rt (fun s => if s.x ra ≠ 0 then s.x rb else sext64 imm) ∧
    WritesX (.caddnz rt ra rb rc) rt (fun s => if s.x ra ≠ 0 then s.x rb + s.x rc else s.x rc) ∧
    WritesX (.caddnzi rt ra rb imm) rt (fun s => if s.x ra ≠ 0 then s.x rb + sext64 imm else sext64 imm)

/-- Counts, complements, absolute value, negation and extensions write their result (40_integer_alu R308, 40_integer_alu
R322 to R324, 40_integer_alu R350 to R352). -/
def Obligations.OneSourceResults : Prop :=
  ∀ (rt ra : RegNo) (sz : BitVec 3),
    let w := 8 * 2 ^ (sz.toNat % 4)
    (∃ lz lo pop : State → Nat,
      WritesXWhen (fun _ => !bitAt sz 2) (.cntlz rt ra sz) rt (fun s => BitVec.ofNat 64 (lz s)) ∧
      WritesXWhen (fun _ => !bitAt sz 2) (.cntlo rt ra sz) rt (fun s => BitVec.ofNat 64 (lo s)) ∧
      WritesXWhen (fun _ => !bitAt sz 2) (.cntpop rt ra sz) rt (fun s => BitVec.ofNat 64 (pop s)) ∧
      ∀ s, (lz s ≤ w ∧ (∀ k, w - lz s ≤ k → k < w → bitAt (s.x ra) k = false) ∧
          (lz s < w → bitAt (s.x ra) (w - 1 - lz s) = true)) ∧
        (lo s ≤ w ∧ (∀ k, w - lo s ≤ k → k < w → bitAt (s.x ra) k = true) ∧
          (lo s < w → bitAt (s.x ra) (w - 1 - lo s) = false)) ∧
        pop s = ((List.range w).filter fun k => bitAt (s.x ra) k).length) ∧
    WritesX (.com rt ra) rt (fun s => ~~~(s.x ra)) ∧
    WritesX (.abs rt ra sz) rt (fun s => lanes1 sz (fun _ a => if a.slt 0 then -a else a) (s.x ra)) ∧
    WritesX (.not rt ra sz) rt (fun s => lanes1 sz (fun _ a => if a = 0 then 1 else 0) (s.x ra)) ∧
    WritesX (.redor rt ra sz) rt (fun s => lanes1 sz (fun _ a => if a = 0 then 0 else 1) (s.x ra)) ∧
    WritesX (.neg rt ra sz) rt (fun s => lanes1 sz (fun _ a => -a) (s.x ra)) ∧
    WritesX (.zxb rt ra) rt (fun s => zext64 (field (s.x ra) 0 8)) ∧
    WritesX (.zxc rt ra) rt (fun s => zext64 (field (s.x ra) 0 16)) ∧
    WritesX (.zxh rt ra) rt (fun s => zext64 (field (s.x ra) 0 32)) ∧
    WritesX (.sxb rt ra) rt (fun s => sext64 (field (s.x ra) 0 8)) ∧
    WritesX (.sxc rt ra) rt (fun s => sext64 (field (s.x ra) 0 16)) ∧
    WritesX (.sxh rt ra) rt (fun s => sext64 (field (s.x ra) 0 32))

/-- Overflow and division by zero set their occurrence bit and trap when enabled; else the result is written
(40_integer_alu R305, 40_integer_alu R307, 42_muldiv R441, 42_muldiv R442, 42_muldiv R455 to R464, 60_exceptions
R989). The results of a division by zero are a parameter, assumption log 30; the place of the stack check is the
choice of the model: assumption log 38. -/
def Obligations.ArithmeticConditionsAreNotedAndRaised : Prop :=
  ∀ (rt ra rb : RegNo) (imm : Imm) (sz : BitVec 3) (long : Bool),
    let tooBig (w : Nat) (n : Int) : Bool := decide (n < -2 ^ (w - 1)) || decide (2 ^ (w - 1) ≤ n)
    let zero (w : Nat) (_ b : BitVec w) : Bool := b == 0
    let quo (d : DivZero) (w : Nat) (a b : BitVec w) (q : Int) : BitVec w :=
      if b = 0 then quotientByZero d w a else BitVec.ofInt w q
    let rem (d : DivZero) (w : Nat) (a b : BitVec w) (r : Int) : BitVec w :=
      if b = 0 then remainderByZero d w a else BitVec.ofInt w r
    WritesXNoting 32 0 causeOFL (.addv rt ra rb long) rt
      (fun s => tooBig 64 ((s.x ra).toInt + (s.x rb).toInt)) (fun s => s.x ra + s.x rb) ∧
    WritesXNoting 33 1 causeOFL (.subv rt ra rb) rt
      (fun s => tooBig 64 ((s.x ra).toInt - (s.x rb).toInt)) (fun s => s.x ra - s.x rb) ∧
    WritesXNoting 35 3 causeOFL (.mul rt ra rb sz) rt
      (fun s => anyLane sz (fun w a b => tooBig w (a.toInt * b.toInt)) (s.x ra) (s.x rb))
      (fun s => lanes2 sz (fun _ a b => a * b) (s.x ra) (s.x rb)) ∧
    WritesXNoting 35 3 causeOFL (.muli rt ra imm) rt
      (fun s => tooBig 64 ((s.x ra).toInt * (immS imm).toInt)) (fun s => s.x ra * immS imm) ∧
    WritesXNoting 36 4 causeDBZ (.div rt ra rb sz) rt (fun s => anyLane sz zero (s.x ra) (s.x rb))
      (fun s => lanes2 sz (fun w a b => quo s.cfg.divByZero w a b (a.toInt.tdiv b.toInt)) (s.x ra) (s.x rb)) ∧
    WritesXNoting 36 4 causeDBZ (.divsu rt ra rb sz) rt (fun s => anyLane sz zero (s.x ra) (s.x rb))
      (fun s => lanes2 sz (fun w a b => quo s.cfg.divByZero w a b (a.toInt.tdiv b.toNat)) (s.x ra) (s.x rb)) ∧
    WritesXNoting 36 4 causeDBZ (.divi rt ra imm) rt (fun _ => immS imm == 0)
      (fun s => quo s.cfg.divByZero 64 (s.x ra) (immS imm) ((s.x ra).toInt.tdiv (immS imm).toInt)) ∧
    WritesXNoting 36 4 causeDBZ (.mod rt ra rb sz) rt (fun s => anyLane sz zero (s.x ra) (s.x rb))
      (fun s => lanes2 sz (fun w a b => rem s.cfg.divByZero w a b (a.toInt.tmod b.toInt)) (s.x ra) (s.x rb)) ∧
    WritesXNoting 36 4 causeDBZ (.modsu rt ra rb sz) rt (fun s => anyLane sz zero (s.x ra) (s.x rb))
      (fun s => lanes2 sz (fun w a b => rem s.cfg.divByZero w a b (a.toInt.tmod b.toNat)) (s.x ra) (s.x rb)) ∧
    WritesXNoting 36 4 causeDBZ (.modi rt ra imm) rt (fun _ => immS imm == 0)
      (fun s => rem s.cfg.divByZero 64 (s.x ra) (immS imm) ((s.x ra).toInt.tmod (immS imm).toInt)) ∧
    WritesX (.divu rt ra rb sz) rt (fun s =>
      lanes2 sz (fun w a b => quo s.cfg.divByZero w a b ((a.toNat / b.toNat : Nat) : Int)) (s.x ra) (s.x rb)) ∧
    WritesX (.divui rt ra imm) rt (fun s =>
      quo s.cfg.divByZero 64 (s.x ra) (immS imm) (((s.x ra).toNat / (immS imm).toNat : Nat) : Int)) ∧
    WritesX (.modu rt ra rb sz) rt (fun s =>
      lanes2 sz (fun w a b => rem s.cfg.divByZero w a b ((a.toNat % b.toNat : Nat) : Int)) (s.x ra) (s.x rb))

/-- Quotient times divisor plus remainder is the dividend, for every kind of division (42_muldiv R455, 42_muldiv R456 to
R464). -/
def Obligations.QuotientAndRemainderAgree : Prop :=
  ∀ (s : State) (rt ra rb : RegNo) (imm : Imm), rt ≠ 0 → s.cfg.stackBounds = none → StoreWf 0 s.xs →
    let agree (i j : Instr) (b : Word) : Prop := ∃ t u, exec i s = .next t ∧ exec j s = .next u ∧
      t.reg s.rs rt * b + u.reg s.rs rt = s.x ra
    (s.x rb ≠ 0 →
      agree (.div rt ra rb 7) (.mod rt ra rb 7) (s.x rb) ∧ agree (.divu rt ra rb 7) (.modu rt ra rb 7) (s.x rb) ∧
      agree (.divsu rt ra rb 7) (.modsu rt ra rb 7) (s.x rb)) ∧
    (immS imm ≠ 0 → agree (.divi rt ra imm) (.modi rt ra imm) (immS imm))

/-- BCD, bit matrix, pointer difference and RTOP write their result (40_integer_alu R345, 40_integer_alu R346,
40_integer_alu R361 to R363, 40_integer_alu R365). The BCD result with a nibble above 9 is free: assumption log 29;
which words RTOP takes, and which have a size, is the reading of the model: assumption log 32. -/
def Obligations.DecimalMatrixAndRuntimeResults : Prop :=
  (∀ (rt ra rb : RegNo) (s : State),
    let a1 := (field (s.x ra) 4 4).toNat
    let a0 := (field (s.x ra) 0 4).toNat
    let b1 := (field (s.x rb) 4 4).toNat
    let b0 := (field (s.x rb) 0 4).toNat
    let done (i : Instr) (v : Word) : Prop :=
      stackFault s s.rs rt v = false → exec i s = .next (s.setX rt v).advance
    let two (n : Nat) : Word := BitVec.ofNat 64 (n % 10 + 16 * (n / 10 % 10))
    let four (n : Nat) : Word :=
      BitVec.ofNat 64 (n % 10 + 16 * (n / 10 % 10) + 256 * (n / 100 % 10) + 4096 * (n / 1000 % 10))
    (a1 ≤ 9 → a0 ≤ 9 → b1 ≤ 9 → b0 ≤ 9 →
      done (.bcdadd rt ra rb) (two (10 * a1 + a0 + (10 * b1 + b0))) ∧
      done (.bcdsub rt ra rb) (two ((10 * a1 + a0 + 100 - (10 * b1 + b0)) % 100)) ∧
      done (.bcdmul rt ra rb) (four ((10 * a1 + a0) * (10 * b1 + b0)))) ∧
    (s.cfg.stackBounds = none → ∀ i ∈ [Instr.bcdadd rt ra rb, .bcdsub rt ra rb, .bcdmul rt ra rb],
      ∃ v, exec i s = .next (s.setX rt v).advance)) ∧
  (∀ (rt ra rb : RegNo) (sc : BitVec 3),
    WritesX (.ptrdif rt ra rb sc) rt (fun s => (s.x ra - s.x rb) >>> sc.toNat) ∧
    (∃ f : Bool → Bool → State → Word,
      WritesX (.mor rt ra rb) rt (f false false) ∧ WritesX (.mort rt ra rb) rt (f false true) ∧
      WritesX (.mxor rt ra rb) rt (f true false) ∧ WritesX (.mxort rt ra rb) rt (f true true) ∧
      ∀ (ex : Bool) (s : State) (i j : Nat), i < 8 → j < 8 →
        let el (w : Word) (i j : Nat) : Bool := bitAt w (63 - (8 * i + j))
        let terms := (List.range 8).map fun k => el (s.x ra) i k && el (s.x rb) k j
        el (f ex false s) i j = (if ex then decide ((terms.filter id).length % 2 = 1) else terms.any id) ∧
        el (f ex true s) j i = el (f ex false s) i j)) ∧
  (∀ (rt ra rb rc : RegNo) (sz : BitVec 3) (s : State),
    let done (v : Word) : Prop :=
      stackFault s s.rs rt v = false → exec (.rtop rt ra rb rc sz) s = .next (s.setX rt v).advance
    let both (f : LaneFn2) : Word := lanes2 sz f (s.x ra) (s.x rb)
    let j : Word := s.x rc
    let reg (f6 : BitVec 6) : Bool := field j 0 8 == (0x02 : BitVec 8) && field j 26 6 == f6
    let reg3 (f6 : BitVec 6) (f3 : BitVec 3) : Bool := reg f6 && field j 23 3 == f3
    let bmm (f2 : BitVec 2) : Bool := reg 0x03 && field j 23 2 == f2
    let long (f6 : BitVec 6) : Bool := field j 0 8 == (0x42 : BitVec 8) && field j 42 6 == f6
    let imm (op : BitVec 6) : Bool := field j 7 1 == (0 : BitVec 1) && field j 0 6 == op
    let coded : List (Bool × Instr) :=
      [(reg3 0x00 0, .bcdadd rt ra rb), (reg3 0x00 1, .bcdsub rt ra rb), (reg3 0x00 2, .bcdmul rt ra rb),
       (bmm 0, .mor rt ra rb), (bmm 1, .mxor rt ra rb), (bmm 2, .mort rt ra rb), (bmm 3, .mxort rt ra rb),
       (reg3 0x2F 0, .shl rt ra rb), (reg3 0x2F 1, .shr rt ra rb), (reg3 0x2F 2, .asl rt ra rb),
       (reg3 0x2F 3, .asr rt ra rb), (reg3 0x2F 4, .rol rt ra rb), (reg3 0x2F 5, .ror rt ra rb)]
    let plain : List (Bool × Instr) :=
      [(reg 0x02, .addv rt ra rb false), (reg 0x04, .add rt ra rb sz), (reg 0x05, .sub rt ra rb sz),
       (reg 0x06, .slt rt ra rb sz), (reg 0x07, .sltu rt ra rb sz), (reg 0x08, .and rt ra rb sz),
       (reg 0x09, .or rt ra rb sz), (reg 0x0A, .xor rt ra rb sz), (reg 0x0B, .seq rt ra rb sz),
       (reg 0x0C, .nand rt ra rb), (reg 0x0D, .nor rt ra rb), (reg 0x0E, .xnor rt ra rb),
       (reg 0x1E, .ptrdif rt ra rb (field j 23 3)), (reg 0x28, .sle rt ra rb sz), (reg 0x29, .sleu rt ra rb sz),
       (reg 0x2C, .min rt ra rb sz), (reg 0x2D, .max rt ra rb sz),
       (long 0x02, .addv rt ra rb true), (long 0x0B, .subv rt ra rb)]
    let products : List (Bool × Instr) :=
      [(reg 0x14, .modu rt ra rb sz), (reg 0x15, .modsu rt ra rb sz), (reg 0x16, .mod rt ra rb sz),
       (reg 0x24, .muluh rt ra rb sz), (reg 0x25, .mulsuh rt ra rb sz), (reg 0x26, .mulh rt ra rb sz),
       (reg 0x2A, .mulf rt ra rb sz), (reg 0x38, .mulu rt ra rb sz), (reg 0x39, .mulsu rt ra rb sz),
       (reg 0x3A, .mul rt ra rb sz), (reg 0x3B, .fxmul rt ra rb sz), (reg 0x3C, .divu rt ra rb sz),
       (reg 0x3D, .divsu rt ra rb sz), (reg 0x3E, .div rt ra rb sz)]
    let constants : List (Bool × Instr) :=
      [(imm 0x04, .add rt ra rb sz), (imm 0x06, .slt rt ra rb sz), (imm 0x07, .sltu rt ra rb sz),
       (imm 0x08, .and rt ra rb sz), (imm 0x09, .or rt ra rb sz), (imm 0x0A, .xor rt ra rb sz),
       (imm 0x0B, .seq rt ra rb sz), (imm 0x1C, .sltu rt rb ra sz), (imm 0x2A, .mulf rt ra rb sz),
       (imm 0x2C, .slt rt rb ra sz), (imm 0x2E, .mod rt ra rb sz), (imm 0x38, .mulu rt ra rb sz),
       (imm 0x3A, .mul rt ra rb sz), (imm 0x3C, .divu rt ra rb sz), (imm 0x3E, .div rt ra rb sz)]
    let rows := coded ++ plain ++ products ++ constants
    (∀ p ∈ rows, p.1 = true → exec (.rtop rt ra rb rc sz) s = exec p.2 s) ∧
    ((∀ p ∈ rows, p.1 = false) → IsReserved (.rtop rt ra rb rc sz) s) ∧
    (reg 0x04 || imm 0x04 → done (both fun _ a b => a + b)) ∧ (reg 0x05 → done (both fun _ a b => a - b)) ∧
    (reg 0x08 || imm 0x08 → done (both fun _ a b => a &&& b)) ∧
    (reg 0x09 || imm 0x09 → done (both fun _ a b => a ||| b)) ∧
    (reg 0x0A || imm 0x0A → done (both fun _ a b => a ^^^ b)))

/-- MOV reaches the register set its direction names; CHK passes inside the bounds and raises outside (40_integer_alu
R360, 40_integer_alu R337, 10_state R61, 10_state R30). -/
def Obligations.MoveAndBoundsCheck : Prop :=
  (∀ (s : State) (d : BitVec 3) (q : BitVec 6) (rt ra : RegNo), s.cfg.stackBounds = none ∨ (rt ≠ 30 ∧ rt ≠ 31) →
    let sets : BitVec 6 × BitVec 6 :=
      if d = 0 then (q, s.rs) else if d = 1 then (s.rs, q) else if d = 2 then (field s.csr.rsStack 0 6, s.rs)
      else if d = 3 then (s.rs, field s.csr.rsStack 0 6) else if d = 4 then (s.fps, s.rs)
      else if d = 5 then (s.rs, s.fps) else if d = 6 then (s.fps, s.fps) else (s.rs, s.rs)
    exec (.mov d q rt ra) s = .next (s.setReg sets.1 rt (s.reg sets.2 ra)).advance) ∧
  (∀ (s : State) (ra rb rc : RegNo) (imm : BitVec 14),
    let within (hi : Word) : Prop := (s.x rb).toInt ≤ (s.x ra).toInt ∧ (s.x ra).toInt < hi.toInt
    (within (s.x rc) → exec (.chk ra rb rc) s = .next s.advance) ∧
    (¬within (s.x rc) → exec (.chk ra rb rc) s = .next (raise causeCHK s)) ∧
    (within (sext64 imm) → exec (.chki ra rb imm) s = .next s.advance) ∧
    (¬within (sext64 imm) → exec (.chki ra rb imm) s = .next (raise causeCHK s)))

/-- Shifts and rotates by a register or immediate count write their result; ASL notes overflow (41_shift_bitfield R400
to R406, 10_state R47). -/
def Obligations.ShiftResults : Prop :=
  ∀ (rt ra rb : RegNo) (k : BitVec 6),
    let lost (a : Word) (n : Nat) : Bool := (List.range n).any fun j => bitAt a (63 - j) != bitAt (a <<< n) 63
    WritesX (.shl rt ra rb) rt (fun s => (fun (a : Word) n => a <<< n) (s.x ra) ((s.x rb).toNat % 64)) ∧
    WritesX (.shlImm rt ra k) rt (fun s => (fun (a : Word) n => a <<< n) (s.x ra) k.toNat) ∧
    WritesX (.shr rt ra rb) rt (fun s => (fun (a : Word) n => a >>> n) (s.x ra) ((s.x rb).toNat % 64)) ∧
    WritesX (.shrImm rt ra k) rt (fun s => (fun (a : Word) n => a >>> n) (s.x ra) k.toNat) ∧
    WritesX (.asr rt ra rb) rt (fun s => (fun (a : Word) n => a.sshiftRight n) (s.x ra) ((s.x rb).toNat % 64)) ∧
    WritesX (.asrImm rt ra k) rt (fun s => (fun (a : Word) n => a.sshiftRight n) (s.x ra) k.toNat) ∧
    WritesX (.rol rt ra rb) rt (fun s => (fun (a : Word) n => a.rotateLeft n) (s.x ra) ((s.x rb).toNat % 64)) ∧
    WritesX (.rolImm rt ra k) rt (fun s => (fun (a : Word) n => a.rotateLeft n) (s.x ra) k.toNat) ∧
    WritesX (.ror rt ra rb) rt (fun s => (fun (a : Word) n => a.rotateRight n) (s.x ra) ((s.x rb).toNat % 64)) ∧
    WritesX (.rorImm rt ra k) rt (fun s => (fun (a : Word) n => a.rotateRight n) (s.x ra) k.toNat) ∧
    WritesXNoting 34 2 causeOFL (.asl rt ra rb) rt (fun s => lost (s.x ra) ((s.x rb).toNat % 64))
      (fun s => s.x ra <<< ((s.x rb).toNat % 64)) ∧
    WritesXNoting 34 2 causeOFL (.aslImm rt ra k) rt (fun s => lost (s.x ra) k.toNat) (fun s => s.x ra <<< k.toNat)

/-- The 48-bit shifts and XOR:[op] apply their second operation to the first result (41_shift_bitfield R412,
40_integer_alu R320). -/
def Obligations.ShiftWithSecondOperation : Prop :=
  ∀ (rt ra rb rc : RegNo) (op2 : BitVec 6) (sz : BitVec 3) (f : LaneFn2),
    let lost (a : Word) (n : Nat) : Bool := (List.range n).any fun j => bitAt a (63 - j) != bitAt (a <<< n) 63
    let shifted (g : (w : Nat) → BitVec w → Nat → BitVec w) (a : Word) (n : Nat) : Word :=
      if sz = 0 then sext64 (g 8 (field a 0 8) (n % 8)) else if sz = 1 then sext64 (g 16 (field a 0 16) (n % 16))
      else if sz = 2 then sext64 (g 32 (field a 0 32) (n % 32)) else lanes1 sz (fun w x => g w x (n % w)) a
    let shifts (i : ShiftCount → Instr) (g : (w : Nat) → BitVec w → Nat → BitVec w) : Prop :=
      (∀ k, (op2.toNat, f) ∈ secondOps →
        WritesX (i (.imm k)) rt (fun s => lanes2 sz f (shifted g (s.x ra) k.toNat) (s.x rc))) ∧
      ((op2.toNat, f) ∈ secondOps →
        WritesX (i (.reg rb)) rt (fun s => lanes2 sz f (shifted g (s.x ra) (s.x rb).toNat) (s.x rc))) ∧
      (op2.toNat ∉ secondOps.map Prod.fst → ∀ n s, IsReserved (i n) s)
    shifts (fun n => .shlOp op2 sz n rt ra rc) (fun _ a n => a <<< n) ∧
    shifts (fun n => .shrOp op2 sz n rt ra rc) (fun _ a n => a >>> n) ∧
    shifts (fun n => .asrOp op2 sz n rt ra rc) (fun _ a n => a.sshiftRight n) ∧
    shifts (fun n => .rolOp op2 sz n rt ra rc) (fun _ a n => a.rotateLeft n) ∧
    shifts (fun n => .rorOp op2 sz n rt ra rc) (fun _ a n => a.rotateRight n) ∧
    ((sz = 0 ∨ sz = 1 ∨ sz = 2 ∨ sz = 4 ∨ sz = 5 ∨ sz = 6) → shifts (fun n => .aslOp op2 sz n rt ra rc) (fun _ a n => a <<< n)) ∧
    ((sz = 3 ∨ sz = 7) → (op2.toNat, f) ∈ secondOps →
      (∀ k, WritesXNoting 34 2 causeOFL (.aslOp op2 sz (.imm k) rt ra rc) rt (fun s => lost (s.x ra) k.toNat)
        (fun s => lanes2 sz f (s.x ra <<< k.toNat) (s.x rc))) ∧
      WritesXNoting 34 2 causeOFL (.aslOp op2 sz (.reg rb) rt ra rc) rt (fun s => lost (s.x ra) ((s.x rb).toNat % 64))
        (fun s => lanes2 sz f (s.x ra <<< ((s.x rb).toNat % 64)) (s.x rc))) ∧
    (op2.toNat ∉ secondOps.map Prod.fst → ∀ n s, IsReserved (.aslOp op2 sz n rt ra rc) s) ∧
    ((op2.toNat, f) ∈ secondOps → WritesX (.xorOp op2 sz rt ra rb rc) rt (fun s =>
      lanes2 sz f (lanes2 sz (fun _ a b => a ^^^ b) (s.x ra) (s.x rb)) (s.x rc))) ∧
    (op2.toNat ∉ secondOps.map Prod.fst → ∀ s, IsReserved (.xorOp op2 sz rt ra rb rc) s)

/-- The bitfield instructions write their result bit by bit as the field says (41_shift_bitfield R420 to R428). -/
def Obligations.BitfieldResults : Prop :=
  ∀ (rt : RegNo) (rg : BitVec 3) (da : BitVec 16) (bw bo : BitVec 6) (s : State),
    let f := bfOperands s rg da bw bo
    let inside (k : Nat) : Bool := decide (f.offset ≤ k) && decide (k < f.offset + f.width)
    let len := min f.width (64 - f.offset)
    let gives (i : Instr) (p : Word → Prop) : Prop :=
      ∃ v, p v ∧ (stackFault s s.rs rt v = false → exec i s = .next (s.setX rt v).advance) ∧
        (stackFault s s.rs rt v = true → exec i s = .next (raise causeSTK s))
    gives (.bfclr rt rg da bw bo) (fun v => ∀ k < 64, bitAt v k = (bitAt f.data k && !inside k)) ∧
    gives (.bfchg rt rg da bw bo) (fun v => ∀ k < 64, bitAt v k = (bitAt f.data k != inside k)) ∧
    gives (.bfins rt rg da bw bo) (fun v => ∀ k < 64, bitAt v k =
      if inside k then bitAt f.data (k - f.offset) else bitAt (s.x rt) k) ∧
    gives (.bfinsi rt rg da bw bo) (fun v => ∀ k < 64, bitAt v k =
      if inside k then bitAt (zext64 da : Word) (k - f.offset) else bitAt (s.x rt) k) ∧
    gives (.bfextu rt rg da bw bo) (fun v => ∀ k < 64, bitAt v k =
      if k < len then bitAt f.data (f.offset + k) else false) ∧
    gives (.bfext rt rg da bw bo) (fun v => ∀ k < 64, bitAt v k =
      if k < len then bitAt f.data (f.offset + k) else decide (0 < len) && bitAt f.data (f.offset + len - 1)) ∧
    gives (.bfffo rt rg da bw bo) (fun v =>
      (∃ n < 64, inside n = true ∧ bitAt f.data n = true ∧ v = BitVec.ofNat 64 n ∧
        ∀ k, n < k → k < 64 → inside k = true → bitAt f.data k = false) ∨
      (v = BitVec.allOnes 64 ∧ ∀ k < 64, inside k = true → bitAt f.data k = false))

/-- Every conditional branch goes to its target when its condition holds and falls through when not (44_flow_control
R580, 44_flow_control R582, 44_flow_control R595, 44_flow_control R596, 44_flow_control R597, 46_compressed R724,
46_compressed R725, 46_compressed R726). -/
def Obligations.BranchesGoOrFallThrough : Prop :=
  ∀ (ra rb : RegNo) (disp : BitVec 11) (bit : BitVec 6) (imm : BitVec 8) (d10 : BitVec 10) (d7 : BitVec 7),
    let target : State → Word := fun s => setField s.pc 1 (field s.pc 1 31 + disp.signExtend 31)
    BranchesTo (.beq ra rb disp) (disp = 0) (fun s => s.x ra == s.x rb) target ∧
    BranchesTo (.bne ra rb disp) (disp = 0) (fun s => s.x ra != s.x rb) target ∧
    BranchesTo (.blt ra rb disp) (disp = 0) (fun s => (s.x ra).slt (s.x rb)) target ∧
    BranchesTo (.bge ra rb disp) (disp = 0) (fun s => (s.x rb).sle (s.x ra)) target ∧
    BranchesTo (.bltu ra rb disp) (disp = 0) (fun s => (s.x ra).ult (s.x rb)) target ∧
    BranchesTo (.bgeu ra rb disp) (disp = 0) (fun s => (s.x rb).ule (s.x ra)) target ∧
    BranchesTo (.band ra rb disp) (disp = 0) (fun s => s.x ra != 0 && s.x rb != 0) target ∧
    BranchesTo (.bor ra rb disp) (disp = 0) (fun s => s.x ra != 0 || s.x rb != 0) target ∧
    BranchesTo (.bbs ra bit disp) (disp = 0) (fun s => bitAt (s.x ra) bit.toNat) target ∧
    BranchesTo (.bbc ra bit disp) (disp = 0) (fun s => !bitAt (s.x ra) bit.toNat) target ∧
    BranchesTo (.beqi ra imm disp) (disp = 0) (fun s => s.x ra == sext64 imm) target ∧
    BranchesTo (.bnei ra imm disp) (disp = 0) (fun s => s.x ra != sext64 imm) target ∧
    FpBranchesTo (.fbeq ra rb disp) (disp = 0) (fun s => fpEq (s.f ra) (s.f rb)) target ∧
    FpBranchesTo (.fbne ra rb disp) (disp = 0) (fun s => !fpEq (s.f ra) (s.f rb)) target ∧
    FpBranchesTo (.fblt ra rb disp) (disp = 0) (fun s => fpLt (s.f ra) (s.f rb)) target ∧
    FpBranchesTo (.fbge ra rb disp) (disp = 0) (fun s => fpLe (s.f rb) (s.f ra)) target ∧
    FpBranchesTo (.fbun ra rb disp) (disp = 0) (fun s => fpIsNan (s.f ra) || fpIsNan (s.f rb)) target ∧
    BranchesTo (.bra16 d10) (d10 = 0) (fun _ => true) (fun s => setField s.pc 0 (field s.pc 0 32 + d10.signExtend 32)) ∧
    BranchesTo (.beqz16 ra d7) (d7 = 0) (fun s => s.x ra == 0) (fun s => setField s.pc 0 (field s.pc 0 32 + d7.signExtend 32)) ∧
    BranchesTo (.bnez16 ra d7) (d7 = 0) (fun s => s.x ra != 0) (fun s => setField s.pc 0 (field s.pc 0 32 + d7.signExtend 32))

/-- A conditional branch to itself raises BD when taken, at its own address, and falls through when not (44_flow_control
R581, 44_flow_control R597, 46_compressed R703, 46_compressed R724, 46_compressed R725, 46_compressed R726). That a
branch not taken falls through is decision D75 of the spec: assumption log 21. -/
def Obligations.TakenBranchToItselfRaisesBd : Prop :=
  (∀ s : State, field (raise causeBD s).csr.cause0 0 8 = 55 ∧ (raise causeBD s).csr.epc.r0 = s.pc) ∧
  ∀ (ra rb : RegNo) (bit : BitVec 6) (imm : BitVec 8),
    RaisesBd (.beq ra rb 0) (fun _ => True) (fun s => s.x ra == s.x rb) ∧
    RaisesBd (.bne ra rb 0) (fun _ => True) (fun s => s.x ra != s.x rb) ∧
    RaisesBd (.blt ra rb 0) (fun _ => True) (fun s => (s.x ra).slt (s.x rb)) ∧
    RaisesBd (.bge ra rb 0) (fun _ => True) (fun s => (s.x rb).sle (s.x ra)) ∧
    RaisesBd (.bltu ra rb 0) (fun _ => True) (fun s => (s.x ra).ult (s.x rb)) ∧
    RaisesBd (.bgeu ra rb 0) (fun _ => True) (fun s => (s.x rb).ule (s.x ra)) ∧
    RaisesBd (.band ra rb 0) (fun _ => True) (fun s => s.x ra != 0 && s.x rb != 0) ∧
    RaisesBd (.bor ra rb 0) (fun _ => True) (fun s => s.x ra != 0 || s.x rb != 0) ∧
    RaisesBd (.bbs ra bit 0) (fun _ => True) (fun s => bitAt (s.x ra) bit.toNat) ∧
    RaisesBd (.bbc ra bit 0) (fun _ => True) (fun s => !bitAt (s.x ra) bit.toNat) ∧
    RaisesBd (.beqi ra imm 0) (fun _ => True) (fun s => s.x ra == sext64 imm) ∧
    RaisesBd (.bnei ra imm 0) (fun _ => True) (fun s => s.x ra != sext64 imm) ∧
    RaisesBd (.fbeq ra rb 0) (fun s => s.cfg.numFpu ≠ 0) (fun s => fpEq (s.f ra) (s.f rb)) ∧
    RaisesBd (.fbne ra rb 0) (fun s => s.cfg.numFpu ≠ 0) (fun s => !fpEq (s.f ra) (s.f rb)) ∧
    RaisesBd (.fblt ra rb 0) (fun s => s.cfg.numFpu ≠ 0) (fun s => fpLt (s.f ra) (s.f rb)) ∧
    RaisesBd (.fbge ra rb 0) (fun s => s.cfg.numFpu ≠ 0) (fun s => fpLe (s.f rb) (s.f ra)) ∧
    RaisesBd (.fbun ra rb 0) (fun s => s.cfg.numFpu ≠ 0) (fun s => fpIsNan (s.f ra) || fpIsNan (s.f rb)) ∧
    RaisesBd (.bra16 0) (fun _ => True) (fun _ => true) ∧
    RaisesBd (.beqz16 ra 0) (fun _ => True) (fun s => s.x ra == 0) ∧
    RaisesBd (.bnez16 ra 0) (fun _ => True) (fun s => s.x ra != 0)

/-- Jumps, calls and returns go to their target and write their link or stack register (44_flow_control R590,
44_flow_control R591, 44_flow_control R592, 44_flow_control R593, 46_compressed R710, 46_compressed R722,
46_compressed R732). -/
def Obligations.JumpsCallsAndReturns : Prop :=
  ∀ (rt ra lr : RegNo) (a24 : BitVec 24) (a38 : BitVec 38) (seg : BitVec 2) (i14 : BitVec 14) (i28 : BitVec 28)
    (i9 : BitVec 9) (a10 : BitVec 10) (amt : BitVec 5),
    let sel (s : State) : BitVec 24 :=
      if seg = 0 then s.segZs else if seg = 1 then s.segEs else if seg = 2 then s.segHs else field s.pc 40 24
    let far (s : State) : Word := sel s ++ field s.pc 38 2 ++ a38
    (∀ s, exec (.jmp (.near a24)) s = .next (s.setPc (field s.pc 24 40 ++ a24 : BitVec 64))) ∧
    (∀ s, exec (.jmp (.far seg a38)) s = .next (s.setPc (far s))) ∧
    LinksTo (.call (.near a24)) 29 (fun s => s.nextPc) (fun s => (field s.pc 24 40 ++ a24 : BitVec 64)) ∧
    LinksTo (.call (.far seg a38)) 29 (fun s => s.nextPc) far ∧
    LinksTo (.call16 a10) 29 (fun s => s.nextPc) (fun s => (field s.pc 10 54 ++ a10 : BitVec 64)) ∧
    LinksTo (.jal rt ra (.near i14)) rt (fun s => s.nextPc) (fun s => s.x ra + sext64 i14) ∧
    LinksTo (.jal rt ra (.far seg i28)) rt (fun s => s.nextPc)
      (fun s => (sel s ++ field (s.x ra + sext64 i28) 0 40 : BitVec 64)) ∧
    LinksTo (.jalr16 ra rt) rt (fun s => s.nextPc) (fun s => s.x ra) ∧
    LinksTo (.ret lr rt ra i9) rt (fun s => s.x ra + 8 * zext64 i9) (fun s => s.x lr) ∧
    LinksTo (.ret16 amt) 31 (fun s => s.x 31 + 8 * zext64 amt) (fun s => s.x 29)

/-- The compressed arithmetic instructions write the result of their full-length operation (46_compressed R701,
46_compressed R706 to R709, 46_compressed R711 to R718, 46_compressed R730, 46_compressed R731). -/
def Obligations.CompressedResults : Prop :=
  (∀ (rt ra : RegNo) (amt : BitVec 5),
    WritesX (.addisp amt) 31 (fun s => s.x 31 + 8 * sext64 amt) ∧
    WritesX (.addi16 rt amt) rt (fun s => s.x rt + sext64 amt) ∧
    WritesX (.ldi16 rt amt) rt (fun _ => sext64 amt) ∧
    WritesX (.andi16 rt amt) rt (fun s => s.x rt &&& sext64 amt) ∧
    WritesX (.shli16 rt amt) rt (fun s => s.x rt <<< amt.toNat) ∧
    WritesX (.mov16 ra rt) rt (fun s => s.x ra) ∧
    WritesX (.add16 rt ra) rt (fun s => s.x rt + s.x ra)) ∧
  (∀ (q r : BitVec 3) (amt : BitVec 5) (s : State),
    let rt := s.cfg.cregMap.getD q.toNat 0
    let rb := s.cfg.cregMap.getD r.toNat 0
    let gives (i : Instr) (v : Word) : Prop :=
      (stackFault s s.rs rt v = false → exec i s = .next (s.setX rt v).advance) ∧
      (stackFault s s.rs rt v = true → exec i s = .next (raise causeSTK s))
    gives (.ori16 q amt) (s.x rt ||| sext64 amt) ∧ gives (.shri16 q amt) (s.x rt >>> amt.toNat) ∧
    gives (.asri16 q amt) ((s.x rt).sshiftRight amt.toNat) ∧ gives (.sub16 q r) (s.x rt - s.x rb) ∧
    gives (.and16 q r) (s.x rt &&& s.x rb) ∧ gives (.or16 q r) (s.x rt ||| s.x rb) ∧
    gives (.xor16 q r) (s.x rt ^^^ s.x rb))

/-- Floating-point arithmetic and conversions write result, flags and status, or take FLT (47_float R762 to R765,
47_float R768, 47_float R769, 47_float R770 to R774, 47_float R790 to R792, 47_float R802). That a stack fault of
the write keeps the flags already gathered in FSTAT is the choice of the model: assumption log 38. What of the
arithmetic comes from general knowledge is named in assumption log 31, the rounding codes in assumption log 47. -/
def Obligations.FpArithmeticWritesResultAndStatus : Prop :=
  ∀ (rt ra rb : RegNo) (f : FpForm) (prc : BitVec 4) (rm : BitVec 3) (long fromX : Bool),
    let env (s : State) (m : BitVec 3) : FpEnv :=
      { mode := fpMode (if m = s.cfg.rmDynamic then field s.csr.fstat 29 3 else m)
        tininess := s.cfg.fpTininess, nan := s.cfg.fpNanResult }
    let fm : BitVec 3 := match f with | .short m => m | .long _ m => m
    let fok (s : State) : Bool := match f with | .short _ => true | .long p _ => p == 2 || s.cfg.fpPrcIgnored
    let pok (s : State) : Bool := prc == 2 || s.cfg.fpPrcIgnored
    FpWrites fok (.fadd rt ra rb f) rt resultStatus (fun s => fpAdd (env s fm) (s.f ra) (s.f rb)) ∧
    FpWrites fok (.fsub rt ra rb f) rt resultStatus (fun s => fpSub (env s fm) (s.f ra) (s.f rb)) ∧
    FpWrites fok (.fmul rt ra rb f) rt resultStatus (fun s => fpMul (env s fm) (s.f ra) (s.f rb)) ∧
    FpWrites fok (.fdiv rt ra rb f) rt resultStatus (fun s => fpDiv (env s fm) (s.f ra) (s.f rb)) ∧
    FpWrites pok (.fsqrt rt ra prc rm long) rt resultStatus (fun s => fpSqrt (env s rm) (s.f ra)) ∧
    FpWrites pok (.ftoi rt ra prc rm long) rt integerStatus (fun s => fpToInt (env s rm) (s.f ra)) ∧
    FpWrites pok (.itof rt ra fromX prc rm long) rt resultStatus
      (fun s => fpOfInt (env s rm) (if fromX then s.x ra else s.f ra)) ∧
    FpWrites pok (.fcvtsd rt ra prc rm long) rt resultStatus (fun s => fpOfSingle (env s rm) (s.f ra))

/-- Floating-point compares write 0, 1 or the relation bits; sign operations change the sign bit alone (47_float R775 to
R780, 47_float R785 to R789, 47_float R802, 47_float R762). That a stack fault of the write keeps the flags already
gathered in FSTAT is the choice of the model: assumption log 38. -/
def Obligations.FpComparesAndMoves : Prop :=
  ∀ (rt ra rb : RegNo) (f : FpForm) (prc : BitVec 4) (rm : BitVec 3) (long : Bool),
    let fok (s : State) : Bool := match f with | .short _ => true | .long p _ => p == 2 || s.cfg.fpPrcIgnored
    let pok (s : State) : Bool := prc == 2 || s.cfg.fpPrcIgnored
    let snan (a b : Word) : Bool := fpIsSnan a || fpIsSnan b
    let quiet (a b v : Word) : FpResult :=
      { fpExact v with exc := if snan a b then excInvalid else 0, types := if snan a b then typSnan else 0 }
    let ordered (a b v : Word) : FpResult :=
      { fpExact v with
        exc := if fpUnordered a b then excInvalid else 0
        types := if fpUnordered a b then typNanCmp ||| (if snan a b then typSnan else 0) else 0 }
    let bit (c : Bool) : Word := if c then 1 else 0
    FpCompares fok (.fcmp rt ra rb f) rt (fun s => quiet (s.f ra) (s.f rb)
      (16 * bit (fpUnordered (s.f ra) (s.f rb)) + 8 * bit (fpLe (s.f ra) (s.f rb)) +
        4 * bit (fpMagLt (s.f ra) (s.f rb)) + 2 * bit (fpLt (s.f ra) (s.f rb)) + bit (fpEq (s.f ra) (s.f rb)))) ∧
    FpCompares fok (.fslt rt ra rb f) rt (fun s => ordered (s.f ra) (s.f rb) (bit (fpLt (s.f ra) (s.f rb)))) ∧
    FpCompares fok (.fsge rt ra rb f) rt (fun s => ordered (s.f ra) (s.f rb) (bit (fpLe (s.f rb) (s.f ra)))) ∧
    FpCompares fok (.fsle rt ra rb f) rt (fun s => ordered (s.f ra) (s.f rb) (bit (fpLe (s.f ra) (s.f rb)))) ∧
    FpCompares fok (.fsgt rt ra rb f) rt (fun s => ordered (s.f ra) (s.f rb) (bit (fpLt (s.f rb) (s.f ra)))) ∧
    FpCompares fok (.fseq rt ra rb f) rt (fun s => (if s.cfg.fpEqSignals then ordered else quiet)
      (s.f ra) (s.f rb) (bit (fpEq (s.f ra) (s.f rb)))) ∧
    FpCompares fok (.fsne rt ra rb f) rt (fun s => (if s.cfg.fpEqSignals then ordered else quiet)
      (s.f ra) (s.f rb) (bit (!fpEq (s.f ra) (s.f rb)))) ∧
    FpCompares fok (.fsun rt ra rb f) rt (fun s => quiet (s.f ra) (s.f rb) (bit (fpUnordered (s.f ra) (s.f rb)))) ∧
    FpMoves pok (.fmov rt ra prc rm long) rt (fun s => s.f ra) ∧
    FpMoves pok (.fneg rt ra prc rm long) rt (fun s => s.f ra ^^^ 0x8000000000000000) ∧
    FpMoves pok (.fabs rt ra prc rm long) rt (fun s => s.f ra &&& 0x7FFFFFFFFFFFFFFF) ∧
    FpMoves pok (.fnabs rt ra prc rm long) rt (fun s => s.f ra ||| 0x8000000000000000) ∧
    FpMoves pok (.fsign rt ra prc rm long) rt (fun s =>
      if field (s.f ra) 0 63 = 0 then 0 else if bitAt (s.f ra) 63 then 0xBFF0000000000000 else 0x3FF0000000000000)

/-- FTX, FCX, FEX and FDX set, clear, enable and disable the masked conditions; FSYNC only advances (47_float R795 to
R799, 47_float R802, 47_float R768). -/
def Obligations.FpFlagInstructions : Prop :=
  ∀ (ra : RegNo) (imm : BitVec 6) (f : FlagForm) (s : State),
    let m : BitVec 6 := imm ||| field (s.x ra) 0 6
    let ok : Bool := match f with | .short => true | .long p => p == 2 || s.cfg.fpPrcIgnored
    let w := s.csr.fstat
    let all : List Instr := [.ftx ra imm f, .fcx ra imm f, .fex ra imm f, .fdx ra imm f, .fsync f]
    let goes (i : Instr) (flags enables : BitVec 5) (summary swt : Bool) (types : BitVec 8) : Prop :=
      ∃ u, exec i s = .next (s.withFstat u).advance ∧ field u 10 5 = flags ∧ field u 24 5 = enables ∧
        bitAt u 8 = summary ∧ bitAt u 15 = swt ∧ field u 0 8 = types ∧ bitAt u 9 = (flags &&& enables != 0) ∧
        field u 16 8 = field w 16 8 ∧ field u 29 35 = field w 29 35
    (s.cfg.numFpu = 0 ∨ ok = false → ∀ i ∈ all, IsReserved i s) ∧
    (s.cfg.numFpu ≠ 0 → ok = true →
      exec (.fsync f) s = .next s.advance ∧
      (field m 0 5 &&& field w 24 5 = 0 → goes (.ftx ra imm f) (field w 10 5 ||| field m 0 5) (field w 24 5)
        (bitAt w 8 || field m 0 5 != 0) (bitAt w 15 || bitAt m 0) (field w 0 8)) ∧
      (field m 0 5 &&& field w 24 5 ≠ 0 → ∃ t, exec (.ftx ra imm f) s = .next t ∧
        field t.csr.cause0 0 8 = causeFLT ∧ t.csr.epc.r0 = s.nextPc ∧
        field t.csr.fstat 10 5 = field w 10 5 ||| field m 0 5 ∧ t.pc = vectorFor s.csr.tvec.r0 s.ol) ∧
      goes (.fcx ra imm f) (field w 10 5 &&& ~~~(field m 0 5)) (field w 24 5) (bitAt w 8 && !bitAt m 5)
        (bitAt w 15 && !bitAt m 0) (if bitAt m 0 then 0 else field w 0 8) ∧
      goes (.fex ra imm f) (field w 10 5) (field w 24 5 ||| field m 0 5) (bitAt w 8) (bitAt w 15) (field w 0 8) ∧
      goes (.fdx ra imm f) (field w 10 5) (field w 24 5 &&& ~~~(field m 0 5)) (bitAt w 8) (bitAt w 15) (field w 0 8))

/-- An integer of at most 53 bits survives conversion to double and back, in every rounding mode (47_float R790,
47_float R791, 47_float R763). -/
def Obligations.IntegerSurvivesFloatRoundTrip : Prop :=
  ∀ (env env' : FpEnv) (n : Word), n.toInt.natAbs ≤ 2 ^ 53 →
    (fpOfInt env n).exc = 0 ∧ (fpToInt env' (fpOfInt env n).bits).bits = n ∧ (fpToInt env' (fpOfInt env n).bits).exc = 0

/-- FADD of two registers is FADD of them exchanged, result and flags (47_float R765, 47_float R766, 47_float R770). -/
def Obligations.FloatAdditionCommutes : Prop :=
  ∀ (rt ra rb : RegNo) (f : FpForm) (s : State), s.cfg.fpNanResult = .canonical →
    exec (.fadd rt ra rb f) s = exec (.fadd rt rb ra f) s

/-- The element-wise integer, logic, shift and move instructions write exactly the enabled elements (48_vector R840 to
R845, 48_vector R847, 48_vector R860 to R882, 48_vector R889). -/
def Obligations.VectorElementwiseResults : Prop :=
  ∀ (fp : Bool) (len : VecLen) (sl : ShiftLen) (m : BitVec 3) (vt va vb ra rb amt : RegNo),
    let ready (rs : List RegNo) (s : State) : Bool :=
      vecReady s (match len with | .short => true | .long p _ => p == 2 || s.cfg.fpPrcIgnored) rs
    let shReady (s : State) : Bool :=
      vecReady s (match sl with | .short => true | .long s2 p _ => s2 != 3 && (p == 2 || s.cfg.fpPrcIgnored))
        (match sl with | .short => [vt, va] | .long s2 _ _ => if s2 = 1 then [vt, va, vb] else [vt, va])
    let amount (s : State) (e : Nat) : Nat :=
      match sl with
      | .short => (s.x vb).toNat % 64
      | .long s2 _ _ => if s2 = 0 then (s.x vb).toNat % 64 else if s2 = 1 then (s.vec vb e).toNat % 64 else vb.toNat
    VecWrites (ready [vt, va, vb]) (.vadd false len m vt va vb) vt (fun s => enabled s m)
      (fun s e => (fun (a b : Word) => a + b) (s.vec va e) (s.vec vb e)) ∧
    VecWrites (ready [vt, va, vb]) (.vsub false len m vt va vb) vt (fun s => enabled s m)
      (fun s e => (fun (a b : Word) => a - b) (s.vec va e) (s.vec vb e)) ∧
    VecWrites (ready [vt, va, vb]) (.vmul false len m vt va vb) vt (fun s => enabled s m)
      (fun s e => (fun (a b : Word) => a * b) (s.vec va e) (s.vec vb e)) ∧
    VecWrites (ready [vt, va, vb]) (.vdiv false len m vt va vb) vt (fun s => enabled s m)
      (fun s e => (fun (a b : Word) => fnDivS s.cfg.divByZero 64 a b) (s.vec va e) (s.vec vb e)) ∧
    VecWrites (ready [vt, va]) (.vadds false len m vt va rb) vt (fun s => enabled s m)
      (fun s e => (fun (a b : Word) => a + b) (s.vec va e) (s.x rb)) ∧
    VecWrites (ready [vt, va]) (.vsubs false len m vt va rb) vt (fun s => enabled s m)
      (fun s e => (fun (a b : Word) => a - b) (s.vec va e) (s.x rb)) ∧
    VecWrites (ready [vt, va]) (.vmuls false len m vt va rb) vt (fun s => enabled s m)
      (fun s e => (fun (a b : Word) => a * b) (s.vec va e) (s.x rb)) ∧
    VecWrites (ready [vt, va]) (.vdivs false len m vt va rb) vt (fun s => enabled s m)
      (fun s e => (fun (a b : Word) => fnDivS s.cfg.divByZero 64 a b) (s.vec va e) (s.x rb)) ∧
    VecWrites (ready [vt, va]) (.vsubrs false len m vt va rb) vt (fun s => enabled s m)
      (fun s e => (fun (a b : Word) => b - a) (s.vec va e) (s.x rb)) ∧
    VecWrites (ready [vt, va]) (.vneg false len m vt va) vt (fun s => enabled s m) (fun s e => -(s.vec va e)) ∧
    VecWrites (ready [vt, va, vb]) (.vand fp len m vt va vb) vt (fun s => enabled s m)
      (fun s e => (fun (a b : Word) => a &&& b) (s.vec va e) (s.vec vb e)) ∧
    VecWrites (ready [vt, va]) (.vands fp len m vt va rb) vt (fun s => enabled s m)
      (fun s e => (fun (a b : Word) => a &&& b) (s.vec va e) (s.x rb)) ∧
    VecWrites (ready [vt, va, vb]) (.vor fp len m vt va vb) vt (fun s => enabled s m)
      (fun s e => (fun (a b : Word) => a ||| b) (s.vec va e) (s.vec vb e)) ∧
    VecWrites (ready [vt, va]) (.vors fp len m vt va rb) vt (fun s => enabled s m)
      (fun s e => (fun (a b : Word) => a ||| b) (s.vec va e) (s.x rb)) ∧
    VecWrites (ready [vt, va, vb]) (.vxor fp len m vt va vb) vt (fun s => enabled s m)
      (fun s e => (fun (a b : Word) => a ^^^ b) (s.vec va e) (s.vec vb e)) ∧
    VecWrites (ready [vt, va]) (.vxors fp len m vt va rb) vt (fun s => enabled s m)
      (fun s e => (fun (a b : Word) => a ^^^ b) (s.vec va e) (s.x rb)) ∧
    VecWrites (ready [vt, va]) (.vabs fp len m vt va) vt (fun s => enabled s m) (fun s e =>
      if fp then s.vec va e &&& 0x7FFFFFFFFFFFFFFF else if (s.vec va e).slt 0 then -(s.vec va e) else s.vec va e) ∧
    VecWrites (ready [vt, va]) (.vsign fp len m vt va) vt (fun s => enabled s m) (fun s e =>
      if fp then fpSignum (s.vec va e) else if (s.vec va e).slt 0 then -1 else if s.vec va e = 0 then 0 else 1) ∧
    VecWrites (ready [vt, va]) (.vcntpop fp len m vt va) vt (fun s => enabled s m) (fun s e =>
      BitVec.ofNat 64 ((List.range 64).filter fun k => bitAt (s.vec va e) k).length) ∧
    VecWrites (ready [vt]) (.vbits2v fp len m vt ra) vt (fun s => enabled s m) (fun s e => if bitAt (s.x ra) e then 1 else 0) ∧
    VecWrites (ready [vt, va]) (.vshlv fp len m vt va amt) vt (fun s => enabled s m) (fun s e =>
      if amt.toNat ≤ e then s.vec va (e - amt.toNat) else 0) ∧
    VecWrites (ready [vt, va]) (.vshrv fp len m vt va amt) vt (fun s => enabled s m) (fun s e =>
      if e + amt.toNat < min s.vl.toNat 63 then s.vec va (e + amt.toNat) else 0) ∧
    VecWrites shReady (.vshl fp sl m vt va vb) vt (fun s => enabled s m)
      (fun s e => (fun (a : Word) (n : Nat) => a <<< n) (s.vec va e) (amount s e)) ∧
    VecWrites shReady (.vshr fp sl m vt va vb) vt (fun s => enabled s m)
      (fun s e => (fun (a : Word) (n : Nat) => a >>> n) (s.vec va e) (amount s e)) ∧
    VecWrites shReady (.vasr fp sl m vt va vb) vt (fun s => enabled s m)
      (fun s e => (fun (a : Word) (n : Nat) => a.sshiftRight n) (s.vec va e) (amount s e))

/-- The floating-point vector instructions write the enabled elements and gather the conditions in FSTAT (48_vector R842
to R846, 48_vector R860 to R868, 48_vector R884, 48_vector R885, 47_float R768). That a conversion under opcode 31h
in the long form rounds by FSTAT.RM is the choice of the model: assumption log 47 (R842 says only that Rm3 is
ignored there). -/
def Obligations.VectorFloatResults : Prop :=
  ∀ (fp : Bool) (len : VecLen) (m : BitVec 3) (vt va vb rb : RegNo),
    let ready (rs : List RegNo) (s : State) : Bool :=
      vecReady s (match len with | .short => true | .long p _ => p == 2 || s.cfg.fpPrcIgnored) rs
    let env (op : Bool) (s : State) : FpEnv :=
      { mode := fpMode (match len with
          | .short => field s.csr.fstat 29 3
          | .long _ r => if op = false ∨ r = s.cfg.rmDynamic then field s.csr.fstat 29 3 else r)
        tininess := s.cfg.fpTininess, nan := s.cfg.fpNanResult }
    VecFpWrites (ready [vt, va, vb]) (.vadd true len m vt va vb) m vt resultStatus
      (fun s e => fpAdd (env true s) (s.vec va e) (s.vec vb e)) ∧
    VecFpWrites (ready [vt, va, vb]) (.vsub true len m vt va vb) m vt resultStatus
      (fun s e => fpSub (env true s) (s.vec va e) (s.vec vb e)) ∧
    VecFpWrites (ready [vt, va, vb]) (.vmul true len m vt va vb) m vt resultStatus
      (fun s e => fpMul (env true s) (s.vec va e) (s.vec vb e)) ∧
    VecFpWrites (ready [vt, va, vb]) (.vdiv true len m vt va vb) m vt resultStatus
      (fun s e => fpDiv (env true s) (s.vec va e) (s.vec vb e)) ∧
    VecFpWrites (ready [vt, va]) (.vadds true len m vt va rb) m vt resultStatus
      (fun s e => fpAdd (env true s) (s.vec va e) (s.f rb)) ∧
    VecFpWrites (ready [vt, va]) (.vsubs true len m vt va rb) m vt resultStatus
      (fun s e => fpSub (env true s) (s.vec va e) (s.f rb)) ∧
    VecFpWrites (ready [vt, va]) (.vmuls true len m vt va rb) m vt resultStatus
      (fun s e => fpMul (env true s) (s.vec va e) (s.f rb)) ∧
    VecFpWrites (ready [vt, va]) (.vdivs true len m vt va rb) m vt resultStatus
      (fun s e => fpDiv (env true s) (s.vec va e) (s.f rb)) ∧
    VecFpWrites (ready [vt, va]) (.vsubrs true len m vt va rb) m vt resultStatus
      (fun s e => fpSub (env true s) (s.f rb) (s.vec va e)) ∧
    VecFpWrites (ready [vt, va]) (.vneg true len m vt va) m vt resultStatus (fun s e => fpSub (env true s) 0 (s.vec va e)) ∧
    VecFpWrites (ready [vt, va]) (.vflt2int fp len m vt va) m vt integerStatus (fun s e => fpToInt (env fp s) (s.vec va e)) ∧
    VecFpWrites (ready [vt, va]) (.vint2flt fp len m vt va) m vt resultStatus (fun s e => fpOfInt (env fp s) (s.vec va e))

/-- The vector compares write the condition to the mask bits of the enabled elements alone (48_vector R893, 48_vector
R843, 48_vector R846). -/
def Obligations.VectorComparesSetMaskBits : Prop :=
  ∀ (len : VecLen) (m cn mt : BitVec 3) (va vb rb : RegNo) (s : State),
    let form : Bool := match len with | .short => true | .long p _ => p == 2 || s.cfg.fpPrcIgnored
    let int (lt : Word → Word → Bool) (a b : Word) : Bool :=
      if cn = 0 then a == b else if cn = 1 then a != b else if cn = 2 then lt a b else if cn = 3 then !lt a b
      else if cn = 4 then !lt b a else if cn = 5 then lt b a else false
    let flt (a b : Word) : Bool :=
      if cn = 0 then fpEq a b else if cn = 1 then !fpEq a b else if cn = 2 then fpLt a b else if cn = 3 then fpLe b a
      else if cn = 4 then fpLe a b else if cn = 5 then fpLt b a else if cn = 7 then fpUnordered a b else false
    let note (a b : Word) : FpResult := fpQuietCmp a b 0
    let sets (i : Instr) (rs : List RegNo) (c : Nat → Bool) (w : Word) : Prop :=
      (vecReady s (form && cn != 6) rs = true → ∃ t, exec i s = .next t ∧ MaskBits s t mt (enabled s m) c w) ∧
      (vecReady s (form && cn != 6) rs = false → IsReserved i s)
    let gathered (r : Nat → FpResult) : Word := vecFstat s m r (fun r w => fstatNote w r.exc r.types)
    sets (.vsxx false len m cn mt va vb) [va, vb] (fun e => int BitVec.slt (s.vec va e) (s.vec vb e)) s.csr.fstat ∧
    sets (.vsxxs false len m cn mt va rb) [va] (fun e => int BitVec.slt (s.vec va e) (s.x rb)) s.csr.fstat ∧
    sets (.vsxxu len m cn mt va vb) [va, vb] (fun e => int BitVec.ult (s.vec va e) (s.vec vb e)) s.csr.fstat ∧
    sets (.vsxxsu len m cn mt va rb) [va] (fun e => int BitVec.ult (s.vec va e) (s.x rb)) s.csr.fstat ∧
    (field s.csr.fstat 24 5 = 0 →
      sets (.vsxx true len m cn mt va vb) [va, vb] (fun e => flt (s.vec va e) (s.vec vb e))
        (gathered fun e => note (s.vec va e) (s.vec vb e)) ∧
      sets (.vsxxs true len m cn mt va rb) [va] (fun e => flt (s.vec va e) (s.f rb))
        (gathered fun e => note (s.vec va e) (s.f rb)))

/-- Compress, compressed index, scan, exchange and the single-element transfers do as written (48_vector R883, 48_vector
R886, 48_vector R887, 48_vector R888, 48_vector R890, 48_vector R891, 48_vector R892). What element 63 reads and
takes is the choice of the model: assumption log 25. -/
def Obligations.VectorPackScanAndExchange : Prop :=
  ∀ (fp : Bool) (len : VecLen) (m : BitVec 3) (vt va vb ra rb rt : RegNo) (s : State), StoreWf 0 s.v →
    let form : Bool := match len with | .short => true | .long p _ => p == 2 || s.cfg.fpPrcIgnored
    let n := min s.vl.toNat 63
    let on : List Nat := (List.range n).filter fun e => bitAt (s.mask m) e
    let does (i : Instr) (rs : List RegNo) (p : State → Prop) : Prop :=
      (vecReady s form rs = true → ∃ t, exec i s = .next t ∧ p t ∧ { t with v := s.v } = s.advance) ∧
      (vecReady s form rs = false → IsReserved i s)
    does (.vcmprss fp len m vt va) [vt, va] (fun t => VecElems s t vt (fun y => decide (y < on.length))
      (fun y => s.vec va (on.getD y 0))) ∧
    does (.vcidx fp len m vt ra) [vt] (fun t => VecElems s t vt (fun y => decide (y < on.length))
      (fun y => s.x ra * BitVec.ofNat 64 (on.getD y 0))) ∧
    does (.vscan fp len m vt ra) [vt] (fun t => VecElems s t vt (fun e => decide (e < n))
      (fun e => s.x ra * BitVec.ofNat 64 (on.filter fun j => decide (j < e)).length)) ∧
    does (.vxchg fp len m va vb) [va, vb] (fun t =>
      (∀ e < 64, t.vec va e = (if enabled s m e then s.vec vb e else s.vec va e) ∧
        t.vec vb e = (if enabled s m e then s.vec va e else s.vec vb e)) ∧
      ∀ r, r ≠ va → r ≠ vb → ∀ e < 64, t.vec r e = s.vec r e) ∧
    does (.veins fp len m vt ra rb) [vt] (fun t => VecElems s t vt
      (fun e => decide (e < 63) && decide (e = (s.x ra).toNat % 64)) (fun _ => s.x rb)) ∧
    (vecReady s form [vb] = true → s.cfg.stackBounds = none →
      exec (.vex fp len m rt ra vb) s = .next (s.setX rt
        (if (s.x ra).toNat % 64 = 63 then 0 else s.vec vb ((s.x ra).toNat % 64))).advance) ∧
    (vecReady s form [va] = true → s.cfg.stackBounds = none →
      ∃ w : Word, exec (.v2bits fp len m rt va) s = .next (s.setX rt w).advance ∧
        ∀ e < 64, bitAt w e = (enabled s m e && bitAt (s.vec va e) 0)) ∧
    (vecReady s form [vb] = false → IsReserved (.vex fp len m rt ra vb) s) ∧
    (vecReady s form [va] = false → IsReserved (.v2bits fp len m rt va) s)

/-- The mask operations, VMOV and VSYNC read and write the masks and VL as they say (48_vector R840, 48_vector R895,
48_vector R896, 48_vector R897, 48_vector R898, 48_vector R899, 48_vector R900, 48_vector R901). That the unassigned
numbers of VMOV are reserved is the ruling U21 of the spec: assumption log 25. -/
def Obligations.VectorMaskAndControlInstructions : Prop :=
  ∀ (fp : Bool) (mt ma mb : BitVec 3) (rt ra ct : RegNo),
    let sup (s : State) : Bool := s.cfg.supVector
    let masks (i : Instr) (p : State → Word → Prop) : Prop := ∀ s : State,
      (s.cfg.supVector = true → ∃ w, exec i s = .next (s.setMask mt w).advance ∧ p s w) ∧
      (s.cfg.supVector = false → IsReserved i s)
    masks (.vmand fp mt ma mb) (fun s w => w = s.mask ma &&& s.mask mb) ∧
    masks (.vmor fp mt ma mb) (fun s w => w = s.mask ma ||| s.mask mb) ∧
    masks (.vmxor fp mt ma mb) (fun s w => w = s.mask ma ^^^ s.mask mb) ∧
    masks (.vmxnor fp mt ma mb) (fun s w => w = ~~~(s.mask ma ^^^ s.mask mb)) ∧
    masks (.vmfill fp mt ra) (fun s w => ∀ b < 64, bitAt w b = decide (b < (s.x ra).toNat)) ∧
    WritesXWhen sup (.vmpop fp rt ma) rt
      (fun s => BitVec.ofNat 64 ((List.range 64).filter fun k => bitAt (s.mask ma) k).length) ∧
    (∃ first last : State → Nat,
      WritesXWhen sup (.vmfirst fp rt ma) rt (fun s => BitVec.ofNat 64 (first s)) ∧
      WritesXWhen sup (.vmlast fp rt ma) rt (fun s => BitVec.ofNat 64 (last s)) ∧
      ∀ s, ((first s < 64 ∧ bitAt (s.mask ma) (first s) = true ∧ ∀ k < first s, bitAt (s.mask ma) k = false) ∨
          (first s = 64 ∧ ∀ k < 64, bitAt (s.mask ma) k = false)) ∧
        ((last s < 64 ∧ bitAt (s.mask ma) (last s) = true ∧
            ∀ k < 64, last s < k → bitAt (s.mask ma) k = false) ∨
          (last s = 64 ∧ ∀ k < 64, bitAt (s.mask ma) k = false))) ∧
    WritesXWhen (fun s => s.cfg.supVector && (decide (ct.toNat < 8) || ct == 15)) (.vmovFrom rt ct) rt
      (fun s => if ct.toNat < 8 then s.mask (field ct 0 3) else zext64 s.vl) ∧
    ∀ s : State,
      (s.cfg.supVector = true →
        exec (.vsync fp) s = .next s.advance ∧
        (ct.toNat < 8 → exec (.vmovTo ct ra) s = .next (s.setMask (field ct 0 3) (s.x ra)).advance) ∧
        (ct = 15 → exec (.vmovTo ct ra) s =
          .next { s with vl := BitVec.ofNat 7 (min ((s.x ra).toNat % 128) 63) }.advance) ∧
        (8 ≤ ct.toNat → ct ≠ 15 → IsReserved (.vmovTo ct ra) s)) ∧
      (s.cfg.supVector = false → IsReserved (.vsync fp) s ∧ IsReserved (.vmovTo ct ra) s)

/-- The vector loads and stores move exactly the enabled elements, at their computed addresses (48_vector R840,
48_vector R850 to R856, 20_memory R150, 20_memory R151). -/
def Obligations.VectorLoadsAndStores : Prop :=
  ∀ (vt ra rc : RegNo) (d : Imm) (sc : BitVec 2),
    let ready (rs : List RegNo) (s : State) : Bool := vecReady s true rs
    VecLoads (ready [vt]) (.lv vt ra d) vt (fun s e => s.x ra + immS d + BitVec.ofNat 64 (8 * e)) ∧
    VecLoads (ready [vt]) (.lvws vt ra rc sc) vt (fun s e => s.x ra + s.x rc * BitVec.ofNat 64 (8 * e)) ∧
    VecLoads (ready [vt, rc]) (.lvx vt ra rc sc) vt (fun s e => s.x ra + s.vec rc e) ∧
    VecStores (ready [vt]) (.sv vt ra d) vt (fun s e => s.x ra + immS d + BitVec.ofNat 64 (8 * e)) ∧
    VecStores (ready [vt]) (.svws vt ra rc sc) vt (fun s e => s.x ra + s.x rc * BitVec.ofNat 64 (8 * e)) ∧
    VecStores (ready [vt, rc]) (.svx vt ra rc sc) vt (fun s e => s.x ra + s.vec rc e)
end

