-- ==== Sys2Proof/Laws/Exec.lean ====
section
/-! SUPPORT. exec at each constructor, so that no later proof unfolds exec. -/

namespace Sys2Proof.Machine

variable (s : State)

@[simp] theorem exec_addi (rt : RegNo) (ra : RegNo) (imm : Imm) : exec (.addi rt ra imm) s = execAddi rt ra imm s := rfl
@[simp] theorem exec_slti (rt : RegNo) (ra : RegNo) (imm : Imm) : exec (.slti rt ra imm) s = execSlti rt ra imm s := rfl
@[simp] theorem exec_sltui (rt : RegNo) (ra : RegNo) (imm : Imm) : exec (.sltui rt ra imm) s = execSltui rt ra imm s := rfl
@[simp] theorem exec_andi (rt : RegNo) (ra : RegNo) (imm : Imm) : exec (.andi rt ra imm) s = execAndi rt ra imm s := rfl
@[simp] theorem exec_ori (rt : RegNo) (ra : RegNo) (imm : Imm) : exec (.ori rt ra imm) s = execOri rt ra imm s := rfl
@[simp] theorem exec_xori (rt : RegNo) (ra : RegNo) (imm : Imm) : exec (.xori rt ra imm) s = execXori rt ra imm s := rfl
@[simp] theorem exec_seqi (rt : RegNo) (ra : RegNo) (imm : Imm) : exec (.seqi rt ra imm) s = execSeqi rt ra imm s := rfl
@[simp] theorem exec_sgtui (rt : RegNo) (ra : RegNo) (imm : Imm) : exec (.sgtui rt ra imm) s = execSgtui rt ra imm s := rfl
@[simp] theorem exec_sgti (rt : RegNo) (ra : RegNo) (imm : Imm) : exec (.sgti rt ra imm) s = execSgti rt ra imm s := rfl
@[simp] theorem exec_mulfi (rt : RegNo) (ra : RegNo) (imm : Imm) : exec (.mulfi rt ra imm) s = execMulfi rt ra imm s := rfl
@[simp] theorem exec_modi (rt : RegNo) (ra : RegNo) (imm : Imm) : exec (.modi rt ra imm) s = execModi rt ra imm s := rfl
@[simp] theorem exec_mului (rt : RegNo) (ra : RegNo) (imm : Imm) : exec (.mului rt ra imm) s = execMului rt ra imm s := rfl
@[simp] theorem exec_muli (rt : RegNo) (ra : RegNo) (imm : Imm) : exec (.muli rt ra imm) s = execMuli rt ra imm s := rfl
@[simp] theorem exec_divui (rt : RegNo) (ra : RegNo) (imm : Imm) : exec (.divui rt ra imm) s = execDivui rt ra imm s := rfl
@[simp] theorem exec_divi (rt : RegNo) (ra : RegNo) (imm : Imm) : exec (.divi rt ra imm) s = execDivi rt ra imm s := rfl
@[simp] theorem exec_ldi (rt : RegNo) (imm : Imm) : exec (.ldi rt imm) s = execLdi rt imm s := rfl
@[simp] theorem exec_lui (rt : RegNo) (imm : UpperImm) : exec (.lui rt imm) s = execLui rt imm s := rfl
@[simp] theorem exec_auipc (rt : RegNo) (imm : UpperImm) : exec (.auipc rt imm) s = execAuipc rt imm s := rfl
@[simp] theorem exec_addv (rt : RegNo) (ra : RegNo) (rb : RegNo) (long : Bool) : exec (.addv rt ra rb long) s = execAddv rt ra rb long s := rfl
@[simp] theorem exec_add (rt : RegNo) (ra : RegNo) (rb : RegNo) (sz : BitVec 3) : exec (.add rt ra rb sz) s = execAdd rt ra rb sz s := rfl
@[simp] theorem exec_sub (rt : RegNo) (ra : RegNo) (rb : RegNo) (sz : BitVec 3) : exec (.sub rt ra rb sz) s = execSub rt ra rb sz s := rfl
@[simp] theorem exec_slt (rt : RegNo) (ra : RegNo) (rb : RegNo) (sz : BitVec 3) : exec (.slt rt ra rb sz) s = execSlt rt ra rb sz s := rfl
@[simp] theorem exec_sltu (rt : RegNo) (ra : RegNo) (rb : RegNo) (sz : BitVec 3) : exec (.sltu rt ra rb sz) s = execSltu rt ra rb sz s := rfl
@[simp] theorem exec_and (rt : RegNo) (ra : RegNo) (rb : RegNo) (sz : BitVec 3) : exec (.and rt ra rb sz) s = execAnd rt ra rb sz s := rfl
@[simp] theorem exec_or (rt : RegNo) (ra : RegNo) (rb : RegNo) (sz : BitVec 3) : exec (.or rt ra rb sz) s = execOr rt ra rb sz s := rfl
@[simp] theorem exec_xor (rt : RegNo) (ra : RegNo) (rb : RegNo) (sz : BitVec 3) : exec (.xor rt ra rb sz) s = execXor rt ra rb sz s := rfl
@[simp] theorem exec_seq (rt : RegNo) (ra : RegNo) (rb : RegNo) (sz : BitVec 3) : exec (.seq rt ra rb sz) s = execSeq rt ra rb sz s := rfl
@[simp] theorem exec_nand (rt : RegNo) (ra : RegNo) (rb : RegNo) : exec (.nand rt ra rb) s = execNand rt ra rb s := rfl
@[simp] theorem exec_nor (rt : RegNo) (ra : RegNo) (rb : RegNo) : exec (.nor rt ra rb) s = execNor rt ra rb s := rfl
@[simp] theorem exec_xnor (rt : RegNo) (ra : RegNo) (rb : RegNo) : exec (.xnor rt ra rb) s = execXnor rt ra rb s := rfl
@[simp] theorem exec_modu (rt : RegNo) (ra : RegNo) (rb : RegNo) (sz : BitVec 3) : exec (.modu rt ra rb sz) s = execModu rt ra rb sz s := rfl
@[simp] theorem exec_modsu (rt : RegNo) (ra : RegNo) (rb : RegNo) (sz : BitVec 3) : exec (.modsu rt ra rb sz) s = execModsu rt ra rb sz s := rfl
@[simp] theorem exec_mod (rt : RegNo) (ra : RegNo) (rb : RegNo) (sz : BitVec 3) : exec (.mod rt ra rb sz) s = execMod rt ra rb sz s := rfl
@[simp] theorem exec_ptrdif (rt : RegNo) (ra : RegNo) (rb : RegNo) (sc : BitVec 3) : exec (.ptrdif rt ra rb sc) s = execPtrdif rt ra rb sc s := rfl
@[simp] theorem exec_muluh (rt : RegNo) (ra : RegNo) (rb : RegNo) (sz : BitVec 3) : exec (.muluh rt ra rb sz) s = execMuluh rt ra rb sz s := rfl
@[simp] theorem exec_mulsuh (rt : RegNo) (ra : RegNo) (rb : RegNo) (sz : BitVec 3) : exec (.mulsuh rt ra rb sz) s = execMulsuh rt ra rb sz s := rfl
@[simp] theorem exec_mulh (rt : RegNo) (ra : RegNo) (rb : RegNo) (sz : BitVec 3) : exec (.mulh rt ra rb sz) s = execMulh rt ra rb sz s := rfl
@[simp] theorem exec_sle (rt : RegNo) (ra : RegNo) (rb : RegNo) (sz : BitVec 3) : exec (.sle rt ra rb sz) s = execSle rt ra rb sz s := rfl
@[simp] theorem exec_sleu (rt : RegNo) (ra : RegNo) (rb : RegNo) (sz : BitVec 3) : exec (.sleu rt ra rb sz) s = execSleu rt ra rb sz s := rfl
@[simp] theorem exec_mulf (rt : RegNo) (ra : RegNo) (rb : RegNo) (sz : BitVec 3) : exec (.mulf rt ra rb sz) s = execMulf rt ra rb sz s := rfl
@[simp] theorem exec_min (rt : RegNo) (ra : RegNo) (rb : RegNo) (sz : BitVec 3) : exec (.min rt ra rb sz) s = execMin rt ra rb sz s := rfl
@[simp] theorem exec_max (rt : RegNo) (ra : RegNo) (rb : RegNo) (sz : BitVec 3) : exec (.max rt ra rb sz) s = execMax rt ra rb sz s := rfl
@[simp] theorem exec_mulu (rt : RegNo) (ra : RegNo) (rb : RegNo) (sz : BitVec 3) : exec (.mulu rt ra rb sz) s = execMulu rt ra rb sz s := rfl
@[simp] theorem exec_mulsu (rt : RegNo) (ra : RegNo) (rb : RegNo) (sz : BitVec 3) : exec (.mulsu rt ra rb sz) s = execMulsu rt ra rb sz s := rfl
@[simp] theorem exec_mul (rt : RegNo) (ra : RegNo) (rb : RegNo) (sz : BitVec 3) : exec (.mul rt ra rb sz) s = execMul rt ra rb sz s := rfl
@[simp] theorem exec_fxmul (rt : RegNo) (ra : RegNo) (rb : RegNo) (sz : BitVec 3) : exec (.fxmul rt ra rb sz) s = execFxmul rt ra rb sz s := rfl
@[simp] theorem exec_divu (rt : RegNo) (ra : RegNo) (rb : RegNo) (sz : BitVec 3) : exec (.divu rt ra rb sz) s = execDivu rt ra rb sz s := rfl
@[simp] theorem exec_divsu (rt : RegNo) (ra : RegNo) (rb : RegNo) (sz : BitVec 3) : exec (.divsu rt ra rb sz) s = execDivsu rt ra rb sz s := rfl
@[simp] theorem exec_div (rt : RegNo) (ra : RegNo) (rb : RegNo) (sz : BitVec 3) : exec (.div rt ra rb sz) s = execDiv rt ra rb sz s := rfl
@[simp] theorem exec_bcdadd (rt : RegNo) (ra : RegNo) (rb : RegNo) : exec (.bcdadd rt ra rb) s = execBcdadd rt ra rb s := rfl
@[simp] theorem exec_bcdsub (rt : RegNo) (ra : RegNo) (rb : RegNo) : exec (.bcdsub rt ra rb) s = execBcdsub rt ra rb s := rfl
@[simp] theorem exec_bcdmul (rt : RegNo) (ra : RegNo) (rb : RegNo) : exec (.bcdmul rt ra rb) s = execBcdmul rt ra rb s := rfl
@[simp] theorem exec_mor (rt : RegNo) (ra : RegNo) (rb : RegNo) : exec (.mor rt ra rb) s = execMor rt ra rb s := rfl
@[simp] theorem exec_mxor (rt : RegNo) (ra : RegNo) (rb : RegNo) : exec (.mxor rt ra rb) s = execMxor rt ra rb s := rfl
@[simp] theorem exec_mort (rt : RegNo) (ra : RegNo) (rb : RegNo) : exec (.mort rt ra rb) s = execMort rt ra rb s := rfl
@[simp] theorem exec_mxort (rt : RegNo) (ra : RegNo) (rb : RegNo) : exec (.mxort rt ra rb) s = execMxort rt ra rb s := rfl
@[simp] theorem exec_mov (d : BitVec 3) (rs : BitVec 6) (rt : RegNo) (ra : RegNo) : exec (.mov d rs rt ra) s = execMov d rs rt ra s := rfl
@[simp] theorem exec_chk (ra : RegNo) (rb : RegNo) (rc : RegNo) : exec (.chk ra rb rc) s = execChk ra rb rc s := rfl
@[simp] theorem exec_chki (ra : RegNo) (rb : RegNo) (imm : BitVec 14) : exec (.chki ra rb imm) s = execChki ra rb imm s := rfl
@[simp] theorem exec_shl (rt : RegNo) (ra : RegNo) (rb : RegNo) : exec (.shl rt ra rb) s = execShl rt ra rb s := rfl
@[simp] theorem exec_shlImm (rt : RegNo) (ra : RegNo) (n : BitVec 6) : exec (.shlImm rt ra n) s = execShlImm rt ra n s := rfl
@[simp] theorem exec_shlOp (op2 : BitVec 6) (sz : BitVec 3) (n : ShiftCount) (rt : RegNo) (ra : RegNo) (rc : RegNo) : exec (.shlOp op2 sz n rt ra rc) s = execShlOp op2 sz n rt ra rc s := rfl
@[simp] theorem exec_shr (rt : RegNo) (ra : RegNo) (rb : RegNo) : exec (.shr rt ra rb) s = execShr rt ra rb s := rfl
@[simp] theorem exec_shrImm (rt : RegNo) (ra : RegNo) (n : BitVec 6) : exec (.shrImm rt ra n) s = execShrImm rt ra n s := rfl
@[simp] theorem exec_shrOp (op2 : BitVec 6) (sz : BitVec 3) (n : ShiftCount) (rt : RegNo) (ra : RegNo) (rc : RegNo) : exec (.shrOp op2 sz n rt ra rc) s = execShrOp op2 sz n rt ra rc s := rfl
@[simp] theorem exec_asl (rt : RegNo) (ra : RegNo) (rb : RegNo) : exec (.asl rt ra rb) s = execAsl rt ra rb s := rfl
@[simp] theorem exec_aslImm (rt : RegNo) (ra : RegNo) (n : BitVec 6) : exec (.aslImm rt ra n) s = execAslImm rt ra n s := rfl
@[simp] theorem exec_aslOp (op2 : BitVec 6) (sz : BitVec 3) (n : ShiftCount) (rt : RegNo) (ra : RegNo) (rc : RegNo) : exec (.aslOp op2 sz n rt ra rc) s = execAslOp op2 sz n rt ra rc s := rfl
@[simp] theorem exec_asr (rt : RegNo) (ra : RegNo) (rb : RegNo) : exec (.asr rt ra rb) s = execAsr rt ra rb s := rfl
@[simp] theorem exec_asrImm (rt : RegNo) (ra : RegNo) (n : BitVec 6) : exec (.asrImm rt ra n) s = execAsrImm rt ra n s := rfl
@[simp] theorem exec_asrOp (op2 : BitVec 6) (sz : BitVec 3) (n : ShiftCount) (rt : RegNo) (ra : RegNo) (rc : RegNo) : exec (.asrOp op2 sz n rt ra rc) s = execAsrOp op2 sz n rt ra rc s := rfl
@[simp] theorem exec_rol (rt : RegNo) (ra : RegNo) (rb : RegNo) : exec (.rol rt ra rb) s = execRol rt ra rb s := rfl
@[simp] theorem exec_rolImm (rt : RegNo) (ra : RegNo) (n : BitVec 6) : exec (.rolImm rt ra n) s = execRolImm rt ra n s := rfl
@[simp] theorem exec_rolOp (op2 : BitVec 6) (sz : BitVec 3) (n : ShiftCount) (rt : RegNo) (ra : RegNo) (rc : RegNo) : exec (.rolOp op2 sz n rt ra rc) s = execRolOp op2 sz n rt ra rc s := rfl
@[simp] theorem exec_ror (rt : RegNo) (ra : RegNo) (rb : RegNo) : exec (.ror rt ra rb) s = execRor rt ra rb s := rfl
@[simp] theorem exec_rorImm (rt : RegNo) (ra : RegNo) (n : BitVec 6) : exec (.rorImm rt ra n) s = execRorImm rt ra n s := rfl
@[simp] theorem exec_rorOp (op2 : BitVec 6) (sz : BitVec 3) (n : ShiftCount) (rt : RegNo) (ra : RegNo) (rc : RegNo) : exec (.rorOp op2 sz n rt ra rc) s = execRorOp op2 sz n rt ra rc s := rfl
@[simp] theorem exec_cntlz (rt : RegNo) (ra : RegNo) (sz : BitVec 3) : exec (.cntlz rt ra sz) s = execCntlz rt ra sz s := rfl
@[simp] theorem exec_cntlo (rt : RegNo) (ra : RegNo) (sz : BitVec 3) : exec (.cntlo rt ra sz) s = execCntlo rt ra sz s := rfl
@[simp] theorem exec_cntpop (rt : RegNo) (ra : RegNo) (sz : BitVec 3) : exec (.cntpop rt ra sz) s = execCntpop rt ra sz s := rfl
@[simp] theorem exec_com (rt : RegNo) (ra : RegNo) : exec (.com rt ra) s = execCom rt ra s := rfl
@[simp] theorem exec_abs (rt : RegNo) (ra : RegNo) (sz : BitVec 3) : exec (.abs rt ra sz) s = execAbs rt ra sz s := rfl
@[simp] theorem exec_not (rt : RegNo) (ra : RegNo) (sz : BitVec 3) : exec (.not rt ra sz) s = execNot rt ra sz s := rfl
@[simp] theorem exec_redor (rt : RegNo) (ra : RegNo) (sz : BitVec 3) : exec (.redor rt ra sz) s = execRedor rt ra sz s := rfl
@[simp] theorem exec_neg (rt : RegNo) (ra : RegNo) (sz : BitVec 3) : exec (.neg rt ra sz) s = execNeg rt ra sz s := rfl
@[simp] theorem exec_zxh (rt : RegNo) (ra : RegNo) : exec (.zxh rt ra) s = execZxh rt ra s := rfl
@[simp] theorem exec_zxc (rt : RegNo) (ra : RegNo) : exec (.zxc rt ra) s = execZxc rt ra s := rfl
@[simp] theorem exec_zxb (rt : RegNo) (ra : RegNo) : exec (.zxb rt ra) s = execZxb rt ra s := rfl
@[simp] theorem exec_sxh (rt : RegNo) (ra : RegNo) : exec (.sxh rt ra) s = execSxh rt ra s := rfl
@[simp] theorem exec_sxc (rt : RegNo) (ra : RegNo) : exec (.sxc rt ra) s = execSxc rt ra s := rfl
@[simp] theorem exec_sxb (rt : RegNo) (ra : RegNo) : exec (.sxb rt ra) s = execSxb rt ra s := rfl
@[simp] theorem exec_memdb : exec .memdb s = execMemdb s := rfl
@[simp] theorem exec_memsb : exec .memsb s = execMemsb s := rfl
@[simp] theorem exec_sync : exec .sync s = execSync s := rfl
@[simp] theorem exec_execBuf (n : BitVec 6) : exec (.execBuf n) s = execExecBuf n s := rfl
@[simp] theorem exec_chainoff : exec .chainoff s = execChainoff s := rfl
@[simp] theorem exec_chainon : exec .chainon s = execChainon s := rfl
@[simp] theorem exec_setwb (rn : RegNo) : exec (.setwb rn) s = execSetwb rn s := rfl
@[simp] theorem exec_wtme (ra : RegNo) (rb : RegNo) : exec (.wtme ra rb) s = execWtme ra rb s := rfl
@[simp] theorem exec_rtop (rt : RegNo) (ra : RegNo) (rb : RegNo) (rc : RegNo) (sz : BitVec 3) : exec (.rtop rt ra rb rc sz) s = execRtop rt ra rb rc sz s := rfl
@[simp] theorem exec_add3 (rt : RegNo) (ra : RegNo) (rb : RegNo) (rc : RegNo) : exec (.add3 rt ra rb rc) s = execAdd3 rt ra rb rc s := rfl
@[simp] theorem exec_or3 (rt : RegNo) (ra : RegNo) (rb : RegNo) (rc : RegNo) (sz : BitVec 3) : exec (.or3 rt ra rb rc sz) s = execOr3 rt ra rb rc sz s := rfl
@[simp] theorem exec_xorOp (op2 : BitVec 6) (sz : BitVec 3) (rt : RegNo) (ra : RegNo) (rb : RegNo) (rc : RegNo) : exec (.xorOp op2 sz rt ra rb rc) s = execXorOp op2 sz rt ra rb rc s := rfl
@[simp] theorem exec_subv (rt : RegNo) (ra : RegNo) (rb : RegNo) : exec (.subv rt ra rb) s = execSubv rt ra rb s := rfl
@[simp] theorem exec_mux (rt : RegNo) (ra : RegNo) (rb : RegNo) (rc : RegNo) : exec (.mux rt ra rb rc) s = execMux rt ra rb rc s := rfl
@[simp] theorem exec_cmovez (rt : RegNo) (ra : RegNo) (rb : RegNo) (rc : RegNo) : exec (.cmovez rt ra rb rc) s = execCmovez rt ra rb rc s := rfl
@[simp] theorem exec_cmovnz (rt : RegNo) (ra : RegNo) (rb : RegNo) (rc : RegNo) : exec (.cmovnz rt ra rb rc) s = execCmovnz rt ra rb rc s := rfl
@[simp] theorem exec_caddnz (rt : RegNo) (ra : RegNo) (rb : RegNo) (rc : RegNo) : exec (.caddnz rt ra rb rc) s = execCaddnz rt ra rb rc s := rfl
@[simp] theorem exec_cmovnzi (rt : RegNo) (ra : RegNo) (rb : RegNo) (imm : BitVec 16) : exec (.cmovnzi rt ra rb imm) s = execCmovnzi rt ra rb imm s := rfl
@[simp] theorem exec_caddnzi (rt : RegNo) (ra : RegNo) (rb : RegNo) (imm : BitVec 16) : exec (.caddnzi rt ra rb imm) s = execCaddnzi rt ra rb imm s := rfl
@[simp] theorem exec_min3 (rt : RegNo) (ra : RegNo) (rb : RegNo) (rc : RegNo) (sz : BitVec 3) : exec (.min3 rt ra rb rc sz) s = execMin3 rt ra rb rc sz s := rfl
@[simp] theorem exec_max3 (rt : RegNo) (ra : RegNo) (rb : RegNo) (rc : RegNo) (sz : BitVec 3) : exec (.max3 rt ra rb rc sz) s = execMax3 rt ra rb rc sz s := rfl
@[simp] theorem exec_maj (rt : RegNo) (ra : RegNo) (rb : RegNo) (rc : RegNo) : exec (.maj rt ra rb rc) s = execMaj rt ra rb rc s := rfl
@[simp] theorem exec_bfclr (rt : RegNo) (rg : BitVec 3) (da : BitVec 16) (bw : BitVec 6) (bo : BitVec 6) : exec (.bfclr rt rg da bw bo) s = execBfclr rt rg da bw bo s := rfl
@[simp] theorem exec_bfchg (rt : RegNo) (rg : BitVec 3) (da : BitVec 16) (bw : BitVec 6) (bo : BitVec 6) : exec (.bfchg rt rg da bw bo) s = execBfchg rt rg da bw bo s := rfl
@[simp] theorem exec_bfins (rt : RegNo) (rg : BitVec 3) (da : BitVec 16) (bw : BitVec 6) (bo : BitVec 6) : exec (.bfins rt rg da bw bo) s = execBfins rt rg da bw bo s := rfl
@[simp] theorem exec_bfinsi (rt : RegNo) (rg : BitVec 3) (da : BitVec 16) (bw : BitVec 6) (bo : BitVec 6) : exec (.bfinsi rt rg da bw bo) s = execBfinsi rt rg da bw bo s := rfl
@[simp] theorem exec_bfext (rt : RegNo) (rg : BitVec 3) (da : BitVec 16) (bw : BitVec 6) (bo : BitVec 6) : exec (.bfext rt rg da bw bo) s = execBfext rt rg da bw bo s := rfl
@[simp] theorem exec_bfextu (rt : RegNo) (rg : BitVec 3) (da : BitVec 16) (bw : BitVec 6) (bo : BitVec 6) : exec (.bfextu rt rg da bw bo) s = execBfextu rt rg da bw bo s := rfl
@[simp] theorem exec_bfffo (rt : RegNo) (rg : BitVec 3) (da : BitVec 16) (bw : BitVec 6) (bo : BitVec 6) : exec (.bfffo rt rg da bw bo) s = execBfffo rt rg da bw bo s := rfl
@[simp] theorem exec_nop (long : Bool) : exec (.nop long) s = execNop long s := rfl
@[simp] theorem exec_lb (rt : RegNo) (ra : RegNo) (imm : Imm) : exec (.lb rt ra imm) s = execLb rt ra imm s := rfl
@[simp] theorem exec_lbu (rt : RegNo) (ra : RegNo) (imm : Imm) : exec (.lbu rt ra imm) s = execLbu rt ra imm s := rfl
@[simp] theorem exec_lwr (rt : RegNo) (ra : RegNo) (imm : Imm) : exec (.lwr rt ra imm) s = execLwr rt ra imm s := rfl
@[simp] theorem exec_lc (rt : RegNo) (ra : RegNo) (disp : Imm) : exec (.lc rt ra disp) s = execLc rt ra disp s := rfl
@[simp] theorem exec_lh (rt : RegNo) (ra : RegNo) (disp : Imm) : exec (.lh rt ra disp) s = execLh rt ra disp s := rfl
@[simp] theorem exec_lw (rt : RegNo) (ra : RegNo) (disp : Imm) : exec (.lw rt ra disp) s = execLw rt ra disp s := rfl
@[simp] theorem exec_ld (rt : RegNo) (ra : RegNo) (disp : Imm) : exec (.ld rt ra disp) s = execLd rt ra disp s := rfl
@[simp] theorem exec_lcu (rt : RegNo) (ra : RegNo) (disp : Imm) : exec (.lcu rt ra disp) s = execLcu rt ra disp s := rfl
@[simp] theorem exec_lhu (rt : RegNo) (ra : RegNo) (disp : Imm) : exec (.lhu rt ra disp) s = execLhu rt ra disp s := rfl
@[simp] theorem exec_lfs (rt : RegNo) (ra : RegNo) (disp : Imm) : exec (.lfs rt ra disp) s = execLfs rt ra disp s := rfl
@[simp] theorem exec_lfd (rt : RegNo) (ra : RegNo) (disp : Imm) : exec (.lfd rt ra disp) s = execLfd rt ra disp s := rfl
@[simp] theorem exec_lfq (rt : RegNo) (ra : RegNo) (disp : Imm) : exec (.lfq rt ra disp) s = execLfq rt ra disp s := rfl
@[simp] theorem exec_lvc (rt : RegNo) (ra : RegNo) (disp : Imm) : exec (.lvc rt ra disp) s = execLvc rt ra disp s := rfl
@[simp] theorem exec_lvh (rt : RegNo) (ra : RegNo) (disp : Imm) : exec (.lvh rt ra disp) s = execLvh rt ra disp s := rfl
@[simp] theorem exec_lvw (rt : RegNo) (ra : RegNo) (disp : Imm) : exec (.lvw rt ra disp) s = execLvw rt ra disp s := rfl
@[simp] theorem exec_lvcu (rt : RegNo) (ra : RegNo) (disp : Imm) : exec (.lvcu rt ra disp) s = execLvcu rt ra disp s := rfl
@[simp] theorem exec_lvhu (rt : RegNo) (ra : RegNo) (disp : Imm) : exec (.lvhu rt ra disp) s = execLvhu rt ra disp s := rfl
@[simp] theorem exec_sb (rb : RegNo) (ra : RegNo) (disp : Imm) : exec (.sb rb ra disp) s = execSb rb ra disp s := rfl
@[simp] theorem exec_swc (rb : RegNo) (ra : RegNo) (disp : Imm) : exec (.swc rb ra disp) s = execSwc rb ra disp s := rfl
@[simp] theorem exec_sc (rb : RegNo) (ra : RegNo) (disp : Imm) : exec (.sc rb ra disp) s = execSc rb ra disp s := rfl
@[simp] theorem exec_sh (rb : RegNo) (ra : RegNo) (disp : Imm) : exec (.sh rb ra disp) s = execSh rb ra disp s := rfl
@[simp] theorem exec_sw (rb : RegNo) (ra : RegNo) (disp : Imm) : exec (.sw rb ra disp) s = execSw rb ra disp s := rfl
@[simp] theorem exec_sfs (rb : RegNo) (ra : RegNo) (disp : Imm) : exec (.sfs rb ra disp) s = execSfs rb ra disp s := rfl
@[simp] theorem exec_sfd (rb : RegNo) (ra : RegNo) (disp : Imm) : exec (.sfd rb ra disp) s = execSfd rb ra disp s := rfl
@[simp] theorem exec_sfq (rb : RegNo) (ra : RegNo) (disp : Imm) : exec (.sfq rb ra disp) s = execSfq rb ra disp s := rfl
@[simp] theorem exec_cas (rt : RegNo) (ra : RegNo) (disp : BitVec 14) : exec (.cas rt ra disp) s = execCas rt ra disp s := rfl
@[simp] theorem exec_pushc (rt : RegNo) (ra : RegNo) (imm : Imm) : exec (.pushc rt ra imm) s = execPushc rt ra imm s := rfl
@[simp] theorem exec_inc (amt : RegNo) (ra : RegNo) (imm : Imm) : exec (.inc amt ra imm) s = execInc amt ra imm s := rfl
@[simp] theorem exec_cache (cmd : RegNo) (ra : RegNo) (imm : Imm) : exec (.cache cmd ra imm) s = execCache cmd ra imm s := rfl
@[simp] theorem exec_lv (vt : RegNo) (ra : RegNo) (imm : Imm) : exec (.lv vt ra imm) s = execLv vt ra imm s := rfl
@[simp] theorem exec_sv (vb : RegNo) (ra : RegNo) (disp : Imm) : exec (.sv vb ra disp) s = execSv vb ra disp s := rfl
@[simp] theorem exec_lvbx (rt : RegNo) (ra : RegNo) (rc : RegNo) (sc : BitVec 2) : exec (.lvbx rt ra rc sc) s = execLvbx rt ra rc sc s := rfl
@[simp] theorem exec_lvbux (rt : RegNo) (ra : RegNo) (rc : RegNo) (sc : BitVec 2) : exec (.lvbux rt ra rc sc) s = execLvbux rt ra rc sc s := rfl
@[simp] theorem exec_lvcx (rt : RegNo) (ra : RegNo) (rc : RegNo) (sc : BitVec 2) : exec (.lvcx rt ra rc sc) s = execLvcx rt ra rc sc s := rfl
@[simp] theorem exec_lvcux (rt : RegNo) (ra : RegNo) (rc : RegNo) (sc : BitVec 2) : exec (.lvcux rt ra rc sc) s = execLvcux rt ra rc sc s := rfl
@[simp] theorem exec_lvhx (rt : RegNo) (ra : RegNo) (rc : RegNo) (sc : BitVec 2) : exec (.lvhx rt ra rc sc) s = execLvhx rt ra rc sc s := rfl
@[simp] theorem exec_lvhux (rt : RegNo) (ra : RegNo) (rc : RegNo) (sc : BitVec 2) : exec (.lvhux rt ra rc sc) s = execLvhux rt ra rc sc s := rfl
@[simp] theorem exec_lvwx (rt : RegNo) (ra : RegNo) (rc : RegNo) (sc : BitVec 2) : exec (.lvwx rt ra rc sc) s = execLvwx rt ra rc sc s := rfl
@[simp] theorem exec_lcx (rt : RegNo) (ra : RegNo) (rc : RegNo) (sc : BitVec 2) : exec (.lcx rt ra rc sc) s = execLcx rt ra rc sc s := rfl
@[simp] theorem exec_lcux (rt : RegNo) (ra : RegNo) (rc : RegNo) (sc : BitVec 2) : exec (.lcux rt ra rc sc) s = execLcux rt ra rc sc s := rfl
@[simp] theorem exec_lbux (rt : RegNo) (ra : RegNo) (rc : RegNo) (sc : BitVec 2) : exec (.lbux rt ra rc sc) s = execLbux rt ra rc sc s := rfl
@[simp] theorem exec_lhx (rt : RegNo) (ra : RegNo) (rc : RegNo) (sc : BitVec 2) : exec (.lhx rt ra rc sc) s = execLhx rt ra rc sc s := rfl
@[simp] theorem exec_lhux (rt : RegNo) (ra : RegNo) (rc : RegNo) (sc : BitVec 2) : exec (.lhux rt ra rc sc) s = execLhux rt ra rc sc s := rfl
@[simp] theorem exec_lwx (rt : RegNo) (ra : RegNo) (rc : RegNo) (sc : BitVec 2) : exec (.lwx rt ra rc sc) s = execLwx rt ra rc sc s := rfl
@[simp] theorem exec_lbx (rt : RegNo) (ra : RegNo) (rc : RegNo) (sc : BitVec 2) : exec (.lbx rt ra rc sc) s = execLbx rt ra rc sc s := rfl
@[simp] theorem exec_lwrx (rt : RegNo) (ra : RegNo) (rc : RegNo) (sc : BitVec 2) : exec (.lwrx rt ra rc sc) s = execLwrx rt ra rc sc s := rfl
@[simp] theorem exec_leax (rt : RegNo) (ra : RegNo) (rc : RegNo) (sc : BitVec 2) : exec (.leax rt ra rc sc) s = execLeax rt ra rc sc s := rfl
@[simp] theorem exec_lvx (vt : RegNo) (ra : RegNo) (vc : RegNo) (sc : BitVec 2) : exec (.lvx vt ra vc sc) s = execLvx vt ra vc sc s := rfl
@[simp] theorem exec_lvws (vt : RegNo) (ra : RegNo) (rc : RegNo) (sc : BitVec 2) : exec (.lvws vt ra rc sc) s = execLvws vt ra rc sc s := rfl
@[simp] theorem exec_lfsx (rt : RegNo) (ra : RegNo) (rc : RegNo) (sc : BitVec 2) : exec (.lfsx rt ra rc sc) s = execLfsx rt ra rc sc s := rfl
@[simp] theorem exec_lfdx (rt : RegNo) (ra : RegNo) (rc : RegNo) (sc : BitVec 2) : exec (.lfdx rt ra rc sc) s = execLfdx rt ra rc sc s := rfl
@[simp] theorem exec_cachex (cmd : RegNo) (ra : RegNo) (rc : RegNo) (sc : BitVec 2) : exec (.cachex cmd ra rc sc) s = execCachex cmd ra rc sc s := rfl
@[simp] theorem exec_lfqx (rt : RegNo) (ra : RegNo) (rc : RegNo) (sc : BitVec 2) : exec (.lfqx rt ra rc sc) s = execLfqx rt ra rc sc s := rfl
@[simp] theorem exec_sbx (rb : RegNo) (ra : RegNo) (rc : RegNo) (sc : BitVec 2) : exec (.sbx rb ra rc sc) s = execSbx rb ra rc sc s := rfl
@[simp] theorem exec_shx (rb : RegNo) (ra : RegNo) (rc : RegNo) (sc : BitVec 2) : exec (.shx rb ra rc sc) s = execShx rb ra rc sc s := rfl
@[simp] theorem exec_swx (rb : RegNo) (ra : RegNo) (rc : RegNo) (sc : BitVec 2) : exec (.swx rb ra rc sc) s = execSwx rb ra rc sc s := rfl
@[simp] theorem exec_swcx (rb : RegNo) (ra : RegNo) (rc : RegNo) (sc : BitVec 2) : exec (.swcx rb ra rc sc) s = execSwcx rb ra rc sc s := rfl
@[simp] theorem exec_scx (rb : RegNo) (ra : RegNo) (rc : RegNo) (sc : BitVec 2) : exec (.scx rb ra rc sc) s = execScx rb ra rc sc s := rfl
@[simp] theorem exec_casx (rt : RegNo) (ra : RegNo) (rc : RegNo) (sc : BitVec 2) : exec (.casx rt ra rc sc) s = execCasx rt ra rc sc s := rfl
@[simp] theorem exec_svws (vb : RegNo) (ra : RegNo) (rc : RegNo) (sc : BitVec 2) : exec (.svws vb ra rc sc) s = execSvws vb ra rc sc s := rfl
@[simp] theorem exec_incx (amt : RegNo) (ra : RegNo) (rc : RegNo) (sc : BitVec 2) : exec (.incx amt ra rc sc) s = execIncx amt ra rc sc s := rfl
@[simp] theorem exec_sfsx (rb : RegNo) (ra : RegNo) (rc : RegNo) (sc : BitVec 2) : exec (.sfsx rb ra rc sc) s = execSfsx rb ra rc sc s := rfl
@[simp] theorem exec_sfdx (rb : RegNo) (ra : RegNo) (rc : RegNo) (sc : BitVec 2) : exec (.sfdx rb ra rc sc) s = execSfdx rb ra rc sc s := rfl
@[simp] theorem exec_sfqx (rb : RegNo) (ra : RegNo) (rc : RegNo) (sc : BitVec 2) : exec (.sfqx rb ra rc sc) s = execSfqx rb ra rc sc s := rfl
@[simp] theorem exec_svx (vb : RegNo) (ra : RegNo) (vc : RegNo) (sc : BitVec 2) : exec (.svx vb ra vc sc) s = execSvx vb ra vc sc s := rfl
@[simp] theorem exec_push (rb : RegNo) (rt : RegNo) (ra : RegNo) : exec (.push rb rt ra) s = execPush rb rt ra s := rfl
@[simp] theorem exec_amoSwap (rt : RegNo) (ra : RegNo) (rb : RegNo) (sz : BitVec 3) (acq : Bool) (rel : Bool) : exec (.amoSwap rt ra rb sz acq rel) s = execAmoSwap rt ra rb sz acq rel s := rfl
@[simp] theorem exec_amoSwapImm (rt : RegNo) (ra : RegNo) (imm : BitVec 5) (sz : BitVec 3) (acq : Bool) (rel : Bool) : exec (.amoSwapImm rt ra imm sz acq rel) s = execAmoSwapImm rt ra imm sz acq rel s := rfl
@[simp] theorem exec_amoAdd (rt : RegNo) (ra : RegNo) (rb : RegNo) (sz : BitVec 3) (acq : Bool) (rel : Bool) : exec (.amoAdd rt ra rb sz acq rel) s = execAmoAdd rt ra rb sz acq rel s := rfl
@[simp] theorem exec_amoAddImm (rt : RegNo) (ra : RegNo) (imm : BitVec 5) (sz : BitVec 3) (acq : Bool) (rel : Bool) : exec (.amoAddImm rt ra imm sz acq rel) s = execAmoAddImm rt ra imm sz acq rel s := rfl
@[simp] theorem exec_amoAnd (rt : RegNo) (ra : RegNo) (rb : RegNo) (sz : BitVec 3) (acq : Bool) (rel : Bool) : exec (.amoAnd rt ra rb sz acq rel) s = execAmoAnd rt ra rb sz acq rel s := rfl
@[simp] theorem exec_amoAndImm (rt : RegNo) (ra : RegNo) (imm : BitVec 5) (sz : BitVec 3) (acq : Bool) (rel : Bool) : exec (.amoAndImm rt ra imm sz acq rel) s = execAmoAndImm rt ra imm sz acq rel s := rfl
@[simp] theorem exec_amoOr (rt : RegNo) (ra : RegNo) (rb : RegNo) (sz : BitVec 3) (acq : Bool) (rel : Bool) : exec (.amoOr rt ra rb sz acq rel) s = execAmoOr rt ra rb sz acq rel s := rfl
@[simp] theorem exec_amoOrImm (rt : RegNo) (ra : RegNo) (imm : BitVec 5) (sz : BitVec 3) (acq : Bool) (rel : Bool) : exec (.amoOrImm rt ra imm sz acq rel) s = execAmoOrImm rt ra imm sz acq rel s := rfl
@[simp] theorem exec_amoXor (rt : RegNo) (ra : RegNo) (rb : RegNo) (sz : BitVec 3) (acq : Bool) (rel : Bool) : exec (.amoXor rt ra rb sz acq rel) s = execAmoXor rt ra rb sz acq rel s := rfl
@[simp] theorem exec_amoXorImm (rt : RegNo) (ra : RegNo) (imm : BitVec 5) (sz : BitVec 3) (acq : Bool) (rel : Bool) : exec (.amoXorImm rt ra imm sz acq rel) s = execAmoXorImm rt ra imm sz acq rel s := rfl
@[simp] theorem exec_amoShl (rt : RegNo) (ra : RegNo) (rb : RegNo) (sz : BitVec 3) (acq : Bool) (rel : Bool) : exec (.amoShl rt ra rb sz acq rel) s = execAmoShl rt ra rb sz acq rel s := rfl
@[simp] theorem exec_amoShlImm (rt : RegNo) (ra : RegNo) (imm : BitVec 5) (sz : BitVec 3) (acq : Bool) (rel : Bool) : exec (.amoShlImm rt ra imm sz acq rel) s = execAmoShlImm rt ra imm sz acq rel s := rfl
@[simp] theorem exec_amoShr (rt : RegNo) (ra : RegNo) (rb : RegNo) (sz : BitVec 3) (acq : Bool) (rel : Bool) : exec (.amoShr rt ra rb sz acq rel) s = execAmoShr rt ra rb sz acq rel s := rfl
@[simp] theorem exec_amoShrImm (rt : RegNo) (ra : RegNo) (imm : BitVec 5) (sz : BitVec 3) (acq : Bool) (rel : Bool) : exec (.amoShrImm rt ra imm sz acq rel) s = execAmoShrImm rt ra imm sz acq rel s := rfl
@[simp] theorem exec_amoMin (rt : RegNo) (ra : RegNo) (rb : RegNo) (sz : BitVec 3) (acq : Bool) (rel : Bool) : exec (.amoMin rt ra rb sz acq rel) s = execAmoMin rt ra rb sz acq rel s := rfl
@[simp] theorem exec_amoMinImm (rt : RegNo) (ra : RegNo) (imm : BitVec 5) (sz : BitVec 3) (acq : Bool) (rel : Bool) : exec (.amoMinImm rt ra imm sz acq rel) s = execAmoMinImm rt ra imm sz acq rel s := rfl
@[simp] theorem exec_amoMax (rt : RegNo) (ra : RegNo) (rb : RegNo) (sz : BitVec 3) (acq : Bool) (rel : Bool) : exec (.amoMax rt ra rb sz acq rel) s = execAmoMax rt ra rb sz acq rel s := rfl
@[simp] theorem exec_amoMaxImm (rt : RegNo) (ra : RegNo) (imm : BitVec 5) (sz : BitVec 3) (acq : Bool) (rel : Bool) : exec (.amoMaxImm rt ra imm sz acq rel) s = execAmoMaxImm rt ra imm sz acq rel s := rfl
@[simp] theorem exec_amoMinu (rt : RegNo) (ra : RegNo) (rb : RegNo) (sz : BitVec 3) (acq : Bool) (rel : Bool) : exec (.amoMinu rt ra rb sz acq rel) s = execAmoMinu rt ra rb sz acq rel s := rfl
@[simp] theorem exec_amoMinuImm (rt : RegNo) (ra : RegNo) (imm : BitVec 5) (sz : BitVec 3) (acq : Bool) (rel : Bool) : exec (.amoMinuImm rt ra imm sz acq rel) s = execAmoMinuImm rt ra imm sz acq rel s := rfl
@[simp] theorem exec_amoMaxu (rt : RegNo) (ra : RegNo) (rb : RegNo) (sz : BitVec 3) (acq : Bool) (rel : Bool) : exec (.amoMaxu rt ra rb sz acq rel) s = execAmoMaxu rt ra rb sz acq rel s := rfl
@[simp] theorem exec_amoMaxuImm (rt : RegNo) (ra : RegNo) (imm : BitVec 5) (sz : BitVec 3) (acq : Bool) (rel : Bool) : exec (.amoMaxuImm rt ra imm sz acq rel) s = execAmoMaxuImm rt ra imm sz acq rel s := rfl
@[simp] theorem exec_beq (ra : RegNo) (rb : RegNo) (disp : BitVec 11) : exec (.beq ra rb disp) s = execBeq ra rb disp s := rfl
@[simp] theorem exec_bne (ra : RegNo) (rb : RegNo) (disp : BitVec 11) : exec (.bne ra rb disp) s = execBne ra rb disp s := rfl
@[simp] theorem exec_blt (ra : RegNo) (rb : RegNo) (disp : BitVec 11) : exec (.blt ra rb disp) s = execBlt ra rb disp s := rfl
@[simp] theorem exec_bge (ra : RegNo) (rb : RegNo) (disp : BitVec 11) : exec (.bge ra rb disp) s = execBge ra rb disp s := rfl
@[simp] theorem exec_band (ra : RegNo) (rb : RegNo) (disp : BitVec 11) : exec (.band ra rb disp) s = execBand ra rb disp s := rfl
@[simp] theorem exec_bor (ra : RegNo) (rb : RegNo) (disp : BitVec 11) : exec (.bor ra rb disp) s = execBor ra rb disp s := rfl
@[simp] theorem exec_bltu (ra : RegNo) (rb : RegNo) (disp : BitVec 11) : exec (.bltu ra rb disp) s = execBltu ra rb disp s := rfl
@[simp] theorem exec_bgeu (ra : RegNo) (rb : RegNo) (disp : BitVec 11) : exec (.bgeu ra rb disp) s = execBgeu ra rb disp s := rfl
@[simp] theorem exec_fbeq (ra : RegNo) (rb : RegNo) (disp : BitVec 11) : exec (.fbeq ra rb disp) s = execFbeq ra rb disp s := rfl
@[simp] theorem exec_fbne (ra : RegNo) (rb : RegNo) (disp : BitVec 11) : exec (.fbne ra rb disp) s = execFbne ra rb disp s := rfl
@[simp] theorem exec_fblt (ra : RegNo) (rb : RegNo) (disp : BitVec 11) : exec (.fblt ra rb disp) s = execFblt ra rb disp s := rfl
@[simp] theorem exec_fbge (ra : RegNo) (rb : RegNo) (disp : BitVec 11) : exec (.fbge ra rb disp) s = execFbge ra rb disp s := rfl
@[simp] theorem exec_fbun (ra : RegNo) (rb : RegNo) (disp : BitVec 11) : exec (.fbun ra rb disp) s = execFbun ra rb disp s := rfl
@[simp] theorem exec_bbs (ra : RegNo) (bit : BitVec 6) (disp : BitVec 11) : exec (.bbs ra bit disp) s = execBbs ra bit disp s := rfl
@[simp] theorem exec_bbc (ra : RegNo) (bit : BitVec 6) (disp : BitVec 11) : exec (.bbc ra bit disp) s = execBbc ra bit disp s := rfl
@[simp] theorem exec_beqi (ra : RegNo) (imm : BitVec 8) (disp : BitVec 11) : exec (.beqi ra imm disp) s = execBeqi ra imm disp s := rfl
@[simp] theorem exec_bnei (ra : RegNo) (imm : BitVec 8) (disp : BitVec 11) : exec (.bnei ra imm disp) s = execBnei ra imm disp s := rfl
@[simp] theorem exec_jmp (t : JumpTarget) : exec (.jmp t) s = execJmp t s := rfl
@[simp] theorem exec_call (t : JumpTarget) : exec (.call t) s = execCall t s := rfl
@[simp] theorem exec_jal (rt : RegNo) (ra : RegNo) (t : LinkTarget) : exec (.jal rt ra t) s = execJal rt ra t s := rfl
@[simp] theorem exec_ret (lr : RegNo) (rt : RegNo) (ra : RegNo) (imm : BitVec 9) : exec (.ret lr rt ra imm) s = execRet lr rt ra imm s := rfl
@[simp] theorem exec_brk (user : BitVec 6) (skip : BitVec 5) (lvl : BitVec 4) (cause : BitVec 8) (long : Bool) : exec (.brk user skip lvl cause long) s = execBrk user skip lvl cause long s := rfl
@[simp] theorem exec_brkReg (user : BitVec 6) (skip : BitVec 5) (lvl : BitVec 4) (ra : RegNo) (long : Bool) : exec (.brkReg user skip lvl ra long) s = execBrkReg user skip lvl ra long s := rfl
@[simp] theorem exec_pfi (user : BitVec 6) : exec (.pfi user) s = execPfi user s := rfl
@[simp] theorem exec_csrrd (ol : BitVec 2) (regno : BitVec 10) (rt : RegNo) (ra : RegNo) : exec (.csrrd ol regno rt ra) s = execCsrrd ol regno rt ra s := rfl
@[simp] theorem exec_csrrw (ol : BitVec 2) (regno : BitVec 10) (rt : RegNo) (ra : RegNo) : exec (.csrrw ol regno rt ra) s = execCsrrw ol regno rt ra s := rfl
@[simp] theorem exec_csrrs (ol : BitVec 2) (regno : BitVec 10) (rt : RegNo) (ra : RegNo) : exec (.csrrs ol regno rt ra) s = execCsrrs ol regno rt ra s := rfl
@[simp] theorem exec_csrrc (ol : BitVec 2) (regno : BitVec 10) (rt : RegNo) (ra : RegNo) : exec (.csrrc ol regno rt ra) s = execCsrrc ol regno rt ra s := rfl
@[simp] theorem exec_rex (im : BitVec 3) (pl : BitVec 8) (tgt : BitVec 2) (ra : RegNo) : exec (.rex im pl tgt ra) s = execRex im pl tgt ra s := rfl
@[simp] theorem exec_sei (rt : RegNo) (ra : RegNo) (m : BitVec 4) : exec (.sei rt ra m) s = execSei rt ra m s := rfl
@[simp] theorem exec_cli : exec .cli s = execCli s := rfl
@[simp] theorem exec_wait (ra : RegNo) (rb : RegNo) (imm : BitVec 5) : exec (.wait ra rb imm) s = execWait ra rb imm s := rfl
@[simp] theorem exec_rti (sema : BitVec 6) (ra : RegNo) : exec (.rti sema ra) s = execRti sema ra s := rfl
@[simp] theorem exec_vmovTo (ct : RegNo) (ra : RegNo) : exec (.vmovTo ct ra) s = execVmovTo ct ra s := rfl
@[simp] theorem exec_vmovFrom (rt : RegNo) (ca : RegNo) : exec (.vmovFrom rt ca) s = execVmovFrom rt ca s := rfl
@[simp] theorem exec_tlb (cmd : BitVec 4) (tn : BitVec 4) (rt : RegNo) (ra : RegNo) : exec (.tlb cmd tn rt ra) s = execTlb cmd tn rt ra s := rfl
@[simp] theorem exec_nop16 : exec .nop16 s = execNop16 s := rfl
@[simp] theorem exec_addisp (amt : BitVec 5) : exec (.addisp amt) s = execAddisp amt s := rfl
@[simp] theorem exec_addi16 (rt : RegNo) (amt : BitVec 5) : exec (.addi16 rt amt) s = execAddi16 rt amt s := rfl
@[simp] theorem exec_ldi16 (rt : RegNo) (amt : BitVec 5) : exec (.ldi16 rt amt) s = execLdi16 rt amt s := rfl
@[simp] theorem exec_brk16 (f5 : BitVec 5) : exec (.brk16 f5) s = execBrk16 f5 s := rfl
@[simp] theorem exec_pfi16 : exec .pfi16 s = execPfi16 s := rfl
@[simp] theorem exec_andi16 (rt : RegNo) (amt : BitVec 5) : exec (.andi16 rt amt) s = execAndi16 rt amt s := rfl
@[simp] theorem exec_ret16 (amt : BitVec 5) : exec (.ret16 amt) s = execRet16 amt s := rfl
@[simp] theorem exec_shli16 (rt : RegNo) (amt : BitVec 5) : exec (.shli16 rt amt) s = execShli16 rt amt s := rfl
@[simp] theorem exec_shri16 (q : BitVec 3) (amt : BitVec 5) : exec (.shri16 q amt) s = execShri16 q amt s := rfl
@[simp] theorem exec_asri16 (q : BitVec 3) (amt : BitVec 5) : exec (.asri16 q amt) s = execAsri16 q amt s := rfl
@[simp] theorem exec_ori16 (q : BitVec 3) (amt : BitVec 5) : exec (.ori16 q amt) s = execOri16 q amt s := rfl
@[simp] theorem exec_sub16 (q : BitVec 3) (r : BitVec 3) : exec (.sub16 q r) s = execSub16 q r s := rfl
@[simp] theorem exec_and16 (q : BitVec 3) (r : BitVec 3) : exec (.and16 q r) s = execAnd16 q r s := rfl
@[simp] theorem exec_or16 (q : BitVec 3) (r : BitVec 3) : exec (.or16 q r) s = execOr16 q r s := rfl
@[simp] theorem exec_xor16 (q : BitVec 3) (r : BitVec 3) : exec (.xor16 q r) s = execXor16 q r s := rfl
@[simp] theorem exec_call16 (addr : BitVec 10) : exec (.call16 addr) s = execCall16 addr s := rfl
@[simp] theorem exec_bra16 (disp : BitVec 10) : exec (.bra16 disp) s = execBra16 disp s := rfl
@[simp] theorem exec_beqz16 (ra : RegNo) (disp : BitVec 7) : exec (.beqz16 ra disp) s = execBeqz16 ra disp s := rfl
@[simp] theorem exec_bnez16 (ra : RegNo) (disp : BitVec 7) : exec (.bnez16 ra disp) s = execBnez16 ra disp s := rfl
@[simp] theorem exec_mov16 (ra : RegNo) (rt : BitVec 5) : exec (.mov16 ra rt) s = execMov16 ra rt s := rfl
@[simp] theorem exec_add16 (rt : RegNo) (rb : BitVec 5) : exec (.add16 rt rb) s = execAdd16 rt rb s := rfl
@[simp] theorem exec_jalr16 (ra : RegNo) (rt : BitVec 5) : exec (.jalr16 ra rt) s = execJalr16 ra rt s := rfl
@[simp] theorem exec_push16 (rb : RegNo) : exec (.push16 rb) s = execPush16 rb s := rfl
@[simp] theorem exec_lhSp (rt : RegNo) (d : BitVec 5) : exec (.lhSp rt d) s = execLhSp rt d s := rfl
@[simp] theorem exec_lwSp (rt : RegNo) (d : BitVec 5) : exec (.lwSp rt d) s = execLwSp rt d s := rfl
@[simp] theorem exec_lhFp (rt : RegNo) (d : BitVec 5) : exec (.lhFp rt d) s = execLhFp rt d s := rfl
@[simp] theorem exec_lwFp (rt : RegNo) (d : BitVec 5) : exec (.lwFp rt d) s = execLwFp rt d s := rfl
@[simp] theorem exec_shSp (rb : RegNo) (d : BitVec 5) : exec (.shSp rb d) s = execShSp rb d s := rfl
@[simp] theorem exec_swSp (rb : RegNo) (d : BitVec 5) : exec (.swSp rb d) s = execSwSp rb d s := rfl
@[simp] theorem exec_shFp (rb : RegNo) (d : BitVec 5) : exec (.shFp rb d) s = execShFp rb d s := rfl
@[simp] theorem exec_swFp (rb : RegNo) (d : BitVec 5) : exec (.swFp rb d) s = execSwFp rb d s := rfl
@[simp] theorem exec_lhPr (r : BitVec 3) (q : BitVec 3) (d : BitVec 4) : exec (.lhPr r q d) s = execLhPr r q d s := rfl
@[simp] theorem exec_lwPr (r : BitVec 3) (q : BitVec 3) (d : BitVec 4) : exec (.lwPr r q d) s = execLwPr r q d s := rfl
@[simp] theorem exec_shPr (r : BitVec 3) (q : BitVec 3) (d : BitVec 4) : exec (.shPr r q d) s = execShPr r q d s := rfl
@[simp] theorem exec_swPr (r : BitVec 3) (q : BitVec 3) (d : BitVec 4) : exec (.swPr r q d) s = execSwPr r q d s := rfl
@[simp] theorem exec_fadd (rt : RegNo) (ra : RegNo) (rb : RegNo) (f : FpForm) : exec (.fadd rt ra rb f) s = execFadd rt ra rb f s := rfl
@[simp] theorem exec_fsub (rt : RegNo) (ra : RegNo) (rb : RegNo) (f : FpForm) : exec (.fsub rt ra rb f) s = execFsub rt ra rb f s := rfl
@[simp] theorem exec_fcmp (rt : RegNo) (ra : RegNo) (rb : RegNo) (f : FpForm) : exec (.fcmp rt ra rb f) s = execFcmp rt ra rb f s := rfl
@[simp] theorem exec_fmul (rt : RegNo) (ra : RegNo) (rb : RegNo) (f : FpForm) : exec (.fmul rt ra rb f) s = execFmul rt ra rb f s := rfl
@[simp] theorem exec_fdiv (rt : RegNo) (ra : RegNo) (rb : RegNo) (f : FpForm) : exec (.fdiv rt ra rb f) s = execFdiv rt ra rb f s := rfl
@[simp] theorem exec_fslt (rt : RegNo) (ra : RegNo) (rb : RegNo) (f : FpForm) : exec (.fslt rt ra rb f) s = execFslt rt ra rb f s := rfl
@[simp] theorem exec_fsge (rt : RegNo) (ra : RegNo) (rb : RegNo) (f : FpForm) : exec (.fsge rt ra rb f) s = execFsge rt ra rb f s := rfl
@[simp] theorem exec_fsle (rt : RegNo) (ra : RegNo) (rb : RegNo) (f : FpForm) : exec (.fsle rt ra rb f) s = execFsle rt ra rb f s := rfl
@[simp] theorem exec_fsgt (rt : RegNo) (ra : RegNo) (rb : RegNo) (f : FpForm) : exec (.fsgt rt ra rb f) s = execFsgt rt ra rb f s := rfl
@[simp] theorem exec_fseq (rt : RegNo) (ra : RegNo) (rb : RegNo) (f : FpForm) : exec (.fseq rt ra rb f) s = execFseq rt ra rb f s := rfl
@[simp] theorem exec_fsne (rt : RegNo) (ra : RegNo) (rb : RegNo) (f : FpForm) : exec (.fsne rt ra rb f) s = execFsne rt ra rb f s := rfl
@[simp] theorem exec_fsun (rt : RegNo) (ra : RegNo) (rb : RegNo) (f : FpForm) : exec (.fsun rt ra rb f) s = execFsun rt ra rb f s := rfl
@[simp] theorem exec_fmov (rt : RegNo) (ra : RegNo) (prc : BitVec 4) (rm : BitVec 3) (long : Bool) : exec (.fmov rt ra prc rm long) s = execFmov rt ra prc rm long s := rfl
@[simp] theorem exec_ftoi (rt : RegNo) (ra : RegNo) (prc : BitVec 4) (rm : BitVec 3) (long : Bool) : exec (.ftoi rt ra prc rm long) s = execFtoi rt ra prc rm long s := rfl
@[simp] theorem exec_itof (rt : RegNo) (ra : RegNo) (fromX : Bool) (prc : BitVec 4) (rm : BitVec 3) (long : Bool) : exec (.itof rt ra fromX prc rm long) s = execItof rt ra fromX prc rm long s := rfl
@[simp] theorem exec_fneg (rt : RegNo) (ra : RegNo) (prc : BitVec 4) (rm : BitVec 3) (long : Bool) : exec (.fneg rt ra prc rm long) s = execFneg rt ra prc rm long s := rfl
@[simp] theorem exec_fabs (rt : RegNo) (ra : RegNo) (prc : BitVec 4) (rm : BitVec 3) (long : Bool) : exec (.fabs rt ra prc rm long) s = execFabs rt ra prc rm long s := rfl
@[simp] theorem exec_fsign (rt : RegNo) (ra : RegNo) (prc : BitVec 4) (rm : BitVec 3) (long : Bool) : exec (.fsign rt ra prc rm long) s = execFsign rt ra prc rm long s := rfl
@[simp] theorem exec_fnabs (rt : RegNo) (ra : RegNo) (prc : BitVec 4) (rm : BitVec 3) (long : Bool) : exec (.fnabs rt ra prc rm long) s = execFnabs rt ra prc rm long s := rfl
@[simp] theorem exec_fcvtsd (rt : RegNo) (ra : RegNo) (prc : BitVec 4) (rm : BitVec 3) (long : Bool) : exec (.fcvtsd rt ra prc rm long) s = execFcvtsd rt ra prc rm long s := rfl
@[simp] theorem exec_fsqrt (rt : RegNo) (ra : RegNo) (prc : BitVec 4) (rm : BitVec 3) (long : Bool) : exec (.fsqrt rt ra prc rm long) s = execFsqrt rt ra prc rm long s := rfl
@[simp] theorem exec_ftx (ra : RegNo) (imm : BitVec 6) (f : FlagForm) : exec (.ftx ra imm f) s = execFtx ra imm f s := rfl
@[simp] theorem exec_fcx (ra : RegNo) (imm : BitVec 6) (f : FlagForm) : exec (.fcx ra imm f) s = execFcx ra imm f s := rfl
@[simp] theorem exec_fex (ra : RegNo) (imm : BitVec 6) (f : FlagForm) : exec (.fex ra imm f) s = execFex ra imm f s := rfl
@[simp] theorem exec_fdx (ra : RegNo) (imm : BitVec 6) (f : FlagForm) : exec (.fdx ra imm f) s = execFdx ra imm f s := rfl
@[simp] theorem exec_fsync (f : FlagForm) : exec (.fsync f) s = execFsync f s := rfl
@[simp] theorem exec_vcmprss (fp : Bool) (len : VecLen) (m : BitVec 3) (vt : RegNo) (va : RegNo) : exec (.vcmprss fp len m vt va) s = execVcmprss fp len m vt va s := rfl
@[simp] theorem exec_vcidx (fp : Bool) (len : VecLen) (m : BitVec 3) (vt : RegNo) (ra : RegNo) : exec (.vcidx fp len m vt ra) s = execVcidx fp len m vt ra s := rfl
@[simp] theorem exec_vscan (fp : Bool) (len : VecLen) (m : BitVec 3) (vt : RegNo) (ra : RegNo) : exec (.vscan fp len m vt ra) s = execVscan fp len m vt ra s := rfl
@[simp] theorem exec_vabs (fp : Bool) (len : VecLen) (m : BitVec 3) (vt : RegNo) (va : RegNo) : exec (.vabs fp len m vt va) s = execVabs fp len m vt va s := rfl
@[simp] theorem exec_vadd (fp : Bool) (len : VecLen) (m : BitVec 3) (vt : RegNo) (va : RegNo) (vb : RegNo) : exec (.vadd fp len m vt va vb) s = execVadd fp len m vt va vb s := rfl
@[simp] theorem exec_vsub (fp : Bool) (len : VecLen) (m : BitVec 3) (vt : RegNo) (va : RegNo) (vb : RegNo) : exec (.vsub fp len m vt va vb) s = execVsub fp len m vt va vb s := rfl
@[simp] theorem exec_vand (fp : Bool) (len : VecLen) (m : BitVec 3) (vt : RegNo) (va : RegNo) (vb : RegNo) : exec (.vand fp len m vt va vb) s = execVand fp len m vt va vb s := rfl
@[simp] theorem exec_vor (fp : Bool) (len : VecLen) (m : BitVec 3) (vt : RegNo) (va : RegNo) (vb : RegNo) : exec (.vor fp len m vt va vb) s = execVor fp len m vt va vb s := rfl
@[simp] theorem exec_vxor (fp : Bool) (len : VecLen) (m : BitVec 3) (vt : RegNo) (va : RegNo) (vb : RegNo) : exec (.vxor fp len m vt va vb) s = execVxor fp len m vt va vb s := rfl
@[simp] theorem exec_vxchg (fp : Bool) (len : VecLen) (m : BitVec 3) (va : RegNo) (vb : RegNo) : exec (.vxchg fp len m va vb) s = execVxchg fp len m va vb s := rfl
@[simp] theorem exec_vshl (fp : Bool) (len : ShiftLen) (m : BitVec 3) (vt : RegNo) (va : RegNo) (b : RegNo) : exec (.vshl fp len m vt va b) s = execVshl fp len m vt va b s := rfl
@[simp] theorem exec_vshr (fp : Bool) (len : ShiftLen) (m : BitVec 3) (vt : RegNo) (va : RegNo) (b : RegNo) : exec (.vshr fp len m vt va b) s = execVshr fp len m vt va b s := rfl
@[simp] theorem exec_vasr (fp : Bool) (len : ShiftLen) (m : BitVec 3) (vt : RegNo) (va : RegNo) (b : RegNo) : exec (.vasr fp len m vt va b) s = execVasr fp len m vt va b s := rfl
@[simp] theorem exec_vshlv (fp : Bool) (len : VecLen) (m : BitVec 3) (vt : RegNo) (va : RegNo) (amt : RegNo) : exec (.vshlv fp len m vt va amt) s = execVshlv fp len m vt va amt s := rfl
@[simp] theorem exec_vshrv (fp : Bool) (len : VecLen) (m : BitVec 3) (vt : RegNo) (va : RegNo) (amt : RegNo) : exec (.vshrv fp len m vt va amt) s = execVshrv fp len m vt va amt s := rfl
@[simp] theorem exec_vadds (fp : Bool) (len : VecLen) (m : BitVec 3) (vt : RegNo) (va : RegNo) (rb : RegNo) : exec (.vadds fp len m vt va rb) s = execVadds fp len m vt va rb s := rfl
@[simp] theorem exec_vsubs (fp : Bool) (len : VecLen) (m : BitVec 3) (vt : RegNo) (va : RegNo) (rb : RegNo) : exec (.vsubs fp len m vt va rb) s = execVsubs fp len m vt va rb s := rfl
@[simp] theorem exec_vsubrs (fp : Bool) (len : VecLen) (m : BitVec 3) (vt : RegNo) (va : RegNo) (rb : RegNo) : exec (.vsubrs fp len m vt va rb) s = execVsubrs fp len m vt va rb s := rfl
@[simp] theorem exec_vands (fp : Bool) (len : VecLen) (m : BitVec 3) (vt : RegNo) (va : RegNo) (rb : RegNo) : exec (.vands fp len m vt va rb) s = execVands fp len m vt va rb s := rfl
@[simp] theorem exec_vors (fp : Bool) (len : VecLen) (m : BitVec 3) (vt : RegNo) (va : RegNo) (rb : RegNo) : exec (.vors fp len m vt va rb) s = execVors fp len m vt va rb s := rfl
@[simp] theorem exec_vxors (fp : Bool) (len : VecLen) (m : BitVec 3) (vt : RegNo) (va : RegNo) (rb : RegNo) : exec (.vxors fp len m vt va rb) s = execVxors fp len m vt va rb s := rfl
@[simp] theorem exec_vbits2v (fp : Bool) (len : VecLen) (m : BitVec 3) (vt : RegNo) (ra : RegNo) : exec (.vbits2v fp len m vt ra) s = execVbits2v fp len m vt ra s := rfl
@[simp] theorem exec_v2bits (fp : Bool) (len : VecLen) (m : BitVec 3) (rt : RegNo) (va : RegNo) : exec (.v2bits fp len m rt va) s = execV2bits fp len m rt va s := rfl
@[simp] theorem exec_veins (fp : Bool) (len : VecLen) (m : BitVec 3) (vt : RegNo) (ra : RegNo) (rb : RegNo) : exec (.veins fp len m vt ra rb) s = execVeins fp len m vt ra rb s := rfl
@[simp] theorem exec_vex (fp : Bool) (len : VecLen) (m : BitVec 3) (rt : RegNo) (ra : RegNo) (vb : RegNo) : exec (.vex fp len m rt ra vb) s = execVex fp len m rt ra vb s := rfl
@[simp] theorem exec_vflt2int (fp : Bool) (len : VecLen) (m : BitVec 3) (vt : RegNo) (va : RegNo) : exec (.vflt2int fp len m vt va) s = execVflt2int fp len m vt va s := rfl
@[simp] theorem exec_vint2flt (fp : Bool) (len : VecLen) (m : BitVec 3) (vt : RegNo) (va : RegNo) : exec (.vint2flt fp len m vt va) s = execVint2flt fp len m vt va s := rfl
@[simp] theorem exec_vsign (fp : Bool) (len : VecLen) (m : BitVec 3) (vt : RegNo) (va : RegNo) : exec (.vsign fp len m vt va) s = execVsign fp len m vt va s := rfl
@[simp] theorem exec_vcntpop (fp : Bool) (len : VecLen) (m : BitVec 3) (vt : RegNo) (va : RegNo) : exec (.vcntpop fp len m vt va) s = execVcntpop fp len m vt va s := rfl
@[simp] theorem exec_vmuls (fp : Bool) (len : VecLen) (m : BitVec 3) (vt : RegNo) (va : RegNo) (rb : RegNo) : exec (.vmuls fp len m vt va rb) s = execVmuls fp len m vt va rb s := rfl
@[simp] theorem exec_vdivs (fp : Bool) (len : VecLen) (m : BitVec 3) (vt : RegNo) (va : RegNo) (rb : RegNo) : exec (.vdivs fp len m vt va rb) s = execVdivs fp len m vt va rb s := rfl
@[simp] theorem exec_vmul (fp : Bool) (len : VecLen) (m : BitVec 3) (vt : RegNo) (va : RegNo) (vb : RegNo) : exec (.vmul fp len m vt va vb) s = execVmul fp len m vt va vb s := rfl
@[simp] theorem exec_vdiv (fp : Bool) (len : VecLen) (m : BitVec 3) (vt : RegNo) (va : RegNo) (vb : RegNo) : exec (.vdiv fp len m vt va vb) s = execVdiv fp len m vt va vb s := rfl
@[simp] theorem exec_vneg (fp : Bool) (len : VecLen) (m : BitVec 3) (vt : RegNo) (va : RegNo) : exec (.vneg fp len m vt va) s = execVneg fp len m vt va s := rfl
@[simp] theorem exec_vsxx (fp : Bool) (len : VecLen) (m : BitVec 3) (cn : BitVec 3) (mt : BitVec 3) (va : RegNo) (vb : RegNo) : exec (.vsxx fp len m cn mt va vb) s = execVsxx fp len m cn mt va vb s := rfl
@[simp] theorem exec_vsxxs (fp : Bool) (len : VecLen) (m : BitVec 3) (cn : BitVec 3) (mt : BitVec 3) (va : RegNo) (rb : RegNo) : exec (.vsxxs fp len m cn mt va rb) s = execVsxxs fp len m cn mt va rb s := rfl
@[simp] theorem exec_vsxxu (len : VecLen) (m : BitVec 3) (cn : BitVec 3) (mt : BitVec 3) (va : RegNo) (vb : RegNo) : exec (.vsxxu len m cn mt va vb) s = execVsxxu len m cn mt va vb s := rfl
@[simp] theorem exec_vsxxsu (len : VecLen) (m : BitVec 3) (cn : BitVec 3) (mt : BitVec 3) (va : RegNo) (rb : RegNo) : exec (.vsxxsu len m cn mt va rb) s = execVsxxsu len m cn mt va rb s := rfl
@[simp] theorem exec_vmand (fp : Bool) (mt : BitVec 3) (ma : BitVec 3) (mb : BitVec 3) : exec (.vmand fp mt ma mb) s = execVmand fp mt ma mb s := rfl
@[simp] theorem exec_vmor (fp : Bool) (mt : BitVec 3) (ma : BitVec 3) (mb : BitVec 3) : exec (.vmor fp mt ma mb) s = execVmor fp mt ma mb s := rfl
@[simp] theorem exec_vmxor (fp : Bool) (mt : BitVec 3) (ma : BitVec 3) (mb : BitVec 3) : exec (.vmxor fp mt ma mb) s = execVmxor fp mt ma mb s := rfl
@[simp] theorem exec_vmxnor (fp : Bool) (mt : BitVec 3) (ma : BitVec 3) (mb : BitVec 3) : exec (.vmxnor fp mt ma mb) s = execVmxnor fp mt ma mb s := rfl
@[simp] theorem exec_vmpop (fp : Bool) (rt : RegNo) (ma : BitVec 3) : exec (.vmpop fp rt ma) s = execVmpop fp rt ma s := rfl
@[simp] theorem exec_vmfill (fp : Bool) (mt : BitVec 3) (ra : RegNo) : exec (.vmfill fp mt ra) s = execVmfill fp mt ra s := rfl
@[simp] theorem exec_vmfirst (fp : Bool) (rt : RegNo) (ma : BitVec 3) : exec (.vmfirst fp rt ma) s = execVmfirst fp rt ma s := rfl
@[simp] theorem exec_vmlast (fp : Bool) (rt : RegNo) (ma : BitVec 3) : exec (.vmlast fp rt ma) s = execVmlast fp rt ma s := rfl
@[simp] theorem exec_vsync (fp : Bool) : exec (.vsync fp) s = execVsync fp s := rfl

end Sys2Proof.Machine
end

