-- ==== Sys2Proof/Laws/State.lean ====
section
/-! SUPPORT. Each named update of State, field by field: no later proof unfolds a record update. -/

namespace Sys2Proof.Machine

variable (s : State)

/-! setPc -/

@[simp] theorem setPc_cfg (p : Word) : (s.setPc p).cfg = s.cfg := rfl
@[simp] theorem setPc_pc (p : Word) : (s.setPc p).pc = p := rfl
@[simp] theorem setPc_ilen (p : Word) : (s.setPc p).ilen = s.ilen := rfl
@[simp] theorem setPc_ir (p : Word) : (s.setPc p).ir = s.ir := rfl
@[simp] theorem setPc_event (p : Word) : (s.setPc p).event = s.event := rfl
@[simp] theorem setPc_pending (p : Word) : (s.setPc p).pending = s.pending := rfl
@[simp] theorem setPc_freeIdx (p : Word) : (s.setPc p).freeIdx = s.freeIdx := rfl
@[simp] theorem setPc_irqLevel (p : Word) : (s.setPc p).irqLevel = s.irqLevel := rfl
@[simp] theorem setPc_irqCause (p : Word) : (s.setPc p).irqCause = s.irqCause := rfl
@[simp] theorem setPc_resetPin (p : Word) : (s.setPc p).resetPin = s.resetPin := rfl
@[simp] theorem setPc_waitLow (p : Word) : (s.setPc p).waitLow = s.waitLow := rfl
@[simp] theorem setPc_waitRunning (p : Word) : (s.setPc p).waitRunning = s.waitRunning := rfl
@[simp] theorem setPc_xs (p : Word) : (s.setPc p).xs = s.xs := rfl
@[simp] theorem setPc_v (p : Word) : (s.setPc p).v = s.v := rfl
@[simp] theorem setPc_vm (p : Word) : (s.setPc p).vm = s.vm := rfl
@[simp] theorem setPc_vl (p : Word) : (s.setPc p).vl = s.vl := rfl
@[simp] theorem setPc_csr (p : Word) : (s.setPc p).csr = s.csr := rfl
@[simp] theorem setPc_ctr (p : Word) : (s.setPc p).ctr = s.ctr := rfl
@[simp] theorem setPc_vchain (p : Word) : (s.setPc p).vchain = s.vchain := rfl
@[simp] theorem setPc_segZs (p : Word) : (s.setPc p).segZs = s.segZs := rfl
@[simp] theorem setPc_segEs (p : Word) : (s.setPc p).segEs = s.segEs := rfl
@[simp] theorem setPc_segHs (p : Word) : (s.setPc p).segHs = s.segHs := rfl
@[simp] theorem setPc_resvValid (p : Word) : (s.setPc p).resvValid = s.resvValid := rfl
@[simp] theorem setPc_resvAddr (p : Word) : (s.setPc p).resvAddr = s.resvAddr := rfl
@[simp] theorem setPc_resvPa (p : Word) : (s.setPc p).resvPa = s.resvPa := rfl
@[simp] theorem setPc_tlb (p : Word) : (s.setPc p).tlb = s.tlb := rfl
@[simp] theorem setPc_mapTab (p : Word) : (s.setPc p).mapTab = s.mapTab := rfl
@[simp] theorem setPc_tagEnable (p : Word) : (s.setPc p).tagEnable = s.tagEnable := rfl
@[simp] theorem setPc_dcacheEnabled (p : Word) : (s.setPc p).dcacheEnabled = s.dcacheEnabled := rfl
@[simp] theorem setPc_icacheStale (p : Word) : (s.setPc p).icacheStale = s.icacheStale := rfl
@[simp] theorem setPc_mem (p : Word) : (s.setPc p).mem = s.mem := rfl

/-! advance -/

@[simp] theorem advance_cfg : (s.advance).cfg = s.cfg := rfl
@[simp] theorem advance_pc : (s.advance).pc = s.nextPc := rfl
@[simp] theorem advance_ilen : (s.advance).ilen = s.ilen := rfl
@[simp] theorem advance_ir : (s.advance).ir = s.ir := rfl
@[simp] theorem advance_event : (s.advance).event = s.event := rfl
@[simp] theorem advance_pending : (s.advance).pending = s.pending := rfl
@[simp] theorem advance_freeIdx : (s.advance).freeIdx = s.freeIdx := rfl
@[simp] theorem advance_irqLevel : (s.advance).irqLevel = s.irqLevel := rfl
@[simp] theorem advance_irqCause : (s.advance).irqCause = s.irqCause := rfl
@[simp] theorem advance_resetPin : (s.advance).resetPin = s.resetPin := rfl
@[simp] theorem advance_waitLow : (s.advance).waitLow = s.waitLow := rfl
@[simp] theorem advance_waitRunning : (s.advance).waitRunning = s.waitRunning := rfl
@[simp] theorem advance_xs : (s.advance).xs = s.xs := rfl
@[simp] theorem advance_v : (s.advance).v = s.v := rfl
@[simp] theorem advance_vm : (s.advance).vm = s.vm := rfl
@[simp] theorem advance_vl : (s.advance).vl = s.vl := rfl
@[simp] theorem advance_csr : (s.advance).csr = s.csr := rfl
@[simp] theorem advance_ctr : (s.advance).ctr = s.ctr := rfl
@[simp] theorem advance_vchain : (s.advance).vchain = s.vchain := rfl
@[simp] theorem advance_segZs : (s.advance).segZs = s.segZs := rfl
@[simp] theorem advance_segEs : (s.advance).segEs = s.segEs := rfl
@[simp] theorem advance_segHs : (s.advance).segHs = s.segHs := rfl
@[simp] theorem advance_resvValid : (s.advance).resvValid = s.resvValid := rfl
@[simp] theorem advance_resvAddr : (s.advance).resvAddr = s.resvAddr := rfl
@[simp] theorem advance_resvPa : (s.advance).resvPa = s.resvPa := rfl
@[simp] theorem advance_tlb : (s.advance).tlb = s.tlb := rfl
@[simp] theorem advance_mapTab : (s.advance).mapTab = s.mapTab := rfl
@[simp] theorem advance_tagEnable : (s.advance).tagEnable = s.tagEnable := rfl
@[simp] theorem advance_dcacheEnabled : (s.advance).dcacheEnabled = s.dcacheEnabled := rfl
@[simp] theorem advance_icacheStale : (s.advance).icacheStale = s.icacheStale := rfl
@[simp] theorem advance_mem : (s.advance).mem = s.mem := rfl

/-! withStatus -/

@[simp] theorem withStatus_cfg (w : Word) : (s.withStatus w).cfg = s.cfg := rfl
@[simp] theorem withStatus_pc (w : Word) : (s.withStatus w).pc = s.pc := rfl
@[simp] theorem withStatus_ilen (w : Word) : (s.withStatus w).ilen = s.ilen := rfl
@[simp] theorem withStatus_ir (w : Word) : (s.withStatus w).ir = s.ir := rfl
@[simp] theorem withStatus_event (w : Word) : (s.withStatus w).event = s.event := rfl
@[simp] theorem withStatus_pending (w : Word) : (s.withStatus w).pending = s.pending := rfl
@[simp] theorem withStatus_freeIdx (w : Word) : (s.withStatus w).freeIdx = s.freeIdx := rfl
@[simp] theorem withStatus_irqLevel (w : Word) : (s.withStatus w).irqLevel = s.irqLevel := rfl
@[simp] theorem withStatus_irqCause (w : Word) : (s.withStatus w).irqCause = s.irqCause := rfl
@[simp] theorem withStatus_resetPin (w : Word) : (s.withStatus w).resetPin = s.resetPin := rfl
@[simp] theorem withStatus_waitLow (w : Word) : (s.withStatus w).waitLow = s.waitLow := rfl
@[simp] theorem withStatus_waitRunning (w : Word) : (s.withStatus w).waitRunning = s.waitRunning := rfl
@[simp] theorem withStatus_xs (w : Word) : (s.withStatus w).xs = s.xs := rfl
@[simp] theorem withStatus_v (w : Word) : (s.withStatus w).v = s.v := rfl
@[simp] theorem withStatus_vm (w : Word) : (s.withStatus w).vm = s.vm := rfl
@[simp] theorem withStatus_vl (w : Word) : (s.withStatus w).vl = s.vl := rfl
@[simp] theorem withStatus_csr (w : Word) : (s.withStatus w).csr = { s.csr with status := w } := rfl
@[simp] theorem withStatus_ctr (w : Word) : (s.withStatus w).ctr = s.ctr := rfl
@[simp] theorem withStatus_vchain (w : Word) : (s.withStatus w).vchain = s.vchain := rfl
@[simp] theorem withStatus_segZs (w : Word) : (s.withStatus w).segZs = s.segZs := rfl
@[simp] theorem withStatus_segEs (w : Word) : (s.withStatus w).segEs = s.segEs := rfl
@[simp] theorem withStatus_segHs (w : Word) : (s.withStatus w).segHs = s.segHs := rfl
@[simp] theorem withStatus_resvValid (w : Word) : (s.withStatus w).resvValid = s.resvValid := rfl
@[simp] theorem withStatus_resvAddr (w : Word) : (s.withStatus w).resvAddr = s.resvAddr := rfl
@[simp] theorem withStatus_resvPa (w : Word) : (s.withStatus w).resvPa = s.resvPa := rfl
@[simp] theorem withStatus_tlb (w : Word) : (s.withStatus w).tlb = s.tlb := rfl
@[simp] theorem withStatus_mapTab (w : Word) : (s.withStatus w).mapTab = s.mapTab := rfl
@[simp] theorem withStatus_tagEnable (w : Word) : (s.withStatus w).tagEnable = s.tagEnable := rfl
@[simp] theorem withStatus_dcacheEnabled (w : Word) : (s.withStatus w).dcacheEnabled = s.dcacheEnabled := rfl
@[simp] theorem withStatus_icacheStale (w : Word) : (s.withStatus w).icacheStale = s.icacheStale := rfl
@[simp] theorem withStatus_mem (w : Word) : (s.withStatus w).mem = s.mem := rfl

/-! withFstat -/

@[simp] theorem withFstat_cfg (w : Word) : (s.withFstat w).cfg = s.cfg := rfl
@[simp] theorem withFstat_pc (w : Word) : (s.withFstat w).pc = s.pc := rfl
@[simp] theorem withFstat_ilen (w : Word) : (s.withFstat w).ilen = s.ilen := rfl
@[simp] theorem withFstat_ir (w : Word) : (s.withFstat w).ir = s.ir := rfl
@[simp] theorem withFstat_event (w : Word) : (s.withFstat w).event = s.event := rfl
@[simp] theorem withFstat_pending (w : Word) : (s.withFstat w).pending = s.pending := rfl
@[simp] theorem withFstat_freeIdx (w : Word) : (s.withFstat w).freeIdx = s.freeIdx := rfl
@[simp] theorem withFstat_irqLevel (w : Word) : (s.withFstat w).irqLevel = s.irqLevel := rfl
@[simp] theorem withFstat_irqCause (w : Word) : (s.withFstat w).irqCause = s.irqCause := rfl
@[simp] theorem withFstat_resetPin (w : Word) : (s.withFstat w).resetPin = s.resetPin := rfl
@[simp] theorem withFstat_waitLow (w : Word) : (s.withFstat w).waitLow = s.waitLow := rfl
@[simp] theorem withFstat_waitRunning (w : Word) : (s.withFstat w).waitRunning = s.waitRunning := rfl
@[simp] theorem withFstat_xs (w : Word) : (s.withFstat w).xs = s.xs := rfl
@[simp] theorem withFstat_v (w : Word) : (s.withFstat w).v = s.v := rfl
@[simp] theorem withFstat_vm (w : Word) : (s.withFstat w).vm = s.vm := rfl
@[simp] theorem withFstat_vl (w : Word) : (s.withFstat w).vl = s.vl := rfl
@[simp] theorem withFstat_csr (w : Word) : (s.withFstat w).csr = { s.csr with fstat := w } := rfl
@[simp] theorem withFstat_ctr (w : Word) : (s.withFstat w).ctr = s.ctr := rfl
@[simp] theorem withFstat_vchain (w : Word) : (s.withFstat w).vchain = s.vchain := rfl
@[simp] theorem withFstat_segZs (w : Word) : (s.withFstat w).segZs = s.segZs := rfl
@[simp] theorem withFstat_segEs (w : Word) : (s.withFstat w).segEs = s.segEs := rfl
@[simp] theorem withFstat_segHs (w : Word) : (s.withFstat w).segHs = s.segHs := rfl
@[simp] theorem withFstat_resvValid (w : Word) : (s.withFstat w).resvValid = s.resvValid := rfl
@[simp] theorem withFstat_resvAddr (w : Word) : (s.withFstat w).resvAddr = s.resvAddr := rfl
@[simp] theorem withFstat_resvPa (w : Word) : (s.withFstat w).resvPa = s.resvPa := rfl
@[simp] theorem withFstat_tlb (w : Word) : (s.withFstat w).tlb = s.tlb := rfl
@[simp] theorem withFstat_mapTab (w : Word) : (s.withFstat w).mapTab = s.mapTab := rfl
@[simp] theorem withFstat_tagEnable (w : Word) : (s.withFstat w).tagEnable = s.tagEnable := rfl
@[simp] theorem withFstat_dcacheEnabled (w : Word) : (s.withFstat w).dcacheEnabled = s.dcacheEnabled := rfl
@[simp] theorem withFstat_icacheStale (w : Word) : (s.withFstat w).icacheStale = s.icacheStale := rfl
@[simp] theorem withFstat_mem (w : Word) : (s.withFstat w).mem = s.mem := rfl

/-! setIm -/

@[simp] theorem setIm_cfg (w : BitVec 4) : (s.setIm w).cfg = s.cfg := rfl
@[simp] theorem setIm_pc (w : BitVec 4) : (s.setIm w).pc = s.pc := rfl
@[simp] theorem setIm_ilen (w : BitVec 4) : (s.setIm w).ilen = s.ilen := rfl
@[simp] theorem setIm_ir (w : BitVec 4) : (s.setIm w).ir = s.ir := rfl
@[simp] theorem setIm_event (w : BitVec 4) : (s.setIm w).event = s.event := rfl
@[simp] theorem setIm_pending (w : BitVec 4) : (s.setIm w).pending = s.pending := rfl
@[simp] theorem setIm_freeIdx (w : BitVec 4) : (s.setIm w).freeIdx = s.freeIdx := rfl
@[simp] theorem setIm_irqLevel (w : BitVec 4) : (s.setIm w).irqLevel = s.irqLevel := rfl
@[simp] theorem setIm_irqCause (w : BitVec 4) : (s.setIm w).irqCause = s.irqCause := rfl
@[simp] theorem setIm_resetPin (w : BitVec 4) : (s.setIm w).resetPin = s.resetPin := rfl
@[simp] theorem setIm_waitLow (w : BitVec 4) : (s.setIm w).waitLow = s.waitLow := rfl
@[simp] theorem setIm_waitRunning (w : BitVec 4) : (s.setIm w).waitRunning = s.waitRunning := rfl
@[simp] theorem setIm_xs (w : BitVec 4) : (s.setIm w).xs = s.xs := rfl
@[simp] theorem setIm_v (w : BitVec 4) : (s.setIm w).v = s.v := rfl
@[simp] theorem setIm_vm (w : BitVec 4) : (s.setIm w).vm = s.vm := rfl
@[simp] theorem setIm_vl (w : BitVec 4) : (s.setIm w).vl = s.vl := rfl
@[simp] theorem setIm_csr (w : BitVec 4) : (s.setIm w).csr = { s.csr with status := setField s.csr.status 0 w } := rfl
@[simp] theorem setIm_ctr (w : BitVec 4) : (s.setIm w).ctr = s.ctr := rfl
@[simp] theorem setIm_vchain (w : BitVec 4) : (s.setIm w).vchain = s.vchain := rfl
@[simp] theorem setIm_segZs (w : BitVec 4) : (s.setIm w).segZs = s.segZs := rfl
@[simp] theorem setIm_segEs (w : BitVec 4) : (s.setIm w).segEs = s.segEs := rfl
@[simp] theorem setIm_segHs (w : BitVec 4) : (s.setIm w).segHs = s.segHs := rfl
@[simp] theorem setIm_resvValid (w : BitVec 4) : (s.setIm w).resvValid = s.resvValid := rfl
@[simp] theorem setIm_resvAddr (w : BitVec 4) : (s.setIm w).resvAddr = s.resvAddr := rfl
@[simp] theorem setIm_resvPa (w : BitVec 4) : (s.setIm w).resvPa = s.resvPa := rfl
@[simp] theorem setIm_tlb (w : BitVec 4) : (s.setIm w).tlb = s.tlb := rfl
@[simp] theorem setIm_mapTab (w : BitVec 4) : (s.setIm w).mapTab = s.mapTab := rfl
@[simp] theorem setIm_tagEnable (w : BitVec 4) : (s.setIm w).tagEnable = s.tagEnable := rfl
@[simp] theorem setIm_dcacheEnabled (w : BitVec 4) : (s.setIm w).dcacheEnabled = s.dcacheEnabled := rfl
@[simp] theorem setIm_icacheStale (w : BitVec 4) : (s.setIm w).icacheStale = s.icacheStale := rfl
@[simp] theorem setIm_mem (w : BitVec 4) : (s.setIm w).mem = s.mem := rfl

/-! setVec -/

@[simp] theorem setVec_cfg (r : RegNo) (e : Nat) (w : Word) : (s.setVec r e w).cfg = s.cfg := rfl
@[simp] theorem setVec_pc (r : RegNo) (e : Nat) (w : Word) : (s.setVec r e w).pc = s.pc := rfl
@[simp] theorem setVec_ilen (r : RegNo) (e : Nat) (w : Word) : (s.setVec r e w).ilen = s.ilen := rfl
@[simp] theorem setVec_ir (r : RegNo) (e : Nat) (w : Word) : (s.setVec r e w).ir = s.ir := rfl
@[simp] theorem setVec_event (r : RegNo) (e : Nat) (w : Word) : (s.setVec r e w).event = s.event := rfl
@[simp] theorem setVec_pending (r : RegNo) (e : Nat) (w : Word) : (s.setVec r e w).pending = s.pending := rfl
@[simp] theorem setVec_freeIdx (r : RegNo) (e : Nat) (w : Word) : (s.setVec r e w).freeIdx = s.freeIdx := rfl
@[simp] theorem setVec_irqLevel (r : RegNo) (e : Nat) (w : Word) : (s.setVec r e w).irqLevel = s.irqLevel := rfl
@[simp] theorem setVec_irqCause (r : RegNo) (e : Nat) (w : Word) : (s.setVec r e w).irqCause = s.irqCause := rfl
@[simp] theorem setVec_resetPin (r : RegNo) (e : Nat) (w : Word) : (s.setVec r e w).resetPin = s.resetPin := rfl
@[simp] theorem setVec_waitLow (r : RegNo) (e : Nat) (w : Word) : (s.setVec r e w).waitLow = s.waitLow := rfl
@[simp] theorem setVec_waitRunning (r : RegNo) (e : Nat) (w : Word) : (s.setVec r e w).waitRunning = s.waitRunning := rfl
@[simp] theorem setVec_xs (r : RegNo) (e : Nat) (w : Word) : (s.setVec r e w).xs = s.xs := rfl
@[simp] theorem setVec_v (r : RegNo) (e : Nat) (w : Word) : (s.setVec r e w).v = storeSet 0 s.v (r.toNat * 64 + e) w := rfl
@[simp] theorem setVec_vm (r : RegNo) (e : Nat) (w : Word) : (s.setVec r e w).vm = s.vm := rfl
@[simp] theorem setVec_vl (r : RegNo) (e : Nat) (w : Word) : (s.setVec r e w).vl = s.vl := rfl
@[simp] theorem setVec_csr (r : RegNo) (e : Nat) (w : Word) : (s.setVec r e w).csr = s.csr := rfl
@[simp] theorem setVec_ctr (r : RegNo) (e : Nat) (w : Word) : (s.setVec r e w).ctr = s.ctr := rfl
@[simp] theorem setVec_vchain (r : RegNo) (e : Nat) (w : Word) : (s.setVec r e w).vchain = s.vchain := rfl
@[simp] theorem setVec_segZs (r : RegNo) (e : Nat) (w : Word) : (s.setVec r e w).segZs = s.segZs := rfl
@[simp] theorem setVec_segEs (r : RegNo) (e : Nat) (w : Word) : (s.setVec r e w).segEs = s.segEs := rfl
@[simp] theorem setVec_segHs (r : RegNo) (e : Nat) (w : Word) : (s.setVec r e w).segHs = s.segHs := rfl
@[simp] theorem setVec_resvValid (r : RegNo) (e : Nat) (w : Word) : (s.setVec r e w).resvValid = s.resvValid := rfl
@[simp] theorem setVec_resvAddr (r : RegNo) (e : Nat) (w : Word) : (s.setVec r e w).resvAddr = s.resvAddr := rfl
@[simp] theorem setVec_resvPa (r : RegNo) (e : Nat) (w : Word) : (s.setVec r e w).resvPa = s.resvPa := rfl
@[simp] theorem setVec_tlb (r : RegNo) (e : Nat) (w : Word) : (s.setVec r e w).tlb = s.tlb := rfl
@[simp] theorem setVec_mapTab (r : RegNo) (e : Nat) (w : Word) : (s.setVec r e w).mapTab = s.mapTab := rfl
@[simp] theorem setVec_tagEnable (r : RegNo) (e : Nat) (w : Word) : (s.setVec r e w).tagEnable = s.tagEnable := rfl
@[simp] theorem setVec_dcacheEnabled (r : RegNo) (e : Nat) (w : Word) : (s.setVec r e w).dcacheEnabled = s.dcacheEnabled := rfl
@[simp] theorem setVec_icacheStale (r : RegNo) (e : Nat) (w : Word) : (s.setVec r e w).icacheStale = s.icacheStale := rfl
@[simp] theorem setVec_mem (r : RegNo) (e : Nat) (w : Word) : (s.setVec r e w).mem = s.mem := rfl

/-! setMask -/

@[simp] theorem setMask_cfg (k : BitVec 3) (w : Word) : (s.setMask k w).cfg = s.cfg := rfl
@[simp] theorem setMask_pc (k : BitVec 3) (w : Word) : (s.setMask k w).pc = s.pc := rfl
@[simp] theorem setMask_ilen (k : BitVec 3) (w : Word) : (s.setMask k w).ilen = s.ilen := rfl
@[simp] theorem setMask_ir (k : BitVec 3) (w : Word) : (s.setMask k w).ir = s.ir := rfl
@[simp] theorem setMask_event (k : BitVec 3) (w : Word) : (s.setMask k w).event = s.event := rfl
@[simp] theorem setMask_pending (k : BitVec 3) (w : Word) : (s.setMask k w).pending = s.pending := rfl
@[simp] theorem setMask_freeIdx (k : BitVec 3) (w : Word) : (s.setMask k w).freeIdx = s.freeIdx := rfl
@[simp] theorem setMask_irqLevel (k : BitVec 3) (w : Word) : (s.setMask k w).irqLevel = s.irqLevel := rfl
@[simp] theorem setMask_irqCause (k : BitVec 3) (w : Word) : (s.setMask k w).irqCause = s.irqCause := rfl
@[simp] theorem setMask_resetPin (k : BitVec 3) (w : Word) : (s.setMask k w).resetPin = s.resetPin := rfl
@[simp] theorem setMask_waitLow (k : BitVec 3) (w : Word) : (s.setMask k w).waitLow = s.waitLow := rfl
@[simp] theorem setMask_waitRunning (k : BitVec 3) (w : Word) : (s.setMask k w).waitRunning = s.waitRunning := rfl
@[simp] theorem setMask_xs (k : BitVec 3) (w : Word) : (s.setMask k w).xs = s.xs := rfl
@[simp] theorem setMask_v (k : BitVec 3) (w : Word) : (s.setMask k w).v = s.v := rfl
@[simp] theorem setMask_vm (k : BitVec 3) (w : Word) : (s.setMask k w).vm = bank8Set s.vm k.toNat w := rfl
@[simp] theorem setMask_vl (k : BitVec 3) (w : Word) : (s.setMask k w).vl = s.vl := rfl
@[simp] theorem setMask_csr (k : BitVec 3) (w : Word) : (s.setMask k w).csr = s.csr := rfl
@[simp] theorem setMask_ctr (k : BitVec 3) (w : Word) : (s.setMask k w).ctr = s.ctr := rfl
@[simp] theorem setMask_vchain (k : BitVec 3) (w : Word) : (s.setMask k w).vchain = s.vchain := rfl
@[simp] theorem setMask_segZs (k : BitVec 3) (w : Word) : (s.setMask k w).segZs = s.segZs := rfl
@[simp] theorem setMask_segEs (k : BitVec 3) (w : Word) : (s.setMask k w).segEs = s.segEs := rfl
@[simp] theorem setMask_segHs (k : BitVec 3) (w : Word) : (s.setMask k w).segHs = s.segHs := rfl
@[simp] theorem setMask_resvValid (k : BitVec 3) (w : Word) : (s.setMask k w).resvValid = s.resvValid := rfl
@[simp] theorem setMask_resvAddr (k : BitVec 3) (w : Word) : (s.setMask k w).resvAddr = s.resvAddr := rfl
@[simp] theorem setMask_resvPa (k : BitVec 3) (w : Word) : (s.setMask k w).resvPa = s.resvPa := rfl
@[simp] theorem setMask_tlb (k : BitVec 3) (w : Word) : (s.setMask k w).tlb = s.tlb := rfl
@[simp] theorem setMask_mapTab (k : BitVec 3) (w : Word) : (s.setMask k w).mapTab = s.mapTab := rfl
@[simp] theorem setMask_tagEnable (k : BitVec 3) (w : Word) : (s.setMask k w).tagEnable = s.tagEnable := rfl
@[simp] theorem setMask_dcacheEnabled (k : BitVec 3) (w : Word) : (s.setMask k w).dcacheEnabled = s.dcacheEnabled := rfl
@[simp] theorem setMask_icacheStale (k : BitVec 3) (w : Word) : (s.setMask k w).icacheStale = s.icacheStale := rfl
@[simp] theorem setMask_mem (k : BitVec 3) (w : Word) : (s.setMask k w).mem = s.mem := rfl

/-! noteInstr -/

@[simp] theorem noteInstr_cfg : (noteInstr s).cfg = s.cfg := rfl
@[simp] theorem noteInstr_pc : (noteInstr s).pc = s.pc := rfl
@[simp] theorem noteInstr_ilen : (noteInstr s).ilen = s.ilen := rfl
@[simp] theorem noteInstr_ir : (noteInstr s).ir = s.ir := rfl
@[simp] theorem noteInstr_event : (noteInstr s).event = s.event := rfl
@[simp] theorem noteInstr_pending : (noteInstr s).pending = s.pending := rfl
@[simp] theorem noteInstr_freeIdx : (noteInstr s).freeIdx = s.freeIdx := rfl
@[simp] theorem noteInstr_irqLevel : (noteInstr s).irqLevel = s.irqLevel := rfl
@[simp] theorem noteInstr_irqCause : (noteInstr s).irqCause = s.irqCause := rfl
@[simp] theorem noteInstr_resetPin : (noteInstr s).resetPin = s.resetPin := rfl
@[simp] theorem noteInstr_waitLow : (noteInstr s).waitLow = s.waitLow := rfl
@[simp] theorem noteInstr_waitRunning : (noteInstr s).waitRunning = s.waitRunning := rfl
@[simp] theorem noteInstr_xs : (noteInstr s).xs = s.xs := rfl
@[simp] theorem noteInstr_v : (noteInstr s).v = s.v := rfl
@[simp] theorem noteInstr_vm : (noteInstr s).vm = s.vm := rfl
@[simp] theorem noteInstr_vl : (noteInstr s).vl = s.vl := rfl
@[simp] theorem noteInstr_csr : (noteInstr s).csr = { s.csr with badInstr := s.ir } := rfl
@[simp] theorem noteInstr_ctr : (noteInstr s).ctr = s.ctr := rfl
@[simp] theorem noteInstr_vchain : (noteInstr s).vchain = s.vchain := rfl
@[simp] theorem noteInstr_segZs : (noteInstr s).segZs = s.segZs := rfl
@[simp] theorem noteInstr_segEs : (noteInstr s).segEs = s.segEs := rfl
@[simp] theorem noteInstr_segHs : (noteInstr s).segHs = s.segHs := rfl
@[simp] theorem noteInstr_resvValid : (noteInstr s).resvValid = s.resvValid := rfl
@[simp] theorem noteInstr_resvAddr : (noteInstr s).resvAddr = s.resvAddr := rfl
@[simp] theorem noteInstr_resvPa : (noteInstr s).resvPa = s.resvPa := rfl
@[simp] theorem noteInstr_tlb : (noteInstr s).tlb = s.tlb := rfl
@[simp] theorem noteInstr_mapTab : (noteInstr s).mapTab = s.mapTab := rfl
@[simp] theorem noteInstr_tagEnable : (noteInstr s).tagEnable = s.tagEnable := rfl
@[simp] theorem noteInstr_dcacheEnabled : (noteInstr s).dcacheEnabled = s.dcacheEnabled := rfl
@[simp] theorem noteInstr_icacheStale : (noteInstr s).icacheStale = s.icacheStale := rfl
@[simp] theorem noteInstr_mem : (noteInstr s).mem = s.mem := rfl

/-! noteAddr -/

@[simp] theorem noteAddr_cfg (a : Word) : (noteAddr a s).cfg = s.cfg := rfl
@[simp] theorem noteAddr_pc (a : Word) : (noteAddr a s).pc = s.pc := rfl
@[simp] theorem noteAddr_ilen (a : Word) : (noteAddr a s).ilen = s.ilen := rfl
@[simp] theorem noteAddr_ir (a : Word) : (noteAddr a s).ir = s.ir := rfl
@[simp] theorem noteAddr_event (a : Word) : (noteAddr a s).event = s.event := rfl
@[simp] theorem noteAddr_pending (a : Word) : (noteAddr a s).pending = s.pending := rfl
@[simp] theorem noteAddr_freeIdx (a : Word) : (noteAddr a s).freeIdx = s.freeIdx := rfl
@[simp] theorem noteAddr_irqLevel (a : Word) : (noteAddr a s).irqLevel = s.irqLevel := rfl
@[simp] theorem noteAddr_irqCause (a : Word) : (noteAddr a s).irqCause = s.irqCause := rfl
@[simp] theorem noteAddr_resetPin (a : Word) : (noteAddr a s).resetPin = s.resetPin := rfl
@[simp] theorem noteAddr_waitLow (a : Word) : (noteAddr a s).waitLow = s.waitLow := rfl
@[simp] theorem noteAddr_waitRunning (a : Word) : (noteAddr a s).waitRunning = s.waitRunning := rfl
@[simp] theorem noteAddr_xs (a : Word) : (noteAddr a s).xs = s.xs := rfl
@[simp] theorem noteAddr_v (a : Word) : (noteAddr a s).v = s.v := rfl
@[simp] theorem noteAddr_vm (a : Word) : (noteAddr a s).vm = s.vm := rfl
@[simp] theorem noteAddr_vl (a : Word) : (noteAddr a s).vl = s.vl := rfl
@[simp] theorem noteAddr_csr (a : Word) : (noteAddr a s).csr = { s.csr with badaddr0 := a } := rfl
@[simp] theorem noteAddr_ctr (a : Word) : (noteAddr a s).ctr = s.ctr := rfl
@[simp] theorem noteAddr_vchain (a : Word) : (noteAddr a s).vchain = s.vchain := rfl
@[simp] theorem noteAddr_segZs (a : Word) : (noteAddr a s).segZs = s.segZs := rfl
@[simp] theorem noteAddr_segEs (a : Word) : (noteAddr a s).segEs = s.segEs := rfl
@[simp] theorem noteAddr_segHs (a : Word) : (noteAddr a s).segHs = s.segHs := rfl
@[simp] theorem noteAddr_resvValid (a : Word) : (noteAddr a s).resvValid = s.resvValid := rfl
@[simp] theorem noteAddr_resvAddr (a : Word) : (noteAddr a s).resvAddr = s.resvAddr := rfl
@[simp] theorem noteAddr_resvPa (a : Word) : (noteAddr a s).resvPa = s.resvPa := rfl
@[simp] theorem noteAddr_tlb (a : Word) : (noteAddr a s).tlb = s.tlb := rfl
@[simp] theorem noteAddr_mapTab (a : Word) : (noteAddr a s).mapTab = s.mapTab := rfl
@[simp] theorem noteAddr_tagEnable (a : Word) : (noteAddr a s).tagEnable = s.tagEnable := rfl
@[simp] theorem noteAddr_dcacheEnabled (a : Word) : (noteAddr a s).dcacheEnabled = s.dcacheEnabled := rfl
@[simp] theorem noteAddr_icacheStale (a : Word) : (noteAddr a s).icacheStale = s.icacheStale := rfl
@[simp] theorem noteAddr_mem (a : Word) : (noteAddr a s).mem = s.mem := rfl

/-! noteAec -/

@[simp] theorem noteAec_cfg (k : Nat) : (noteAec k s).cfg = s.cfg := rfl
@[simp] theorem noteAec_pc (k : Nat) : (noteAec k s).pc = s.pc := rfl
@[simp] theorem noteAec_ilen (k : Nat) : (noteAec k s).ilen = s.ilen := rfl
@[simp] theorem noteAec_ir (k : Nat) : (noteAec k s).ir = s.ir := rfl
@[simp] theorem noteAec_event (k : Nat) : (noteAec k s).event = s.event := rfl
@[simp] theorem noteAec_pending (k : Nat) : (noteAec k s).pending = s.pending := rfl
@[simp] theorem noteAec_freeIdx (k : Nat) : (noteAec k s).freeIdx = s.freeIdx := rfl
@[simp] theorem noteAec_irqLevel (k : Nat) : (noteAec k s).irqLevel = s.irqLevel := rfl
@[simp] theorem noteAec_irqCause (k : Nat) : (noteAec k s).irqCause = s.irqCause := rfl
@[simp] theorem noteAec_resetPin (k : Nat) : (noteAec k s).resetPin = s.resetPin := rfl
@[simp] theorem noteAec_waitLow (k : Nat) : (noteAec k s).waitLow = s.waitLow := rfl
@[simp] theorem noteAec_waitRunning (k : Nat) : (noteAec k s).waitRunning = s.waitRunning := rfl
@[simp] theorem noteAec_xs (k : Nat) : (noteAec k s).xs = s.xs := rfl
@[simp] theorem noteAec_v (k : Nat) : (noteAec k s).v = s.v := rfl
@[simp] theorem noteAec_vm (k : Nat) : (noteAec k s).vm = s.vm := rfl
@[simp] theorem noteAec_vl (k : Nat) : (noteAec k s).vl = s.vl := rfl
@[simp] theorem noteAec_csr (k : Nat) : (noteAec k s).csr = { s.csr with aec := setBitAt s.csr.aec k true } := rfl
@[simp] theorem noteAec_ctr (k : Nat) : (noteAec k s).ctr = s.ctr := rfl
@[simp] theorem noteAec_vchain (k : Nat) : (noteAec k s).vchain = s.vchain := rfl
@[simp] theorem noteAec_segZs (k : Nat) : (noteAec k s).segZs = s.segZs := rfl
@[simp] theorem noteAec_segEs (k : Nat) : (noteAec k s).segEs = s.segEs := rfl
@[simp] theorem noteAec_segHs (k : Nat) : (noteAec k s).segHs = s.segHs := rfl
@[simp] theorem noteAec_resvValid (k : Nat) : (noteAec k s).resvValid = s.resvValid := rfl
@[simp] theorem noteAec_resvAddr (k : Nat) : (noteAec k s).resvAddr = s.resvAddr := rfl
@[simp] theorem noteAec_resvPa (k : Nat) : (noteAec k s).resvPa = s.resvPa := rfl
@[simp] theorem noteAec_tlb (k : Nat) : (noteAec k s).tlb = s.tlb := rfl
@[simp] theorem noteAec_mapTab (k : Nat) : (noteAec k s).mapTab = s.mapTab := rfl
@[simp] theorem noteAec_tagEnable (k : Nat) : (noteAec k s).tagEnable = s.tagEnable := rfl
@[simp] theorem noteAec_dcacheEnabled (k : Nat) : (noteAec k s).dcacheEnabled = s.dcacheEnabled := rfl
@[simp] theorem noteAec_icacheStale (k : Nat) : (noteAec k s).icacheStale = s.icacheStale := rfl
@[simp] theorem noteAec_mem (k : Nat) : (noteAec k s).mem = s.mem := rfl

/-! noteMatch -/

@[simp] theorem noteMatch_cfg (b : BitVec 4) : (noteMatch b s).cfg = s.cfg := rfl
@[simp] theorem noteMatch_pc (b : BitVec 4) : (noteMatch b s).pc = s.pc := rfl
@[simp] theorem noteMatch_ilen (b : BitVec 4) : (noteMatch b s).ilen = s.ilen := rfl
@[simp] theorem noteMatch_ir (b : BitVec 4) : (noteMatch b s).ir = s.ir := rfl
@[simp] theorem noteMatch_event (b : BitVec 4) : (noteMatch b s).event = s.event := rfl
@[simp] theorem noteMatch_pending (b : BitVec 4) : (noteMatch b s).pending = s.pending := rfl
@[simp] theorem noteMatch_freeIdx (b : BitVec 4) : (noteMatch b s).freeIdx = s.freeIdx := rfl
@[simp] theorem noteMatch_irqLevel (b : BitVec 4) : (noteMatch b s).irqLevel = s.irqLevel := rfl
@[simp] theorem noteMatch_irqCause (b : BitVec 4) : (noteMatch b s).irqCause = s.irqCause := rfl
@[simp] theorem noteMatch_resetPin (b : BitVec 4) : (noteMatch b s).resetPin = s.resetPin := rfl
@[simp] theorem noteMatch_waitLow (b : BitVec 4) : (noteMatch b s).waitLow = s.waitLow := rfl
@[simp] theorem noteMatch_waitRunning (b : BitVec 4) : (noteMatch b s).waitRunning = s.waitRunning := rfl
@[simp] theorem noteMatch_xs (b : BitVec 4) : (noteMatch b s).xs = s.xs := rfl
@[simp] theorem noteMatch_v (b : BitVec 4) : (noteMatch b s).v = s.v := rfl
@[simp] theorem noteMatch_vm (b : BitVec 4) : (noteMatch b s).vm = s.vm := rfl
@[simp] theorem noteMatch_vl (b : BitVec 4) : (noteMatch b s).vl = s.vl := rfl
@[simp] theorem noteMatch_csr (b : BitVec 4) : (noteMatch b s).csr = { s.csr with dbsr := s.csr.dbsr ||| zext64 b } := rfl
@[simp] theorem noteMatch_ctr (b : BitVec 4) : (noteMatch b s).ctr = s.ctr := rfl
@[simp] theorem noteMatch_vchain (b : BitVec 4) : (noteMatch b s).vchain = s.vchain := rfl
@[simp] theorem noteMatch_segZs (b : BitVec 4) : (noteMatch b s).segZs = s.segZs := rfl
@[simp] theorem noteMatch_segEs (b : BitVec 4) : (noteMatch b s).segEs = s.segEs := rfl
@[simp] theorem noteMatch_segHs (b : BitVec 4) : (noteMatch b s).segHs = s.segHs := rfl
@[simp] theorem noteMatch_resvValid (b : BitVec 4) : (noteMatch b s).resvValid = s.resvValid := rfl
@[simp] theorem noteMatch_resvAddr (b : BitVec 4) : (noteMatch b s).resvAddr = s.resvAddr := rfl
@[simp] theorem noteMatch_resvPa (b : BitVec 4) : (noteMatch b s).resvPa = s.resvPa := rfl
@[simp] theorem noteMatch_tlb (b : BitVec 4) : (noteMatch b s).tlb = s.tlb := rfl
@[simp] theorem noteMatch_mapTab (b : BitVec 4) : (noteMatch b s).mapTab = s.mapTab := rfl
@[simp] theorem noteMatch_tagEnable (b : BitVec 4) : (noteMatch b s).tagEnable = s.tagEnable := rfl
@[simp] theorem noteMatch_dcacheEnabled (b : BitVec 4) : (noteMatch b s).dcacheEnabled = s.dcacheEnabled := rfl
@[simp] theorem noteMatch_icacheStale (b : BitVec 4) : (noteMatch b s).icacheStale = s.icacheStale := rfl
@[simp] theorem noteMatch_mem (b : BitVec 4) : (noteMatch b s).mem = s.mem := rfl

/-! setReg -/

@[simp] theorem setReg_cfg (q : BitVec 6) (r : RegNo) (w : Word) : (s.setReg q r w).cfg = s.cfg := by unfold State.setReg; split <;> rfl
@[simp] theorem setReg_pc (q : BitVec 6) (r : RegNo) (w : Word) : (s.setReg q r w).pc = s.pc := by unfold State.setReg; split <;> rfl
@[simp] theorem setReg_ilen (q : BitVec 6) (r : RegNo) (w : Word) : (s.setReg q r w).ilen = s.ilen := by unfold State.setReg; split <;> rfl
@[simp] theorem setReg_ir (q : BitVec 6) (r : RegNo) (w : Word) : (s.setReg q r w).ir = s.ir := by unfold State.setReg; split <;> rfl
@[simp] theorem setReg_event (q : BitVec 6) (r : RegNo) (w : Word) : (s.setReg q r w).event = s.event := by unfold State.setReg; split <;> rfl
@[simp] theorem setReg_pending (q : BitVec 6) (r : RegNo) (w : Word) : (s.setReg q r w).pending = s.pending := by unfold State.setReg; split <;> rfl
@[simp] theorem setReg_freeIdx (q : BitVec 6) (r : RegNo) (w : Word) : (s.setReg q r w).freeIdx = s.freeIdx := by unfold State.setReg; split <;> rfl
@[simp] theorem setReg_irqLevel (q : BitVec 6) (r : RegNo) (w : Word) : (s.setReg q r w).irqLevel = s.irqLevel := by unfold State.setReg; split <;> rfl
@[simp] theorem setReg_irqCause (q : BitVec 6) (r : RegNo) (w : Word) : (s.setReg q r w).irqCause = s.irqCause := by unfold State.setReg; split <;> rfl
@[simp] theorem setReg_resetPin (q : BitVec 6) (r : RegNo) (w : Word) : (s.setReg q r w).resetPin = s.resetPin := by unfold State.setReg; split <;> rfl
@[simp] theorem setReg_waitLow (q : BitVec 6) (r : RegNo) (w : Word) : (s.setReg q r w).waitLow = s.waitLow := by unfold State.setReg; split <;> rfl
@[simp] theorem setReg_waitRunning (q : BitVec 6) (r : RegNo) (w : Word) : (s.setReg q r w).waitRunning = s.waitRunning := by unfold State.setReg; split <;> rfl
@[simp] theorem setReg_xs (q : BitVec 6) (r : RegNo) (w : Word) : (s.setReg q r w).xs = if r = 0 then s.xs else storeSet 0 s.xs (regKey q r) w := by unfold State.setReg; split <;> rfl
@[simp] theorem setReg_v (q : BitVec 6) (r : RegNo) (w : Word) : (s.setReg q r w).v = s.v := by unfold State.setReg; split <;> rfl
@[simp] theorem setReg_vm (q : BitVec 6) (r : RegNo) (w : Word) : (s.setReg q r w).vm = s.vm := by unfold State.setReg; split <;> rfl
@[simp] theorem setReg_vl (q : BitVec 6) (r : RegNo) (w : Word) : (s.setReg q r w).vl = s.vl := by unfold State.setReg; split <;> rfl
@[simp] theorem setReg_csr (q : BitVec 6) (r : RegNo) (w : Word) : (s.setReg q r w).csr = s.csr := by unfold State.setReg; split <;> rfl
@[simp] theorem setReg_ctr (q : BitVec 6) (r : RegNo) (w : Word) : (s.setReg q r w).ctr = s.ctr := by unfold State.setReg; split <;> rfl
@[simp] theorem setReg_vchain (q : BitVec 6) (r : RegNo) (w : Word) : (s.setReg q r w).vchain = s.vchain := by unfold State.setReg; split <;> rfl
@[simp] theorem setReg_segZs (q : BitVec 6) (r : RegNo) (w : Word) : (s.setReg q r w).segZs = s.segZs := by unfold State.setReg; split <;> rfl
@[simp] theorem setReg_segEs (q : BitVec 6) (r : RegNo) (w : Word) : (s.setReg q r w).segEs = s.segEs := by unfold State.setReg; split <;> rfl
@[simp] theorem setReg_segHs (q : BitVec 6) (r : RegNo) (w : Word) : (s.setReg q r w).segHs = s.segHs := by unfold State.setReg; split <;> rfl
@[simp] theorem setReg_resvValid (q : BitVec 6) (r : RegNo) (w : Word) : (s.setReg q r w).resvValid = s.resvValid := by unfold State.setReg; split <;> rfl
@[simp] theorem setReg_resvAddr (q : BitVec 6) (r : RegNo) (w : Word) : (s.setReg q r w).resvAddr = s.resvAddr := by unfold State.setReg; split <;> rfl
@[simp] theorem setReg_resvPa (q : BitVec 6) (r : RegNo) (w : Word) : (s.setReg q r w).resvPa = s.resvPa := by unfold State.setReg; split <;> rfl
@[simp] theorem setReg_tlb (q : BitVec 6) (r : RegNo) (w : Word) : (s.setReg q r w).tlb = s.tlb := by unfold State.setReg; split <;> rfl
@[simp] theorem setReg_mapTab (q : BitVec 6) (r : RegNo) (w : Word) : (s.setReg q r w).mapTab = s.mapTab := by unfold State.setReg; split <;> rfl
@[simp] theorem setReg_tagEnable (q : BitVec 6) (r : RegNo) (w : Word) : (s.setReg q r w).tagEnable = s.tagEnable := by unfold State.setReg; split <;> rfl
@[simp] theorem setReg_dcacheEnabled (q : BitVec 6) (r : RegNo) (w : Word) : (s.setReg q r w).dcacheEnabled = s.dcacheEnabled := by unfold State.setReg; split <;> rfl
@[simp] theorem setReg_icacheStale (q : BitVec 6) (r : RegNo) (w : Word) : (s.setReg q r w).icacheStale = s.icacheStale := by unfold State.setReg; split <;> rfl
@[simp] theorem setReg_mem (q : BitVec 6) (r : RegNo) (w : Word) : (s.setReg q r w).mem = s.mem := by unfold State.setReg; split <;> rfl

/-! setX -/

@[simp] theorem setX_cfg (r : RegNo) (w : Word) : (s.setX r w).cfg = s.cfg := by unfold State.setX State.setReg; split <;> rfl
@[simp] theorem setX_pc (r : RegNo) (w : Word) : (s.setX r w).pc = s.pc := by unfold State.setX State.setReg; split <;> rfl
@[simp] theorem setX_ilen (r : RegNo) (w : Word) : (s.setX r w).ilen = s.ilen := by unfold State.setX State.setReg; split <;> rfl
@[simp] theorem setX_ir (r : RegNo) (w : Word) : (s.setX r w).ir = s.ir := by unfold State.setX State.setReg; split <;> rfl
@[simp] theorem setX_event (r : RegNo) (w : Word) : (s.setX r w).event = s.event := by unfold State.setX State.setReg; split <;> rfl
@[simp] theorem setX_pending (r : RegNo) (w : Word) : (s.setX r w).pending = s.pending := by unfold State.setX State.setReg; split <;> rfl
@[simp] theorem setX_freeIdx (r : RegNo) (w : Word) : (s.setX r w).freeIdx = s.freeIdx := by unfold State.setX State.setReg; split <;> rfl
@[simp] theorem setX_irqLevel (r : RegNo) (w : Word) : (s.setX r w).irqLevel = s.irqLevel := by unfold State.setX State.setReg; split <;> rfl
@[simp] theorem setX_irqCause (r : RegNo) (w : Word) : (s.setX r w).irqCause = s.irqCause := by unfold State.setX State.setReg; split <;> rfl
@[simp] theorem setX_resetPin (r : RegNo) (w : Word) : (s.setX r w).resetPin = s.resetPin := by unfold State.setX State.setReg; split <;> rfl
@[simp] theorem setX_waitLow (r : RegNo) (w : Word) : (s.setX r w).waitLow = s.waitLow := by unfold State.setX State.setReg; split <;> rfl
@[simp] theorem setX_waitRunning (r : RegNo) (w : Word) : (s.setX r w).waitRunning = s.waitRunning := by unfold State.setX State.setReg; split <;> rfl
@[simp] theorem setX_xs (r : RegNo) (w : Word) : (s.setX r w).xs = if r = 0 then s.xs else storeSet 0 s.xs (regKey s.rs r) w := by unfold State.setX State.setReg; split <;> rfl
@[simp] theorem setX_v (r : RegNo) (w : Word) : (s.setX r w).v = s.v := by unfold State.setX State.setReg; split <;> rfl
@[simp] theorem setX_vm (r : RegNo) (w : Word) : (s.setX r w).vm = s.vm := by unfold State.setX State.setReg; split <;> rfl
@[simp] theorem setX_vl (r : RegNo) (w : Word) : (s.setX r w).vl = s.vl := by unfold State.setX State.setReg; split <;> rfl
@[simp] theorem setX_csr (r : RegNo) (w : Word) : (s.setX r w).csr = s.csr := by unfold State.setX State.setReg; split <;> rfl
@[simp] theorem setX_ctr (r : RegNo) (w : Word) : (s.setX r w).ctr = s.ctr := by unfold State.setX State.setReg; split <;> rfl
@[simp] theorem setX_vchain (r : RegNo) (w : Word) : (s.setX r w).vchain = s.vchain := by unfold State.setX State.setReg; split <;> rfl
@[simp] theorem setX_segZs (r : RegNo) (w : Word) : (s.setX r w).segZs = s.segZs := by unfold State.setX State.setReg; split <;> rfl
@[simp] theorem setX_segEs (r : RegNo) (w : Word) : (s.setX r w).segEs = s.segEs := by unfold State.setX State.setReg; split <;> rfl
@[simp] theorem setX_segHs (r : RegNo) (w : Word) : (s.setX r w).segHs = s.segHs := by unfold State.setX State.setReg; split <;> rfl
@[simp] theorem setX_resvValid (r : RegNo) (w : Word) : (s.setX r w).resvValid = s.resvValid := by unfold State.setX State.setReg; split <;> rfl
@[simp] theorem setX_resvAddr (r : RegNo) (w : Word) : (s.setX r w).resvAddr = s.resvAddr := by unfold State.setX State.setReg; split <;> rfl
@[simp] theorem setX_resvPa (r : RegNo) (w : Word) : (s.setX r w).resvPa = s.resvPa := by unfold State.setX State.setReg; split <;> rfl
@[simp] theorem setX_tlb (r : RegNo) (w : Word) : (s.setX r w).tlb = s.tlb := by unfold State.setX State.setReg; split <;> rfl
@[simp] theorem setX_mapTab (r : RegNo) (w : Word) : (s.setX r w).mapTab = s.mapTab := by unfold State.setX State.setReg; split <;> rfl
@[simp] theorem setX_tagEnable (r : RegNo) (w : Word) : (s.setX r w).tagEnable = s.tagEnable := by unfold State.setX State.setReg; split <;> rfl
@[simp] theorem setX_dcacheEnabled (r : RegNo) (w : Word) : (s.setX r w).dcacheEnabled = s.dcacheEnabled := by unfold State.setX State.setReg; split <;> rfl
@[simp] theorem setX_icacheStale (r : RegNo) (w : Word) : (s.setX r w).icacheStale = s.icacheStale := by unfold State.setX State.setReg; split <;> rfl
@[simp] theorem setX_mem (r : RegNo) (w : Word) : (s.setX r w).mem = s.mem := by unfold State.setX State.setReg; split <;> rfl

/-! trapEnter -/

@[simp] theorem trapEnter_cfg (c : BitVec 8) (u : BitVec 6) (l : BitVec 4) (p : Word) : (trapEnter c u l p s).cfg = s.cfg := rfl
@[simp] theorem trapEnter_pc (c : BitVec 8) (u : BitVec 6) (l : BitVec 4) (p : Word) : (trapEnter c u l p s).pc = vectorFor s.csr.tvec.r0 s.ol := rfl
@[simp] theorem trapEnter_ilen (c : BitVec 8) (u : BitVec 6) (l : BitVec 4) (p : Word) : (trapEnter c u l p s).ilen = s.ilen := rfl
@[simp] theorem trapEnter_ir (c : BitVec 8) (u : BitVec 6) (l : BitVec 4) (p : Word) : (trapEnter c u l p s).ir = s.ir := rfl
@[simp] theorem trapEnter_event (c : BitVec 8) (u : BitVec 6) (l : BitVec 4) (p : Word) : (trapEnter c u l p s).event = s.event := rfl
@[simp] theorem trapEnter_pending (c : BitVec 8) (u : BitVec 6) (l : BitVec 4) (p : Word) : (trapEnter c u l p s).pending = s.pending := rfl
@[simp] theorem trapEnter_freeIdx (c : BitVec 8) (u : BitVec 6) (l : BitVec 4) (p : Word) : (trapEnter c u l p s).freeIdx = s.freeIdx := rfl
@[simp] theorem trapEnter_irqLevel (c : BitVec 8) (u : BitVec 6) (l : BitVec 4) (p : Word) : (trapEnter c u l p s).irqLevel = s.irqLevel := rfl
@[simp] theorem trapEnter_irqCause (c : BitVec 8) (u : BitVec 6) (l : BitVec 4) (p : Word) : (trapEnter c u l p s).irqCause = s.irqCause := rfl
@[simp] theorem trapEnter_resetPin (c : BitVec 8) (u : BitVec 6) (l : BitVec 4) (p : Word) : (trapEnter c u l p s).resetPin = s.resetPin := rfl
@[simp] theorem trapEnter_waitLow (c : BitVec 8) (u : BitVec 6) (l : BitVec 4) (p : Word) : (trapEnter c u l p s).waitLow = s.waitLow := rfl
@[simp] theorem trapEnter_waitRunning (c : BitVec 8) (u : BitVec 6) (l : BitVec 4) (p : Word) : (trapEnter c u l p s).waitRunning = s.waitRunning := rfl
@[simp] theorem trapEnter_xs (c : BitVec 8) (u : BitVec 6) (l : BitVec 4) (p : Word) : (trapEnter c u l p s).xs = s.xs := rfl
@[simp] theorem trapEnter_v (c : BitVec 8) (u : BitVec 6) (l : BitVec 4) (p : Word) : (trapEnter c u l p s).v = s.v := rfl
@[simp] theorem trapEnter_vm (c : BitVec 8) (u : BitVec 6) (l : BitVec 4) (p : Word) : (trapEnter c u l p s).vm = s.vm := rfl
@[simp] theorem trapEnter_vl (c : BitVec 8) (u : BitVec 6) (l : BitVec 4) (p : Word) : (trapEnter c u l p s).vl = s.vl := rfl
@[simp] theorem trapEnter_csr (c : BitVec 8) (u : BitVec 6) (l : BitVec 4) (p : Word) : (trapEnter c u l p s).csr = csrsOnTrap s.cfg.irqRsScale s.csr c u l p s.vchain s.debugMode := rfl
@[simp] theorem trapEnter_ctr (c : BitVec 8) (u : BitVec 6) (l : BitVec 4) (p : Word) : (trapEnter c u l p s).ctr = s.ctr := rfl
@[simp] theorem trapEnter_vchain (c : BitVec 8) (u : BitVec 6) (l : BitVec 4) (p : Word) : (trapEnter c u l p s).vchain = false := rfl
@[simp] theorem trapEnter_segZs (c : BitVec 8) (u : BitVec 6) (l : BitVec 4) (p : Word) : (trapEnter c u l p s).segZs = s.segZs := rfl
@[simp] theorem trapEnter_segEs (c : BitVec 8) (u : BitVec 6) (l : BitVec 4) (p : Word) : (trapEnter c u l p s).segEs = s.segEs := rfl
@[simp] theorem trapEnter_segHs (c : BitVec 8) (u : BitVec 6) (l : BitVec 4) (p : Word) : (trapEnter c u l p s).segHs = s.segHs := rfl
@[simp] theorem trapEnter_resvValid (c : BitVec 8) (u : BitVec 6) (l : BitVec 4) (p : Word) : (trapEnter c u l p s).resvValid = false := rfl
@[simp] theorem trapEnter_resvAddr (c : BitVec 8) (u : BitVec 6) (l : BitVec 4) (p : Word) : (trapEnter c u l p s).resvAddr = s.resvAddr := rfl
@[simp] theorem trapEnter_resvPa (c : BitVec 8) (u : BitVec 6) (l : BitVec 4) (p : Word) : (trapEnter c u l p s).resvPa = s.resvPa := rfl
@[simp] theorem trapEnter_tlb (c : BitVec 8) (u : BitVec 6) (l : BitVec 4) (p : Word) : (trapEnter c u l p s).tlb = s.tlb := rfl
@[simp] theorem trapEnter_mapTab (c : BitVec 8) (u : BitVec 6) (l : BitVec 4) (p : Word) : (trapEnter c u l p s).mapTab = s.mapTab := rfl
@[simp] theorem trapEnter_tagEnable (c : BitVec 8) (u : BitVec 6) (l : BitVec 4) (p : Word) : (trapEnter c u l p s).tagEnable = s.tagEnable := rfl
@[simp] theorem trapEnter_dcacheEnabled (c : BitVec 8) (u : BitVec 6) (l : BitVec 4) (p : Word) : (trapEnter c u l p s).dcacheEnabled = s.dcacheEnabled := rfl
@[simp] theorem trapEnter_icacheStale (c : BitVec 8) (u : BitVec 6) (l : BitVec 4) (p : Word) : (trapEnter c u l p s).icacheStale = s.icacheStale := rfl
@[simp] theorem trapEnter_mem (c : BitVec 8) (u : BitVec 6) (l : BitVec 4) (p : Word) : (trapEnter c u l p s).mem = s.mem := rfl

/-! trapReturn -/

@[simp] theorem trapReturn_cfg : (trapReturn s).cfg = s.cfg := rfl
@[simp] theorem trapReturn_pc : (trapReturn s).pc = s.csr.epc.r0 := rfl
@[simp] theorem trapReturn_ilen : (trapReturn s).ilen = s.ilen := rfl
@[simp] theorem trapReturn_ir : (trapReturn s).ir = s.ir := rfl
@[simp] theorem trapReturn_event : (trapReturn s).event = s.event := rfl
@[simp] theorem trapReturn_pending : (trapReturn s).pending = s.pending := rfl
@[simp] theorem trapReturn_freeIdx : (trapReturn s).freeIdx = s.freeIdx := rfl
@[simp] theorem trapReturn_irqLevel : (trapReturn s).irqLevel = s.irqLevel := rfl
@[simp] theorem trapReturn_irqCause : (trapReturn s).irqCause = s.irqCause := rfl
@[simp] theorem trapReturn_resetPin : (trapReturn s).resetPin = s.resetPin := rfl
@[simp] theorem trapReturn_waitLow : (trapReturn s).waitLow = s.waitLow := rfl
@[simp] theorem trapReturn_waitRunning : (trapReturn s).waitRunning = s.waitRunning := rfl
@[simp] theorem trapReturn_xs : (trapReturn s).xs = s.xs := rfl
@[simp] theorem trapReturn_v : (trapReturn s).v = s.v := rfl
@[simp] theorem trapReturn_vm : (trapReturn s).vm = s.vm := rfl
@[simp] theorem trapReturn_vl : (trapReturn s).vl = s.vl := rfl
@[simp] theorem trapReturn_csr : (trapReturn s).csr = csrsOnReturn s.csr := rfl
@[simp] theorem trapReturn_ctr : (trapReturn s).ctr = s.ctr := rfl
@[simp] theorem trapReturn_vchain : (trapReturn s).vchain = s.vca := rfl
@[simp] theorem trapReturn_segZs : (trapReturn s).segZs = s.segZs := rfl
@[simp] theorem trapReturn_segEs : (trapReturn s).segEs = s.segEs := rfl
@[simp] theorem trapReturn_segHs : (trapReturn s).segHs = s.segHs := rfl
@[simp] theorem trapReturn_resvValid : (trapReturn s).resvValid = s.resvValid := rfl
@[simp] theorem trapReturn_resvAddr : (trapReturn s).resvAddr = s.resvAddr := rfl
@[simp] theorem trapReturn_resvPa : (trapReturn s).resvPa = s.resvPa := rfl
@[simp] theorem trapReturn_tlb : (trapReturn s).tlb = s.tlb := rfl
@[simp] theorem trapReturn_mapTab : (trapReturn s).mapTab = s.mapTab := rfl
@[simp] theorem trapReturn_tagEnable : (trapReturn s).tagEnable = s.tagEnable := rfl
@[simp] theorem trapReturn_dcacheEnabled : (trapReturn s).dcacheEnabled = s.dcacheEnabled := rfl
@[simp] theorem trapReturn_icacheStale : (trapReturn s).icacheStale = s.icacheStale := rfl
@[simp] theorem trapReturn_mem : (trapReturn s).mem = s.mem := rfl

/-! raise -/

@[simp] theorem raise_cfg (c : BitVec 8) : (raise c s).cfg = s.cfg := rfl
@[simp] theorem raise_pc (c : BitVec 8) : (raise c s).pc = vectorFor s.csr.tvec.r0 s.ol := rfl
@[simp] theorem raise_ilen (c : BitVec 8) : (raise c s).ilen = s.ilen := rfl
@[simp] theorem raise_ir (c : BitVec 8) : (raise c s).ir = s.ir := rfl
@[simp] theorem raise_event (c : BitVec 8) : (raise c s).event = .raised := rfl
@[simp] theorem raise_pending (c : BitVec 8) : (raise c s).pending = s.pending := rfl
@[simp] theorem raise_freeIdx (c : BitVec 8) : (raise c s).freeIdx = s.freeIdx := rfl
@[simp] theorem raise_irqLevel (c : BitVec 8) : (raise c s).irqLevel = s.irqLevel := rfl
@[simp] theorem raise_irqCause (c : BitVec 8) : (raise c s).irqCause = s.irqCause := rfl
@[simp] theorem raise_resetPin (c : BitVec 8) : (raise c s).resetPin = s.resetPin := rfl
@[simp] theorem raise_waitLow (c : BitVec 8) : (raise c s).waitLow = s.waitLow := rfl
@[simp] theorem raise_waitRunning (c : BitVec 8) : (raise c s).waitRunning = s.waitRunning := rfl
@[simp] theorem raise_xs (c : BitVec 8) : (raise c s).xs = s.xs := rfl
@[simp] theorem raise_v (c : BitVec 8) : (raise c s).v = s.v := rfl
@[simp] theorem raise_vm (c : BitVec 8) : (raise c s).vm = s.vm := rfl
@[simp] theorem raise_vl (c : BitVec 8) : (raise c s).vl = s.vl := rfl
@[simp] theorem raise_csr (c : BitVec 8) : (raise c s).csr = csrsOnTrap s.cfg.irqRsScale { s.csr with badInstr := s.ir } c 0 0 s.pc s.vchain s.debugMode := rfl
@[simp] theorem raise_ctr (c : BitVec 8) : (raise c s).ctr = s.ctr := rfl
@[simp] theorem raise_vchain (c : BitVec 8) : (raise c s).vchain = false := rfl
@[simp] theorem raise_segZs (c : BitVec 8) : (raise c s).segZs = s.segZs := rfl
@[simp] theorem raise_segEs (c : BitVec 8) : (raise c s).segEs = s.segEs := rfl
@[simp] theorem raise_segHs (c : BitVec 8) : (raise c s).segHs = s.segHs := rfl
@[simp] theorem raise_resvValid (c : BitVec 8) : (raise c s).resvValid = false := rfl
@[simp] theorem raise_resvAddr (c : BitVec 8) : (raise c s).resvAddr = s.resvAddr := rfl
@[simp] theorem raise_resvPa (c : BitVec 8) : (raise c s).resvPa = s.resvPa := rfl
@[simp] theorem raise_tlb (c : BitVec 8) : (raise c s).tlb = s.tlb := rfl
@[simp] theorem raise_mapTab (c : BitVec 8) : (raise c s).mapTab = s.mapTab := rfl
@[simp] theorem raise_tagEnable (c : BitVec 8) : (raise c s).tagEnable = s.tagEnable := rfl
@[simp] theorem raise_dcacheEnabled (c : BitVec 8) : (raise c s).dcacheEnabled = s.dcacheEnabled := rfl
@[simp] theorem raise_icacheStale (c : BitVec 8) : (raise c s).icacheStale = s.icacheStale := rfl
@[simp] theorem raise_mem (c : BitVec 8) : (raise c s).mem = s.mem := rfl

/-! load -/

@[simp] theorem load_cfg (n w : Nat) : (s.load n w).cfg = s.cfg := rfl
@[simp] theorem load_pc (n w : Nat) : (s.load n w).pc = s.pc := rfl
@[simp] theorem load_ilen (n w : Nat) : (s.load n w).ilen = n := rfl
@[simp] theorem load_ir (n w : Nat) : (s.load n w).ir = BitVec.ofNat 64 w := rfl
@[simp] theorem load_event (n w : Nat) : (s.load n w).event = .completed := rfl
@[simp] theorem load_pending (n w : Nat) : (s.load n w).pending = none := rfl
@[simp] theorem load_freeIdx (n w : Nat) : (s.load n w).freeIdx = s.freeIdx := rfl
@[simp] theorem load_irqLevel (n w : Nat) : (s.load n w).irqLevel = s.irqLevel := rfl
@[simp] theorem load_irqCause (n w : Nat) : (s.load n w).irqCause = s.irqCause := rfl
@[simp] theorem load_resetPin (n w : Nat) : (s.load n w).resetPin = s.resetPin := rfl
@[simp] theorem load_waitLow (n w : Nat) : (s.load n w).waitLow = s.waitLow := rfl
@[simp] theorem load_waitRunning (n w : Nat) : (s.load n w).waitRunning = s.waitRunning := rfl
@[simp] theorem load_xs (n w : Nat) : (s.load n w).xs = s.xs := rfl
@[simp] theorem load_v (n w : Nat) : (s.load n w).v = s.v := rfl
@[simp] theorem load_vm (n w : Nat) : (s.load n w).vm = s.vm := rfl
@[simp] theorem load_vl (n w : Nat) : (s.load n w).vl = s.vl := rfl
@[simp] theorem load_csr (n w : Nat) : (s.load n w).csr = s.csr := rfl
@[simp] theorem load_ctr (n w : Nat) : (s.load n w).ctr = s.ctr := rfl
@[simp] theorem load_vchain (n w : Nat) : (s.load n w).vchain = s.vchain := rfl
@[simp] theorem load_segZs (n w : Nat) : (s.load n w).segZs = s.segZs := rfl
@[simp] theorem load_segEs (n w : Nat) : (s.load n w).segEs = s.segEs := rfl
@[simp] theorem load_segHs (n w : Nat) : (s.load n w).segHs = s.segHs := rfl
@[simp] theorem load_resvValid (n w : Nat) : (s.load n w).resvValid = s.resvValid := rfl
@[simp] theorem load_resvAddr (n w : Nat) : (s.load n w).resvAddr = s.resvAddr := rfl
@[simp] theorem load_resvPa (n w : Nat) : (s.load n w).resvPa = s.resvPa := rfl
@[simp] theorem load_tlb (n w : Nat) : (s.load n w).tlb = s.tlb := rfl
@[simp] theorem load_mapTab (n w : Nat) : (s.load n w).mapTab = s.mapTab := rfl
@[simp] theorem load_tagEnable (n w : Nat) : (s.load n w).tagEnable = s.tagEnable := rfl
@[simp] theorem load_dcacheEnabled (n w : Nat) : (s.load n w).dcacheEnabled = s.dcacheEnabled := rfl
@[simp] theorem load_icacheStale (n w : Nat) : (s.load n w).icacheStale = s.icacheStale := rfl
@[simp] theorem load_mem (n w : Nat) : (s.load n w).mem = s.mem := rfl

/-! Writing what a part of a store already reads, and register 0 -/

@[simp] theorem reg_zero (q : BitVec 6) : s.reg q 0 = 0 := rfl

@[simp] theorem setReg_zero (q : BitVec 6) (w : Word) : s.setReg q 0 w = s := rfl

@[simp] theorem setX_zero (w : Word) : s.setX 0 w = s := rfl

@[simp] theorem setX_rs (r : RegNo) (w : Word) : (s.setX r w).rs = s.rs := by simp [State.rs]

@[simp] theorem setReg_rs (q : BitVec 6) (r : RegNo) (w : Word) : (s.setReg q r w).rs = s.rs := by simp [State.rs]

@[simp] theorem noteAec_rs (k : Nat) : (noteAec k s).rs = s.rs := rfl

end Sys2Proof.Machine
end

