-- ==== Sys2Proof/Laws/Store.lean ====
section
/-! SUPPORT. Stores: reading after writing, and the canonical form kept by a write. -/

namespace Sys2Proof.Machine

variable {α : Type} [DecidableEq α] (d : α)

/-- A key below every listed key reads the default. -/
theorem storeGet_of_lt (a : Nat) : ∀ m : Store α, (∀ p ∈ m, a < p.1) → storeGet d m a = d
  | [], _ => rfl
  | (k, w) :: t, h => by
    have hk : a < k := h (k, w) (by simp)
    rw [storeGet, if_neg (by omega)]
    exact storeGet_of_lt a t fun p hp => h p (by simp [hp])

/-- A write leaves every other key alone, whatever the form of the store. -/
theorem storeGet_storeSet_other (a b : Nat) (v : α) (h : b ≠ a) :
    ∀ m : Store α, storeGet d (storeSet d m a v) b = storeGet d m b
  | [] => by
    unfold storeSet
    split
    · rfl
    · simp [storeGet, Ne.symm h]
  | (k, w) :: t => by
    have ih := storeGet_storeSet_other a b v h t
    simp only [storeSet]
    split
    · split
      · rfl
      · simp [storeGet, Ne.symm h]
    · split
      · subst_vars
        split <;> simp [storeGet, Ne.symm h]
      · simp only [storeGet, ih]

/-- A written key reads the value written. -/
theorem storeGet_storeSet_same (a : Nat) (v : α) :
    ∀ m : Store α, StoreWf d m → storeGet d (storeSet d m a v) a = v
  | [], _ => by
    unfold storeSet
    split
    · simp_all [storeGet]
    · simp [storeGet]
  | (k, w) :: t, hm => by
    have hs := hm.1
    rw [List.pairwise_cons] at hs
    have ih := storeGet_storeSet_same a v t ⟨hs.2, fun p hp => hm.2 p (by simp [hp])⟩
    simp only [storeSet]
    split
    case isTrue hlt =>
      split
      · subst_vars
        refine storeGet_of_lt _ a ((k, w) :: t) ?_
        intro p hp
        rcases List.mem_cons.1 hp with rfl | hp
        · exact hlt
        · exact Nat.lt_trans hlt (hs.1 p hp)
      · simp [storeGet]
    case isFalse =>
      split
      · subst_vars
        split
        · subst_vars
          exact storeGet_of_lt _ k t hs.1
        · simp [storeGet]
      case isFalse hne => rw [storeGet, if_neg (Ne.symm hne), ih]

/-- The keys after a write are the key written and keys listed before. -/
theorem mem_storeSet (a : Nat) (v : α) : ∀ (m : Store α) (p : Nat × α),
    p ∈ storeSet d m a v → p ∈ m ∨ (p = (a, v) ∧ v ≠ d)
  | [], p, h => by
    unfold storeSet at h
    split at h <;> simp_all
  | (k, w) :: t, p, h => by
    have ih := mem_storeSet a v t p
    simp only [storeSet] at h
    split at h
    · split at h <;> simp_all <;> tauto
    · split at h
      · split at h <;> simp_all <;> tauto
      · rcases List.mem_cons.1 h with rfl | h
        · simp
        · rcases ih h with h | h
          · exact .inl (by simp [h])
          · exact .inr h

/-- A write keeps the canonical form. -/
theorem storeSet_wf (a : Nat) (v : α) : ∀ m : Store α, StoreWf d m → StoreWf d (storeSet d m a v)
  | [], _ => by
    unfold storeSet
    split
    · simp [StoreWf]
    · simp_all [StoreWf]
  | (k, w) :: t, hm => by
    have hs := hm.1
    rw [List.pairwise_cons] at hs
    have ht : StoreWf d t := ⟨hs.2, fun p hp => hm.2 p (by simp [hp])⟩
    have ih := storeSet_wf a v t ht
    simp only [storeSet]
    split
    case isTrue hlt =>
      split
      · exact hm
      case isFalse hv =>
        refine ⟨List.pairwise_cons.2 ⟨?_, hm.1⟩, ?_⟩
        · intro p hp
          rcases List.mem_cons.1 hp with rfl | hp
          · exact hlt
          · exact Nat.lt_trans hlt (hs.1 p hp)
        · intro p hp
          rcases List.mem_cons.1 hp with rfl | hp
          · exact hv
          · exact hm.2 p hp
    case isFalse hlt =>
      split
      case isTrue heq =>
        subst heq
        split
        · exact ht
        case isFalse hv =>
          refine ⟨List.pairwise_cons.2 ⟨hs.1, hs.2⟩, ?_⟩
          intro p hp
          rcases List.mem_cons.1 hp with rfl | hp
          · exact hv
          · exact ht.2 p hp
      case isFalse hne =>
        refine ⟨List.pairwise_cons.2 ⟨?_, ih.1⟩, ?_⟩
        · intro p hp
          rcases mem_storeSet d a v t p hp with hp | ⟨rfl, _⟩
          · exact hs.1 p hp
          · show k < a
            omega
        · intro p hp
          rcases List.mem_cons.1 hp with rfl | hp
          · exact hm.2 (k, w) (by simp)
          · exact ih.2 p hp

/-- The empty store is canonical. -/
theorem storeWf_nil : StoreWf d ([] : Store α) := by simp [StoreWf]

/-- Reading register k of eight after writing register j. -/
theorem bank8Get_set (b : Bank8) (j k : Nat) (w : Word) :
    bank8Get (bank8Set b j w) k = if k % 8 = j % 8 then w else bank8Get b k := by
  have hj : j % 8 < 8 := Nat.mod_lt _ (by omega)
  have hk : k % 8 < 8 := Nat.mod_lt _ (by omega)
  unfold bank8Get bank8Set
  generalize j % 8 = j at hj ⊢
  generalize k % 8 = k at hk ⊢
  interval_cases j <;> interval_cases k <;> rfl

/-- Reading register k of four after writing register j. -/
theorem bank4Get_set (b : Bank4) (j k : Nat) (w : Word) :
    bank4Get (bank4Set b j w) k = if k % 4 = j % 4 then w else bank4Get b k := by
  have hj : j % 4 < 4 := Nat.mod_lt _ (by omega)
  have hk : k % 4 < 4 := Nat.mod_lt _ (by omega)
  unfold bank4Get bank4Set
  generalize j % 4 = j at hj ⊢
  generalize k % 4 = k at hk ⊢
  interval_cases j <;> interval_cases k <;> rfl

end Sys2Proof.Machine
end

