-- ==== Sys2Proof/Laws/Ops.lean ====
section
/-! SUPPORT. What each shared operation can do, said once: the parts of an instruction, the register writes, translation,
and the memory operations, which keep memory's canonical form. -/

namespace Sys2Proof.Machine

/-! ## Parts -/

section parts

variable {α β : Type}

@[simp] theorem Res.ok_andThen (a : α) (s : State) (f : α → State → Res β) : (Res.ok a s).andThen f = f a s := rfl

@[simp] theorem Res.exc_andThen (c : BitVec 8) (s : State) (f : α → State → Res β) :
    (Res.exc c s : Res α).andThen f = .exc c s := rfl

/-- One part after another answers a value: both do. -/
theorem Res.andThen_eq_ok {m : Res α} {f : α → State → Res β} {b : β} {t : State} :
    m.andThen f = .ok b t ↔ ∃ a s1, m = .ok a s1 ∧ f a s1 = .ok b t := by
  cases m <;> simp [Res.andThen]

@[simp] theorem Res.finish_ok (s : State) : (Res.ok () s).finish = .next s := rfl

@[simp] theorem Res.finish_exc (c : BitVec 8) (s : State) : (Res.exc c s).finish = .next (raise c s) := rfl

@[simp] theorem Res.retire_ok (s : State) : (Res.ok () s).retire = .next s.advance := rfl

@[simp] theorem Res.retire_exc (c : BitVec 8) (s : State) : (Res.exc c s : Res Unit).retire = .next (raise c s) := rfl

@[simp] theorem Res.retireTo_ok (p : Word) (s : State) : (Res.ok p s).retireTo = .next (s.setPc p) := rfl

@[simp] theorem Res.retireTo_exc (c : BitVec 8) (s : State) : (Res.exc c s : Res Word).retireTo = .next (raise c s) :=
  rfl

/-- An instruction that goes on to the next one answers a next state: its parts do, or they raise. -/
theorem Res.retire_eq_next {m : Res Unit} {t : State} :
    m.retire = .next t ↔ (∃ s, m = .ok () s ∧ t = s.advance) ∨ ∃ c s, m = .exc c s ∧ t = raise c s := by
  cases m with
  | ok a s => simp [eq_comm, show (Res.ok a s).retire = .next s.advance from rfl]
  | exc c s => simp [eq_comm]

/-- The same for an instruction that goes to the address its parts give. -/
theorem Res.retireTo_eq_next {m : Res Word} {t : State} :
    m.retireTo = .next t ↔ (∃ p s, m = .ok p s ∧ t = s.setPc p) ∨ ∃ c s, m = .exc c s ∧ t = raise c s := by
  cases m <;> simp [eq_comm]

end parts

/-- A property that every next state of a part has, whether it answers or raises. -/
def Res.Keeps {α : Type} (P : State → Prop) (m : Res α) : Prop :=
  (∀ a t, m = .ok a t → P t) ∧ ∀ c t, m = .exc c t → P t

/-- One part after another keeps a property that both keep. -/
theorem Res.Keeps.andThen {α β : Type} {P : State → Prop} {m : Res α} {f : α → State → Res β}
    (hm : m.Keeps P) (hf : ∀ a t, P t → (f a t).Keeps P) : (m.andThen f).Keeps P := by
  cases m with
  | ok a s => exact hf a s (hm.1 a s rfl)
  | exc c s => exact ⟨fun _ _ h => by simp at h, fun _ _ h => by cases h; exact hm.2 c s rfl⟩

/-- A part that answers. -/
theorem Res.Keeps.of_ok {α : Type} {P : State → Prop} {a : α} {s : State} (h : P s) : (Res.ok a s).Keeps P :=
  ⟨fun _ _ e => by cases e; exact h, fun _ _ e => by simp at e⟩

/-- A part that raises. -/
theorem Res.Keeps.of_exc {α : Type} {P : State → Prop} {c : BitVec 8} {s : State} (h : P s) :
    (Res.exc c s : Res α).Keeps P :=
  ⟨fun _ _ e => by simp at e, fun _ _ e => by cases e; exact h⟩

/-! ## Registers -/

/-- A register write with the stack check answers: no fault, and the register is written. -/
theorem putReg_eq_ok {q : BitVec 6} {r : RegNo} {v : Word} {s t : State} {u : Unit} :
    putReg q r v s = .ok u t ↔ stackFault s q r v = false ∧ t = s.setReg q r v := by
  unfold putReg
  cases stackFault s q r v <;> simp [eq_comm]

/-- A register write with the stack check raises: a stack fault, and nothing is written. -/
theorem putReg_eq_exc {q : BitVec 6} {r : RegNo} {v : Word} {s t : State} {c : BitVec 8} :
    putReg q r v s = .exc c t ↔ stackFault s q r v = true ∧ c = causeSTK ∧ t = s := by
  unfold putReg
  cases stackFault s q r v <;> simp [eq_comm]

/-- The guard answers: no fault, and nothing changes. -/
theorem guardX_eq_ok {r : RegNo} {v : Word} {s t : State} {u : Unit} :
    guardX r v s = .ok u t ↔ stackFault s s.rs r v = false ∧ t = s := by
  unfold guardX
  cases stackFault s s.rs r v <;> simp [eq_comm]

/-- A general register reads what was written; any other reads what it read. -/
theorem reg_setReg (s : State) (q p : BitVec 6) (r k : RegNo) (v : Word) (h : StoreWf 0 s.xs) :
    (s.setReg q r v).reg p k = if k = 0 then 0 else if p = q ∧ k = r then v else s.reg p k := by
  unfold State.reg
  split
  · rfl
  case isFalse hk =>
    rw [setReg_xs]
    by_cases hr : r = 0
    · subst hr
      rw [if_pos rfl, if_neg fun h => hk h.2]
    · rw [if_neg hr]
      by_cases hpk : p = q ∧ k = r
      · obtain ⟨rfl, rfl⟩ := hpk
        rw [if_pos ⟨rfl, rfl⟩]
        exact storeGet_storeSet_same _ _ _ _ h
      · rw [if_neg hpk, storeGet_storeSet_other]
        intro he
        apply hpk
        have h1 := k.isLt
        have h2 := r.isLt
        simp only [regKey] at he
        exact ⟨BitVec.eq_of_toNat_eq (by omega), BitVec.eq_of_toNat_eq (by omega)⟩

/-- A vector element reads what was written; any other reads what it read. -/
theorem vec_setVec (s : State) (r k : RegNo) (e i : Nat) (v : Word) (h : StoreWf 0 s.v) (he : e < 64) (hi : i < 64) :
    (s.setVec r e v).vec k i = if k = r ∧ i = e then v else s.vec k i := by
  unfold State.vec
  rw [setVec_v]
  by_cases hk : k = r ∧ i = e
  · obtain ⟨rfl, rfl⟩ := hk
    rw [if_pos ⟨rfl, rfl⟩]
    exact storeGet_storeSet_same _ _ _ _ h
  · rw [if_neg hk, storeGet_storeSet_other]
    intro hh
    apply hk
    refine ⟨BitVec.eq_of_toNat_eq (by omega), by omega⟩

/-! ## Translation and data accesses -/

/-! Entries and reference counts of the TLB are apart. -/

section tlb

variable (t : TlbState) (n k : Nat) (c : BitVec 32) (e : TlbEntry)

@[simp] theorem tlbGet_tlbSetCount : tlbGet (tlbSetCount t n c) k = tlbGet t k := rfl
@[simp] theorem tlbCount_tlbSet : tlbCount (tlbSet t n e) k = tlbCount t k := rfl
@[simp] theorem tlbSet_refcnts : (tlbSet t n e).refcnts = t.refcnts := rfl
@[simp] theorem tlbSetCount_entries : (tlbSetCount t n c).entries = t.entries := rfl
@[simp] theorem tlbAge_entries (m : Nat) : (tlbAge m n t).entries = t.entries := rfl
@[simp] theorem tlbAge_enabled (m : Nat) : (tlbAge m n t).enabled = t.enabled := rfl

/-- A count that was written reads back. -/
theorem tlbCount_tlbSetCount (h : StoreWf 0 t.refcnts) : tlbCount (tlbSetCount t n c) n = c :=
  storeGet_storeSet_same _ _ _ _ h

end tlb

/-- Translation changes the TLB alone, whether it answers or raises. -/
theorem translateKind_keeps (a : Word) (k : AccessKind) (s : State) :
    (translateKind a k s).Keeps fun t => ∃ tl, t = { s with tlb := tl } := by
  have h0 : ∃ tl, s = { s with tlb := tl } := ⟨s.tlb, rfl⟩
  unfold translateKind
  split
  · exact .of_ok h0
  · unfold translateTlb
    split
    · exact .of_ok h0
    · split
      · refine .of_exc ?_
        unfold tlbMiss
        split
        · exact ⟨_, rfl⟩
        · exact h0
      · dsimp only
        split
        · exact .of_ok ⟨_, rfl⟩
        · exact .of_exc ⟨_, rfl⟩
  · unfold translateSimple
    dsimp only
    repeat' split
    all_goals first | exact .of_ok h0 | exact .of_exc h0

/-- Translation to a physical address changes the TLB alone. -/
theorem translate_keeps (a : Word) (k : AccessKind) (s : State) :
    (translate a k s).Keeps fun t => ∃ tl, t = { s with tlb := tl } :=
  (translateKind_keeps a k s).andThen fun _ _ h => .of_ok h

/-- An access to a device takes a draw; no other access changes anything. -/
theorem atBus_frame (n pa : Nat) (s : State) : ∃ i, atBus n pa s = { s with freeIdx := i } := by
  unfold atBus
  split
  · exact ⟨_, rfl⟩
  · exact ⟨s.freeIdx, rfl⟩

/-- Where no device answers, the access is made in the state as it is. -/
theorem atBus_memory {n pa : Nat} {s : State} (h : anyDevice s.cfg n pa = false) : atBus n pa s = s := by
  simp [atBus, h]

/-- The checks of a data access answer: the address is aligned, something acknowledges every byte, and only the TLB and
the index of the free values may have changed. -/
theorem dataAccess_eq_ok {ea : Word} {n : Nat} {k : AccessKind} {s t : State} {pa : Nat}
    (h : dataAccess ea n k s = .ok pa t) :
    ea.toNat % n = 0 ∧ busAllOk s.cfg k n pa = true ∧
      (∃ u, translate ea k s = .ok pa u ∧ t = atBus n pa u) ∧ ∃ tl i, t = { s with tlb := tl, freeIdx := i } := by
  unfold dataAccess at h
  split at h
  · simp at h
  case isFalse ha =>
    unfold debugMatch at h
    split at h
    · simp at h
    · rw [Res.ok_andThen] at h
      split at h
      · simp at h
      case h_2 p u ht =>
        split at h <;> simp at h
        case isTrue hb =>
          obtain ⟨rfl, rfl⟩ := h
          obtain ⟨tl, rfl⟩ := (translate_keeps ea k s).1 _ _ ht
          obtain ⟨i, hi⟩ := atBus_frame n p { s with tlb := tl }
          exact ⟨by simpa using ha, hb, ⟨_, ht, rfl⟩, tl, i, hi⟩

/-- A translation by no unit is the identity, cut to the physical address width. -/
theorem translate_none (a : Word) (k : AccessKind) (s : State) (h : s.cfg.mmuKind = .none) :
    translate a k s = .ok (a.toNat % 2 ^ s.cfg.paBits) s := by
  simp [translate, translateKind, h]

/-! ## Memory -/

/-- A byte stored to memory: what changes. -/
theorem setMemByte_frame (s : State) (pa : Nat) (b : Byte) :
    ∃ st, setMemByte s pa b = { s with mem := storeSet 0 s.mem pa b, icacheStale := st } ∧
      (StoreWf none s.icacheStale → StoreWf none st) := by
  unfold setMemByte
  dsimp only
  split
  · exact ⟨s.icacheStale, rfl, id⟩
  · split
    · exact ⟨_, rfl, storeSet_wf _ _ _ _⟩
    · exact ⟨s.icacheStale, rfl, id⟩

/-- A byte stored through the bus: memory and the map tables alone may change, and they keep their form. -/
theorem setBusByte_frame (s : State) (pa : Nat) (b : Byte) :
    ∃ m mt st, setBusByte s pa b = { s with mem := m, mapTab := mt, icacheStale := st } ∧
      (Memory.wf s.mem → Memory.wf m) ∧ (StoreWf 0 s.mapTab → StoreWf 0 mt) ∧
      (StoreWf none s.icacheStale → StoreWf none st) := by
  unfold setBusByte
  split
  · exact ⟨s.mem, _, s.icacheStale, rfl, id, storeSet_wf _ _ _ _, id⟩
  split
  · exact ⟨s.mem, s.mapTab, s.icacheStale, rfl, id, id, id⟩
  · obtain ⟨st, h, hs⟩ := setMemByte_frame s pa b
    exact ⟨_, s.mapTab, st, h, storeSet_wf _ _ _ _, id, hs⟩

/-- Bytes stored through the bus: memory and the map tables alone may change, and they keep their form. -/
theorem busWrite_frame : ∀ (n pa v : Nat) (s : State),
    ∃ m mt st, busWrite s n pa v = { s with mem := m, mapTab := mt, icacheStale := st } ∧
      (Memory.wf s.mem → Memory.wf m) ∧ (StoreWf 0 s.mapTab → StoreWf 0 mt) ∧
      (StoreWf none s.icacheStale → StoreWf none st)
  | 0, _, _, s => ⟨s.mem, s.mapTab, s.icacheStale, rfl, id, id, id⟩
  | n + 1, pa, v, s => by
    obtain ⟨m, mt, st, h, h1, h2, h3⟩ := setBusByte_frame s (pa % 2 ^ s.cfg.paBits) (BitVec.ofNat 8 v)
    obtain ⟨m', mt', st', h', h1', h2', h3'⟩ := busWrite_frame n (pa + 1) (v / 256)
      { s with mem := m, mapTab := mt, icacheStale := st }
    refine ⟨m', mt', st', ?_, h1' ∘ h1, h2' ∘ h2, h3' ∘ h3⟩
    rw [busWrite, h, h']

/-- A byte stored through the bus: the byte of memory at any other address reads as before. -/
theorem memByte_setBusByte_other {s : State} {pa a : Nat} (b : Byte) (h : a ≠ pa) :
    memByte (setBusByte s pa b) a = memByte s a := by
  unfold setBusByte
  split
  · rfl
  split
  · rfl
  · obtain ⟨st, hs, -⟩ := setMemByte_frame s pa b
    rw [hs]
    exact storeGet_storeSet_other _ _ _ _ h _

/-- Bytes stored through the bus: every other byte of memory reads as before. -/
theorem memByte_busWrite_other (a : Nat) : ∀ (n pa v : Nat) (s : State),
    (∀ k < n, a ≠ (pa + k) % 2 ^ s.cfg.paBits) → memByte (busWrite s n pa v) a = memByte s a
  | 0, _, _, _, _ => rfl
  | n + 1, pa, v, s, h => by
    have hc : (setBusByte s (pa % 2 ^ s.cfg.paBits) (BitVec.ofNat 8 v)).cfg = s.cfg := by
      obtain ⟨m, mt, st, hs, -⟩ := setBusByte_frame s (pa % 2 ^ s.cfg.paBits) (BitVec.ofNat 8 v)
      rw [hs]
    rw [busWrite, memByte_busWrite_other a n, memByte_setBusByte_other _ (show a ≠ pa % _ from h 0 (by omega))]
    intro k hk
    rw [hc, show pa + 1 + k = pa + (k + 1) by omega]
    exact h (k + 1) (by omega)

/-- A committed store: memory, the map tables and the reservation alone may change, and they keep their form. -/
theorem memCommit_frame (n pa v : Nat) (s : State) :
    ∃ m mt st rv, memCommit n pa v s = { s with mem := m, mapTab := mt, icacheStale := st, resvValid := rv } ∧
      (Memory.wf s.mem → Memory.wf m) ∧ (StoreWf 0 s.mapTab → StoreWf 0 mt) ∧
      (StoreWf none s.icacheStale → StoreWf none st) := by
  obtain ⟨m, mt, st, h, h1, h2, h3⟩ := busWrite_frame n pa v s
  unfold memCommit
  dsimp only
  split
  · exact ⟨m, mt, st, false, by rw [h], h1, h2, h3⟩
  · exact ⟨m, mt, st, s.resvValid, by rw [h], h1, h2, h3⟩

/-- A write of memory keeps memory's canonical form. -/
theorem memWrite_wf {ea : Word} {n v : Nat} {s t : State} {u : Unit} (h : memWrite ea n v s = .ok u t)
    (hm : Memory.wf s.mem) : Memory.wf t.mem := by
  unfold memWrite at h
  obtain ⟨pa, s1, h1, h2⟩ := Res.andThen_eq_ok.1 h
  obtain ⟨-, -, -, tl, i, rfl⟩ := dataAccess_eq_ok h1
  obtain ⟨m, mt, st, rv, hc, hw, -, -⟩ := memCommit_frame n pa v { s with tlb := tl, freeIdx := i }
  rw [hc] at h2
  cases h2
  exact hw hm

/-- A read of memory changes the TLB and the index of the free values alone, so it keeps memory. -/
theorem memRead_eq_ok {ea : Word} {n v : Nat} {s t : State} (h : memRead ea n s = .ok v t) :
    ∃ pa, dataAccess ea n .read s = .ok pa t ∧ v = busRead t n pa ∧ t.mem = s.mem := by
  unfold memRead at h
  obtain ⟨pa, s1, h1, h2⟩ := Res.andThen_eq_ok.1 h
  cases h2
  obtain ⟨-, -, -, tl, i, rfl⟩ := dataAccess_eq_ok h1
  exact ⟨pa, h1, rfl, rfl⟩

/-- Placing a word keeps memory's canonical form. -/
theorem placeWord_wf : ∀ (n pa w : Nat) (s : State), Memory.wf s.mem → Memory.wf (placeWord s n pa w).mem
  | 0, _, _, _, h => h
  | n + 1, pa, w, s, h => placeWord_wf n (pa + 1) (w / 256)
      { s with mem := storeSet 0 s.mem (pa % 2 ^ s.cfg.paBits) (BitVec.ofNat 8 w) } (storeSet_wf _ _ _ _ h)

/-- Reset's memory is canonical. -/
theorem reset_mem_wf : Memory.wf State.reset.mem := storeWf_nil 0

/-! ## What moves by itself, and the Reset event -/

/-- TICK never falls (10_state R45). -/
theorem tickAfter_le (t : Word) (n : Nat) : t ≤ tickAfter t n := by
  have h := t.isLt
  rw [BitVec.le_def, tickAfter, BitVec.toNat_ofNat, Nat.mod_eq_of_lt (by omega)]
  omega

/-- The aging counter after an underflow: the cycles are made up of whole periods of AFC + 1 (20_memory R168). -/
theorem agingAfter_underflow (afc aging : BitVec 24) (n : Nat) (h : aging.toNat < n) :
    (agingAfter afc aging n).toNat ≤ afc.toNat ∧
      ∃ k, 0 < k ∧ (agingAfter afc aging n).toNat + n = aging.toNat + k * (afc.toNat + 1) := by
  have ha := afc.isLt
  have hm := Nat.mod_lt (n - aging.toNat - 1) (show 0 < afc.toNat + 1 by omega)
  have hd := Nat.div_add_mod (n - aging.toNat - 1) (afc.toNat + 1)
  rw [agingAfter, if_neg (by omega), BitVec.toNat_ofNat, Nat.mod_eq_of_lt (by omega)]
  refine ⟨by omega, (n - aging.toNat - 1) / (afc.toNat + 1) + 1, Nat.succ_pos _, ?_⟩
  rw [Nat.add_mul, Nat.one_mul, Nat.mul_comm _ (afc.toNat + 1)]
  omega

/-- The reference counts after an aging cycle are in canonical form. -/
theorem agedCounts_wf (draw : Nat) : StoreWf 0 (agedCounts draw) := by
  refine ⟨?_, fun p hp => ?_⟩
  · refine List.Pairwise.filter _ (List.pairwise_map.2 ?_)
    exact List.pairwise_lt_range
  · simpa using (List.mem_filter.1 hp).2

/-- Aging keeps the canonical form of the reference counts. -/
theorem tlbAge_refcnts_wf (n draw : Nat) (t : TlbState) (h : StoreWf 0 t.refcnts) :
    StoreWf 0 (tlbAge n draw t).refcnts := by
  unfold tlbAge
  dsimp only
  split
  · exact h
  · exact agedCounts_wf draw

/-- What moves by itself after a step: the counters but IRQ_CTR, the random TLB way, the aging of the TLB, what WAIT waits
for, and the index of the free values. -/
theorem envTick_frame (s : State) :
    ∃ ct rd ag rc wl wr,
      envTick s = { s with
        ctr := ct, tlb := { s.tlb with random := rd, aging := ag, refcnts := rc }, waitLow := wl, waitRunning := wr,
        freeIdx := s.freeIdx + 1 } ∧
      s.ctr.tick ≤ ct.tick ∧ ct.irqCtr = s.ctr.irqCtr ∧ ct.instret = s.ctr.instret ∧
      (StoreWf 0 s.tlb.refcnts → StoreWf 0 rc) :=
  ⟨_, _, _, _, _, _, rfl, tickAfter_le _ _, rfl, rfl, tlbAge_refcnts_wf _ _ _⟩

/-- The Reset event leaves memory, the parameters and TIME (70_reset_and_hazards R1020, R1021). -/
@[simp] theorem resetEvent_mem (s : State) : (resetEvent s).mem = s.mem := rfl
@[simp] theorem resetEvent_cfg (s : State) : (resetEvent s).cfg = s.cfg := rfl
@[simp] theorem resetEvent_tmClk (s : State) : (resetEvent s).ctr.tmClk = s.ctr.tmClk := rfl

/-- Reset is the Reset event of itself. -/
theorem resetEvent_reset : resetEvent State.reset = State.reset := rfl

/-! ## The element loop -/

/-- The element loop keeps a property that the element operation keeps. -/
theorem vecLoop_keeps {P : State → Prop} (m : Word) (f : Nat → State → Res Unit) (hf : ∀ e t, P t → (f e t).Keeps P) :
    ∀ (n e : Nat) (s : State), P s → (vecLoop m f n e s).Keeps P
  | 0, _, _, h => .of_ok h
  | n + 1, e, s, h => by
    unfold vecLoop
    refine Res.Keeps.andThen ?_ fun _ t ht => vecLoop_keeps m f hf n (e + 1) t ht
    split
    · exact hf e s h
    · exact .of_ok h

end Sys2Proof.Machine
end

