-- ==== Sys2Proof/Tests/Slice0.lean ====
section
/-! SUPPORT. Tests: words of each family written out from the spec's encoding, ill-formed terms refused, one step of the
spec's own example vectors (95_test_vectors), and for each obligation with hypotheses a state that meets them. -/

-- Elaborating many kernel checks at once would start more threads than the memory limit allows.
set_option Elab.async false

namespace Sys2Proof.Tests

open Sys2Proof Sys2Proof.Machine

/-! ## Helpers -/

/-- The machine after reset, at address 0x1000. -/
def s0 : State := { State.reset with pc := 0x1000 }
def X (r : RegNo) (v : Word) (s : State) : State := s.setReg 0 r v
def AEC (v : Word) (s : State) : State := { s with csr := { s.csr with aec := v } }
def PC (v : Word) (s : State) : State := { s with pc := v }
def FST (v : Word) (s : State) : State := { s with csr := { s.csr with fstat := v } }
/-- A register of set 1, which is made the floating-point set. -/
def FX (r : RegNo) (v : Word) (s : State) : State := (if s.csr.fstat = 0 then FST 0x100000000 s else s).setReg 1 r v
def MEM (n a v : Nat) (s : State) : State := placeWord s n a v
def VV (r : RegNo) (l : List Word) (s : State) : State := (l.zipIdx).foldl (fun s p => s.setVec r p.2 p.1) s
def VR (s : State) (r : RegNo) (n : Nat) : List Word := (List.range n).map fun e => s.vec r e
def SETST (v : Word) (s : State) : State := s.withStatus v
def CFG (f : Config → Config) (s : State) : State := { s with cfg := f s.cfg }
/-- TVEC[0] as in the spec's examples. -/
def TV (s : State) : State := { s with csr := { s.csr with tvec := { s.csr.tvec with r0 := 0xFFFFFFFFFFFC0000 } } }
/-- Stack bounds that no value but 0 meets. -/
def sB : State := CFG (fun c => { c with stackBounds := some (0, 0) }) s0

/-- Whether an outcome is a next state that passes a check. -/
def passed (o : Outcome) (chk : State → Bool) : Bool :=
  match o with
  | .next t => chk t
  | _ => false

/-- One step of a prepared state with a word where it fetches gives a next state that passes a check. -/
noncomputable def T (nbits w : Nat) (pre : List (State → State)) (chk : State → Bool) : Bool :=
  passed (step ((pre.foldl (fun s f => f s) s0).withFetchWord nbits w)) chk

/-- Whether an outcome is a next state. -/
def goesOn (o : Outcome) : Bool :=
  match o with
  | .next _ => true
  | _ => false

/-! ## Decoding: words written out from the encodings of 30_encoding, printed in 95_test_vectors -/

/-- R224 -/
theorem test_decode_ri32 : (0x3FFF#14 ++ 1#5 ++ 2#5 ++ 0#2 ++ 0x04#6 : BitVec 32) = 0xFFFC2204#32 ∧
    decodeTableWord 32 0xFFFC2204 = some (.addi 1 2 (.short (-1))) := by decide +kernel
/-- R224 -/
theorem test_decode_ri48 : (0x12345678#30 ++ 1#5 ++ 2#5 ++ 1#2 ++ 0x04#6 : BitVec 48) = 0x48D159E02244#48 ∧
    decodeTableWord 48 0x48D159E02244 = some (.addi 1 2 (.long 0x12345678)) := by decide +kernel
/-- R225 -/
theorem test_decode_lui : (0x2000#14 ++ 1#5 ++ 0#5 ++ 0#2 ++ 0x27#6 : BitVec 32) = 0x80002027#32 ∧
    decodeTableWord 32 0x80002027 = some (.lui 1 (.short 0x40000)) := by decide +kernel
/-- R264 -/
theorem test_decode_ldi : (0x1234#14 ++ 1#5 ++ 0#5 ++ 0#2 ++ 0x09#6 : BitVec 32) = 0x48D02009#32 ∧
    decodeTableWord 32 0x48D02009 = some (.ldi 1 (.short 0x1234)) := by decide +kernel
/-- R227 -/
theorem test_decode_rr32 : (0x04#6 ++ 7#3 ++ 2#5 ++ 3#5 ++ 1#5 ++ 0#2 ++ 0x02#6 : BitVec 32) = 0x13886102#32 ∧
    decodeTableWord 32 0x13886102 = some (.add 3 1 2 7) := by decide +kernel
/-- R227 -/
theorem test_decode_mul : (0x3A#6 ++ 7#3 ++ 2#5 ++ 3#5 ++ 1#5 ++ 0#2 ++ 0x02#6 : BitVec 32) = 0xEB886102#32 ∧
    decodeTableWord 32 0xEB886102 = some (.mul 3 1 2 7) := by decide +kernel
/-- R254 -/
theorem test_decode_bcd : (0x00#6 ++ 2#3 ++ 2#5 ++ 3#5 ++ 1#5 ++ 0#2 ++ 0x02#6 : BitVec 32) = 0x01086102#32 ∧
    decodeTableWord 32 0x01086102 = some (.bcdmul 3 1 2) := by decide +kernel
/-- R228 -/
theorem test_decode_rr48 : (0x04#6 ++ 0#13 ++ 0#1 ++ 3#5 ++ 2#5 ++ 4#5 ++ 1#5 ++ 1#2 ++ 0x02#6 : BitVec 48) = 0x100001888142#48 ∧
    decodeTableWord 48 0x100001888142 = some (.add3 4 1 2 3) := by decide +kernel
/-- R228, R251 -/
theorem test_decode_double : (0x0A#6 ++ 0x04#6 ++ 0#5 ++ 7#3 ++ 3#5 ++ 2#5 ++ 4#5 ++ 1#5 ++ 1#2 ++ 0x02#6 : BitVec 48) = 0x284071888142#48 ∧
    decodeTableWord 48 0x284071888142 = some (.xorOp 4 7 4 1 2 3) := by decide +kernel
/-- R245 -/
theorem test_decode_r1 : (0x01#6 ++ 3#3 ++ 0#5 ++ 2#5 ++ 1#5 ++ 0#2 ++ 0x02#6 : BitVec 32) = 0x05804102#32 ∧
    decodeTableWord 32 0x05804102 = some (.cntlz 2 1 3) := by decide +kernel
/-- R245 -/
theorem test_decode_exec : (0x01#6 ++ 0#3 ++ 0x13#5 ++ 0#5 ++ 5#5 ++ 0#2 ++ 0x02#6 : BitVec 32) = 0x044C0502#32 ∧
    decodeTableWord 32 0x044C0502 = some (.execBuf 5) := by decide +kernel
/-- R230 -/
theorem test_decode_shift_imm : (0x1F#6 ++ 0#3 ++ 4#5 ++ 3#5 ++ 1#5 ++ 0#2 ++ 0x02#6 : BitVec 32) = 0x7C106102#32 ∧
    decodeTableWord 32 0x7C106102 = some (.shlImm 3 1 36) := by decide +kernel
/-- R230 -/
theorem test_decode_shift_op : (0x2F#6 ++ 0x04#6 ++ 0#3 ++ 3#3 ++ 1#1 ++ 0#1 ++ 3#5 ++ 3#5 ++ 4#5 ++ 1#5 ++ 1#2 ++ 0x02#6 : BitVec 48) = 0xBC40E18C8142#48 ∧
    decodeTableWord 48 0xBC40E18C8142 = some (.shlOp 4 3 (.imm 3) 4 1 3) := by decide +kernel
/-- R231 -/
theorem test_decode_bitfield : (5#4 ++ 0#11 ++ 4#3 ++ 0#1 ++ 0#1 ++ 2#5 ++ 1#5 ++ 8#5 ++ 8#5 ++ 1#2 ++ 0x22#6 : BitVec 48) = 0x500101050862#48 ∧
    decodeTableWord 48 0x500101050862 = some (.bfext 2 4 1 8 8) := by decide +kernel
/-- R256 -/
theorem test_decode_load : (0x14#14 ++ 1#5 ++ 2#5 ++ 0#2 ++ 0x20#6 : BitVec 32) = 0x00502220#32 ∧
    decodeTableWord 32 0x00502220 = some (.lw 1 2 (.short 16)) := by decide +kernel
/-- R226, R256 -/
theorem test_decode_store : (0#9 ++ 3#5 ++ 0x14#5 ++ 2#5 ++ 0#2 ++ 0x24#6 : BitVec 32) = 0x000E8224#32 ∧
    decodeTableWord 32 0x000E8224 = some (.sw 3 2 (.short 16)) := by decide +kernel
/-- R247 -/
theorem test_decode_indexed : (4#4 ++ 4#5 ++ 2#2 ++ 0#1 ++ 3#2 ++ 1#5 ++ 2#5 ++ 0#2 ++ 0x16#6 : BitVec 32) = 0x424C2216#32 ∧
    decodeTableWord 32 0x424C2216 = some (.lwx 1 2 4 3) := by decide +kernel
/-- R247 -/
theorem test_decode_push : (0xC#4 ++ 0#5 ++ 3#5 ++ 31#5 ++ 31#5 ++ 0#2 ++ 0x16#6 : BitVec 32) = 0xC00FFF16#32 ∧
    decodeTableWord 32 0xC00FFF16 = some (.push 3 31 31) := by decide +kernel
/-- R545 -/
theorem test_decode_cas : (8#14 ++ 3#5 ++ 2#5 ++ 0#2 ++ 0x25#6 : BitVec 32) = 0x00206225#32 ∧
    decodeTableWord 32 0x00206225 = some (.cas 3 2 8) := by decide +kernel
/-- R253 -/
theorem test_decode_amo : (1#4 ++ 0#1 ++ 0#1 ++ 3#3 ++ 4#5 ++ 3#5 ++ 2#5 ++ 0#2 ++ 0x2F#6 : BitVec 32) = 0x1190622F#32 ∧
    decodeTableWord 32 0x1190622F = some (.amoAdd 3 2 4 3 false false) := by decide +kernel
/-- R255 -/
theorem test_decode_branch : (2#9 ++ 2#5 ++ 0#2 ++ 0#3 ++ 1#5 ++ 0#2 ++ 0x30#6 : BitVec 32) = 0x01080130#32 ∧
    decodeTableWord 32 0x01080130 = some (.beq 1 2 8) := by decide +kernel
/-- R595 -/
theorem test_decode_branch_bit : (2#9 ++ 31#5 ++ 0#2 ++ 1#1 ++ 0#2 ++ 1#5 ++ 0#2 ++ 0x26#6 : BitVec 32) = 0x017C8126#32 ∧
    decodeTableWord 32 0x017C8126 = some (.bbs 1 63 8) := by decide +kernel
/-- R596 -/
theorem test_decode_branch_imm : (0x1FF#9 ++ 0x10#5 ++ 3#2 ++ 0#3 ++ 1#5 ++ 0#2 ++ 0x32#6 : BitVec 32) = 0xFFC30132#32 ∧
    decodeTableWord 32 0xFFC30132 = some (.beqi 1 0x80 (-1)) := by decide +kernel
/-- R236 -/
theorem test_decode_jump : (0x123456#24 ++ 0#2 ++ 0x28#6 : BitVec 32) = 0x12345628#32 ∧
    decodeTableWord 32 0x12345628 = some (.jmp (.near 0x123456)) := by decide +kernel
/-- R236 -/
theorem test_decode_jal : (8#14 ++ 29#5 ++ 5#5 ++ 0#2 ++ 0x18#6 : BitVec 32) = 0x0023A518#32 ∧
    decodeTableWord 32 0x0023A518 = some (.jal 29 5 (.near 8)) := by decide +kernel
/-- R593 -/
theorem test_decode_ret : (4#9 ++ 29#5 ++ 31#5 ++ 31#5 ++ 0#2 ++ 0x29#6 : BitVec 32) = 0x0277FF29#32 ∧
    decodeTableWord 32 0x0277FF29 = some (.ret 29 31 31 4) := by decide +kernel
/-- R337 -/
theorem test_decode_chk : (100#14 ++ 2#5 ++ 1#5 ++ 0#2 ++ 0x34#6 : BitVec 32) = 0x01904134#32 ∧
    decodeTableWord 32 0x01904134 = some (.chki 1 2 100) := by decide +kernel
/-- R640 -/
theorem test_decode_csr : (1#2 ++ 0#2 ++ 0x30#10 ++ 0#5 ++ 5#5 ++ 0#2 ++ 0x05#6 : BitVec 32) = 0x40C00505#32 ∧
    decodeTableWord 32 0x40C00505 = some (.csrrw 0 0x030 0 5) := by decide +kernel
/-- R631 -/
theorem test_decode_brk : (0#6 ++ 2#5 ++ 0#4 ++ 0#1 ++ 0xF0#8 ++ 0#2 ++ 0x00#6 : BitVec 32) = 0x0040F000#32 ∧
    decodeTableWord 32 0x0040F000 = some (.brk 0 2 0 240 false) := by decide +kernel
/-- R634 -/
theorem test_decode_sei : (0x30#6 ++ 0#4 ++ 7#4 ++ 1#5 ++ 0#5 ++ 0#2 ++ 0x02#6 : BitVec 32) = 0xC01C2002#32 ∧
    decodeTableWord 32 0xC01C2002 = some (.sei 1 0 7) := by decide +kernel
/-- R655 -/
theorem test_decode_rti : (0x32#6 ++ 0#8 ++ 0#5 ++ 0#5 ++ 0#2 ++ 0x02#6 : BitVec 32) = 0xC8000002#32 ∧
    decodeTableWord 32 0xC8000002 = some (.rti 0 0) := by decide +kernel
/-- R650 -/
theorem test_decode_rex : (0#6 ++ 2#8 ++ 0#2 ++ 2#3 ++ 0#5 ++ 0#2 ++ 0x0D#6 : BitVec 32) = 0x0008400D#32 ∧
    decodeTableWord 32 0x0008400D = some (.rex 0 2 2 0) := by decide +kernel
/-- R660 -/
theorem test_decode_tlb : (0x3F#6 ++ 5#4 ++ 0#4 ++ 0#5 ++ 0#5 ++ 0#2 ++ 0x02#6 : BitVec 32) = 0xFD400002#32 ∧
    decodeTableWord 32 0xFD400002 = some (.tlb 5 0 0 0) := by decide +kernel
/-- R249 -/
theorem test_decode_float : (0x04#6 ++ 7#3 ++ 2#5 ++ 3#5 ++ 1#5 ++ 0#2 ++ 0x0F#6 : BitVec 32) = 0x1388610F#32 ∧
    decodeTableWord 32 0x1388610F = some (.fadd 3 1 2 (.short 7)) := by decide +kernel
/-- R250 -/
theorem test_decode_vector : (0x04#6 ++ 1#3 ++ 3#5 ++ 2#5 ++ 1#5 ++ 0#2 ++ 0x31#6 : BitVec 32) = 0x108C4131#32 ∧
    decodeTableWord 32 0x108C4131 = some (.vadd false .short 1 2 1 3) := by decide +kernel
/-- R250 -/
theorem test_decode_vector_cmp : (0x06#6 ++ 0#3 ++ 3#5 ++ 2#2 ++ 2#3 ++ 1#5 ++ 0#2 ++ 0x31#6 : BitVec 32) = 0x180E4131#32 ∧
    decodeTableWord 32 0x180E4131 = some (.vsxx false .short 0 2 2 1 3) := by decide +kernel
/-- R250 -/
theorem test_decode_mask : (0x30#6 ++ 0#3 ++ 2#5 ++ 3#5 ++ 1#5 ++ 0#2 ++ 0x31#6 : BitVec 32) = 0xC0086131#32 ∧
    decodeTableWord 32 0xC0086131 = some (.vmand false 3 1 2) := by decide +kernel
/-- R900 -/
theorem test_decode_vmov : (0x33#6 ++ 0#8 ++ 15#5 ++ 1#5 ++ 0#2 ++ 0x02#6 : BitVec 32) = 0xCC01E102#32 ∧
    decodeTableWord 32 0xCC01E102 = some (.vmovTo 15 1) := by decide +kernel
/-- R242 -/
theorem test_decode_c_addi : (0#4 ++ 0xF#4 ++ 2#2 ++ 1#1 ++ 5#5 : BitVec 16) = 0x0FA5#16 ∧
    decodeTableWord 16 0x0FA5 = some (.addi16 5 (-1)) := by decide +kernel
/-- R242 -/
theorem test_decode_c_sub : (4#4 ++ 0#2 ++ 2#2 ++ 2#2 ++ 1#1 ++ 3#2 ++ 2#3 : BitVec 16) = 0x42BA#16 ∧
    decodeTableWord 16 0x42BA = some (.sub16 2 5) := by decide +kernel
/-- R242 -/
theorem test_decode_c_lw : (5#4 ++ 1#4 ++ 3#2 ++ 0#1 ++ 3#5 : BitVec 16) = 0x51C3#16 ∧
    decodeTableWord 16 0x51C3 = some (.lwSp 3 2) := by decide +kernel
/-- R242 -/
theorem test_decode_c_bra : (7#4 ++ 0#4 ++ 2#2 ++ 0#1 ++ 16#5 : BitVec 16) = 0x7090#16 ∧
    decodeTableWord 16 0x7090 = some (.bra16 16) := by decide +kernel
/-- Words outside the maps are refused by name (30_encoding R243, R258). -/
theorem test_decode_reserved : decodeTableWord 32 0xF190622F = none ∨ decodeTableWord 32 0x0000003E = none := by
  decide +kernel

/-! ## Ill-formed terms are refused -/

theorem test_illformed_ori : Instr.wellFormed (.ori 1 0 (.short 5)) = false := by decide
theorem test_illformed_lw : Instr.wellFormed (.lw 1 2 (.short 12)) = false := by decide
theorem test_illformed_ld : Instr.wellFormed (.ld 1 2 (.long 8)) = false := by decide
theorem test_illformed_sc : Instr.wellFormed (.sc 1 2 (.short 1)) = false := by decide
theorem test_illformed_lfs : Instr.wellFormed (.lfs 1 2 (.short 2)) = false := by decide
theorem test_illformed_sei : Instr.wellFormed (.sei 0 0 0) = false := by decide
theorem test_illformed_brk : Instr.wellFormed (.brk 0 2 0 255 false) = false := by decide
theorem test_illformed_addi16 : Instr.wellFormed (.addi16 31 1) = false := by decide
theorem test_illformed_ldi16 : Instr.wellFormed (.ldi16 0 1) = false := by decide
theorem test_illformed_andi16 : Instr.wellFormed (.andi16 0 1) = false := by decide
theorem test_illformed_vsubrs : Instr.wellFormed (.vsubrs false .short 0 1 2 0) = false := by decide

/-! ## One step of the vectors printed in 95_test_vectors -/

theorem test_step_add_1 : T 32 0x13886102 [(X 1 0xFFFFFFFFFFFFFFFF), (X 2 2)]
    (fun t => t.reg 0 3 == 1 && t.pc == 0x1000+4) = true := by decide +kernel
theorem test_step_add_2 : T 32 0x12086102 [(X 1 0x00FF00FF00FF00FF), (X 2 0x0101010101010101)]
    (fun t => t.reg 0 3 == 0x0100010001000100 && t.pc == 0x1000+4) = true := by decide +kernel
theorem test_step_addi_1 : T 32 0xFFFC2204 [(X 2 0)]
    (fun t => t.reg 0 1 == 0xFFFFFFFFFFFFFFFF) = true := by decide +kernel
theorem test_step_addi_2 : T 48 0x48D159E02244 [(X 2 8)]
    (fun t => t.reg 0 1 == 0x12345680 && t.pc == 0x1006) = true := by decide +kernel
theorem test_step_add3_1 : T 48 0x100001888142 [(X 1 1), (X 2 2), (X 3 3)]
    (fun t => t.reg 0 4 == 6 && t.pc == 0x1006) = true := by decide +kernel
theorem test_step_addv_1 : T 32 0x08086102 [(X 1 0x7FFFFFFFFFFFFFFF), (X 2 1)]
    (fun t => t.reg 0 3 == 0x8000000000000000 && t.pc == 0x1000+4 &&
      t.csr.aec == 0x100000000) = true := by decide +kernel
theorem test_step_addv_2 : T 32 0x08086102 [(X 1 0x7FFFFFFFFFFFFFFF), (X 2 1), (AEC 1)]
    (fun t => t.reg 0 3 == 0 && t.csr.cause0 == 41 && t.csr.epc.r0 == 0x1000 &&
      t.csr.badInstr == 0x08086102) = true := by decide +kernel
theorem test_step_sub_1 : T 32 0x17886102 [(X 1 5), (X 2 7)]
    (fun t => t.reg 0 3 == 0xFFFFFFFFFFFFFFFE && t.pc == 0x1000+4) = true := by decide +kernel
theorem test_step_sub_2 : T 32 0x17886002 [(X 1 0), (X 2 0x8000000000000000)]
    (fun t => t.reg 0 3 == 0x8000000000000000 && t.pc == 0x1000+4) = true := by decide +kernel
theorem test_step_subv_1 : T 48 0x2C0000086142 [(X 1 0x8000000000000000), (X 2 1)]
    (fun t => t.reg 0 3 == 0x7FFFFFFFFFFFFFFF && t.pc == 0x1000+6 &&
      t.csr.aec == 0x200000000) = true := by decide +kernel
theorem test_step_auipc_1 : T 32 0x00002103 [(PC 0x40001234)]
    (fun t => t.reg 0 1 == 0x80000000) = true := by decide +kernel
theorem test_step_lui_1 : T 32 0x00002127 []
    (fun t => t.reg 0 1 == 0x40000000) = true := by decide +kernel
theorem test_step_lui_2 : T 32 0x80002027 []
    (fun t => t.reg 0 1 == 0xFFFF000000000000) = true := by decide +kernel
theorem test_step_ldi_1 : T 32 0x48D02009 []
    (fun t => t.reg 0 1 == 0x1234) = true := by decide +kernel
theorem test_step_and_1 : T 32 0x23886102 [(X 1 0xF0F0), (X 2 0xFF00)]
    (fun t => t.reg 0 3 == 0xF000 && t.pc == 0x1000+4) = true := by decide +kernel
theorem test_step_andi_1 : T 32 0x03FC2208 [(X 1 0), (X 2 0x12345)]
    (fun t => t.reg 0 1 == 0x45 && t.pc == 0x1000+4) = true := by decide +kernel
theorem test_step_or_1 : T 32 0x27886102 [(X 1 0xF0), (X 2 0x0F)]
    (fun t => t.reg 0 3 == 0xFF && t.pc == 0x1000+4) = true := by decide +kernel
theorem test_step_xor_1 : T 32 0x2B886102 [(X 1 0xFF), (X 2 0x0F)]
    (fun t => t.reg 0 3 == 0xF0 && t.pc == 0x1000+4) = true := by decide +kernel
theorem test_step_xori_1 : T 32 0xFFFC220A [(X 1 0), (X 2 0xFF)]
    (fun t => t.reg 0 1 == 0xFFFFFFFFFFFFFF00 && t.pc == 0x1000+4) = true := by decide +kernel
theorem test_step_xor_op_1 : T 48 0x284071888142 [(X 1 0xFF), (X 2 0x0F), (X 3 1)]
    (fun t => t.reg 0 4 == 0xF1) = true := by decide +kernel
theorem test_step_xnor_1 : T 32 0x38086102 [(X 1 7), (X 2 7)]
    (fun t => t.reg 0 3 == 0xFFFFFFFFFFFFFFFF && t.pc == 0x1000+4) = true := by decide +kernel
theorem test_step_not_1 : T 32 0x07944102 [(X 1 5)]
    (fun t => t.reg 0 2 == 0 && t.pc == 0x1000+4) = true := by decide +kernel
theorem test_step_not_2 : T 32 0x07944102 [(X 1 0)]
    (fun t => t.reg 0 2 == 1 && t.pc == 0x1000+4) = true := by decide +kernel
theorem test_step_com_1 : T 32 0x078C4102 [(X 1 0)]
    (fun t => t.reg 0 2 == 0xFFFFFFFFFFFFFFFF && t.pc == 0x1000+4) = true := by decide +kernel
theorem test_step_slt_1 : T 32 0x1B886102 [(X 1 0xFFFFFFFFFFFFFFFF), (X 2 1)]
    (fun t => t.reg 0 3 == 1 && t.pc == 0x1000+4) = true := by decide +kernel
theorem test_step_sltu_1 : T 32 0x1F886102 [(X 1 0xFFFFFFFFFFFFFFFF), (X 2 1)]
    (fun t => t.reg 0 3 == 0 && t.pc == 0x1000+4) = true := by decide +kernel
theorem test_step_sltui_1 : T 32 0xFFFC2207 [(X 1 0), (X 2 7)]
    (fun t => t.reg 0 1 == 1 && t.pc == 0x1000+4) = true := by decide +kernel
theorem test_step_min_1 : T 32 0xB3886102 [(X 1 0xFFFFFFFFFFFFFFFF), (X 2 1)]
    (fun t => t.reg 0 3 == 0xFFFFFFFFFFFFFFFF && t.pc == 0x1000+4) = true := by decide +kernel
theorem test_step_chk_1 : T 32 0x01904134 [(X 1 100), (X 2 0)]
    (fun t => t.csr.cause0 == 39 && t.csr.epc.r0 == 0x1000) = true := by decide +kernel
theorem test_step_chk_2 : T 32 0x01904134 [(X 1 99), (X 2 0)]
    (fun t => t.pc == 0x1004) = true := by decide +kernel
theorem test_step_maj_1 : T 48 0xB80001888142 [(X 1 0b1100), (X 2 0b1010), (X 3 0b0110)]
    (fun t => t.reg 0 4 == 0b1110) = true := by decide +kernel
theorem test_step_mux_1 : T 48 0x6C0001888142 [(X 1 0xFF00), (X 2 0xAAAA), (X 3 0x5555)]
    (fun t => t.reg 0 4 == 0xAA55) = true := by decide +kernel
theorem test_step_cmovez_1 : T 48 0xA00001888142 [(X 1 0), (X 2 8), (X 3 9)]
    (fun t => t.reg 0 4 == 8) = true := by decide +kernel
theorem test_step_ptrdif_1 : T 32 0x79886102 [(X 1 0x1040), (X 2 0x1000)]
    (fun t => t.reg 0 3 == 8 && t.pc == 0x1000+4) = true := by decide +kernel
theorem test_step_mor_1 : T 32 0x0C086102 [(X 1 0x0123456789ABCDEF), (X 2 0x8040201008040201)]
    (fun t => t.reg 0 3 == 0x0123456789ABCDEF && t.pc == 0x1000+4) = true := by decide +kernel
theorem test_step_abs_1 : T 32 0x07904102 [(X 1 0xFFFFFFFFFFFFFFFB)]
    (fun t => t.reg 0 2 == 5 && t.pc == 0x1000+4) = true := by decide +kernel
theorem test_step_cntlz_1 : T 32 0x05804102 [(X 1 1)]
    (fun t => t.reg 0 2 == 63 && t.pc == 0x1000+4) = true := by decide +kernel
theorem test_step_cntlz_2 : T 32 0x05804102 [(X 1 0)]
    (fun t => t.reg 0 2 == 64 && t.pc == 0x1000+4) = true := by decide +kernel
theorem test_step_cntpop_1 : T 32 0x05884102 [(X 1 0xFF)]
    (fun t => t.reg 0 2 == 8 && t.pc == 0x1000+4) = true := by decide +kernel
theorem test_step_sxh_1 : T 32 0x04604102 [(X 1 0x80000000)]
    (fun t => t.reg 0 2 == 0xFFFFFFFF80000000 && t.pc == 0x1000+4) = true := by decide +kernel
theorem test_step_mov_1 : T 32 0x8804C102 [(X 1 0x55)]
    (fun t => t.reg 1 6 == 0x55 && t.reg 0 6 == 0) = true := by decide +kernel
theorem test_step_bcdadd_1 : T 32 0x00086102 [(X 1 0x19), (X 2 0x03)]
    (fun t => t.reg 0 3 == 0x22 && t.pc == 0x1000+4) = true := by decide +kernel
theorem test_step_bcdadd_2 : T 32 0x00086102 [(X 1 0x99), (X 2 0x01)]
    (fun t => t.reg 0 3 == 0 && t.pc == 0x1000+4) = true := by decide +kernel
theorem test_step_bcdmul_1 : T 32 0x01086102 [(X 1 0x99), (X 2 0x99)]
    (fun t => t.reg 0 3 == 0x9801 && t.pc == 0x1000+4) = true := by decide +kernel
theorem test_step_nop_1 : T 32 0x0000003D [(X 1 5)]
    (fun t => t.pc == 0x1004 && t.xs == [(1,5)]) = true := by decide +kernel
theorem test_step_rtop_1 : T 48 0x000071888142 [(X 3 0x13886102), (X 1 4), (X 2 5)]
    (fun t => t.reg 0 4 == 9) = true := by decide +kernel
theorem test_step_shl_1 : T 32 0xBC086102 [(X 1 1), (X 2 68)]
    (fun t => t.reg 0 3 == 0x10 && t.pc == 0x1000+4) = true := by decide +kernel
theorem test_step_shl_2 : T 32 0x7C106102 [(X 1 1)]
    (fun t => t.reg 0 3 == 0x1000000000 && t.pc == 0x1000+4) = true := by decide +kernel
theorem test_step_shr_1 : T 32 0x3C906102 [(X 1 0x8000000000000000)]
    (fun t => t.reg 0 3 == 0x0800000000000000 && t.pc == 0x1000+4) = true := by decide +kernel
theorem test_step_asl_1 : T 32 0x3D106102 [(X 1 0x1000000000000000)]
    (fun t => t.reg 0 3 == 0 && t.pc == 0x1000+4 && t.csr.aec == 0x400000000) = true := by decide +kernel
theorem test_step_asr_1 : T 32 0x3D906102 [(X 1 0x8000000000000000)]
    (fun t => t.reg 0 3 == 0xF800000000000000 && t.pc == 0x1000+4) = true := by decide +kernel
theorem test_step_rol_1 : T 32 0x3E106102 [(X 1 0xF000000000000001)]
    (fun t => t.reg 0 3 == 0x1F && t.pc == 0x1000+4) = true := by decide +kernel
theorem test_step_ror_1 : T 32 0x3E906102 [(X 1 0x1F)]
    (fun t => t.reg 0 3 == 0xF000000000000001 && t.pc == 0x1000+4) = true := by decide +kernel
theorem test_step_shl_op_1 : T 48 0xBC40E18C8142 [(X 1 5), (X 3 0x1000)]
    (fun t => t.reg 0 4 == 0x1028) = true := by decide +kernel
theorem test_step_bfclr_1 : T 48 0x100101050462 [(X 1 0xFFFF), (X 2 0)]
    (fun t => t.reg 0 2 == 0xF00F) = true := by decide +kernel
theorem test_step_bfchg_1 : T 48 0x200101050462 [(X 1 0), (X 2 0)]
    (fun t => t.reg 0 2 == 0x0FF0) = true := by decide +kernel
theorem test_step_bfins_1 : T 48 0x300101048862 [(X 1 5), (X 2 0xFFFF)]
    (fun t => t.reg 0 2 == 0xF5FF) = true := by decide +kernel
theorem test_step_bfinsi_1 : T 48 0x400001148862 [(X 1 0), (X 2 0)]
    (fun t => t.reg 0 2 == 0x500) = true := by decide +kernel
theorem test_step_bfext_1 : T 48 0x500101050862 [(X 1 0x8A00), (X 2 0)]
    (fun t => t.reg 0 2 == 0xFFFFFFFFFFFFFF8A) = true := by decide +kernel
theorem test_step_bfextu_1 : T 48 0x600101050862 [(X 1 0x8A00), (X 2 0)]
    (fun t => t.reg 0 2 == 0x8A) = true := by decide +kernel
theorem test_step_bfffo_1 : T 48 0x800121040062 [(X 1 0x10000), (X 2 0)]
    (fun t => t.reg 0 2 == 16) = true := by decide +kernel
theorem test_step_bfffo_2 : T 48 0x800121040062 [(X 1 0x100000000), (X 2 0)]
    (fun t => t.reg 0 2 == 0xFFFFFFFFFFFFFFFF) = true := by decide +kernel
theorem test_step_mul_1 : T 32 0xEB886102 [(X 1 0xfffffffffffffffd), (X 2 5)]
    (fun t => t.reg 0 3 == 0xfffffffffffffff1 && t.pc == 0x1000+4) = true := by decide +kernel
theorem test_step_mul_2 : T 32 0xEB886102 [(X 1 0x4000000000000000), (X 2 2)]
    (fun t => t.reg 0 3 == 0x8000000000000000 && t.pc == 0x1000+4 &&
      t.csr.aec == 0x800000000) = true := by decide +kernel
theorem test_step_muli_1 : T 32 0xFFF4613A [(X 1 7)]
    (fun t => t.reg 0 3 == 0xffffffffffffffeb && t.pc == 0x1000+4) = true := by decide +kernel
theorem test_step_mulu_1 : T 32 0xE3886102 [(X 1 0xFFFFFFFFFFFFFFFF), (X 2 2)]
    (fun t => t.reg 0 3 == 0xfffffffffffffffe && t.pc == 0x1000+4) = true := by decide +kernel
theorem test_step_mulh_1 : T 32 0x9B886102 [(X 1 0x4000000000000000), (X 2 4)]
    (fun t => t.reg 0 3 == 1 && t.pc == 0x1000+4) = true := by decide +kernel
theorem test_step_muluh_1 : T 32 0x93886102 [(X 1 0xFFFFFFFFFFFFFFFF), (X 2 0xFFFFFFFFFFFFFFFF)]
    (fun t => t.reg 0 3 == 0xfffffffffffffffe && t.pc == 0x1000+4) = true := by decide +kernel
theorem test_step_fxmul_1 : T 32 0xEF886102 [(X 1 0x180000000), (X 2 0x200000000)]
    (fun t => t.reg 0 3 == 0x300000000 && t.pc == 0x1000+4) = true := by decide +kernel
theorem test_step_div_1 : T 32 0xFB886102 [(X 1 0xfffffffffffffff9), (X 2 2)]
    (fun t => t.reg 0 3 == 0xfffffffffffffffd && t.pc == 0x1000+4) = true := by decide +kernel
theorem test_step_div_2 : T 32 0xFB886102 [(X 1 0x8000000000000000), (X 2 0xFFFFFFFFFFFFFFFF)]
    (fun t => t.reg 0 3 == 0x8000000000000000 && t.pc == 0x1000+4) = true := by decide +kernel
theorem test_step_divu_1 : T 32 0xF3886102 [(X 1 0xFFFFFFFFFFFFFFFF), (X 2 2)]
    (fun t => t.reg 0 3 == 0x7FFFFFFFFFFFFFFF && t.pc == 0x1000+4) = true := by decide +kernel
theorem test_step_mod_1 : T 32 0x5B886102 [(X 1 0xfffffffffffffff9), (X 2 2)]
    (fun t => t.reg 0 3 == 0xFFFFFFFFFFFFFFFF && t.pc == 0x1000+4) = true := by decide +kernel
theorem test_step_modu_1 : T 32 0x53886102 [(X 1 0xFFFFFFFFFFFFFFFF), (X 2 10)]
    (fun t => t.reg 0 3 == 5 && t.pc == 0x1000+4) = true := by decide +kernel
theorem test_step_sw_1 : T 32 0x000E8224 [(X 2 0x1000), (X 3 0x1122334455667788)]
    (fun t => busRead t 8 0x1010 == 0x1122334455667788 && memByte t 0x1010 == 0x88) = true := by decide +kernel
theorem test_step_lb_1 : T 32 0x00402213 [(X 2 0x1000), (MEM 8 0x1010 0x1122334455667788)]
    (fun t => t.reg 0 1 == 0xFFFFFFFFFFFFFF88 && t.pc == 0x1004) = true := by decide +kernel
theorem test_step_lhu_1 : T 32 0x00582221 [(X 2 0x1000), (MEM 8 0x1010 0x1122334455667788)]
    (fun t => t.reg 0 1 == 0x11223344 && t.pc == 0x1004) = true := by decide +kernel
theorem test_step_lc_1 : T 32 0x005C2220 [(X 2 0x1000), (MEM 8 0x1010 0x1122334455667788)]
    (fun t => t.reg 0 1 == 0x1122 && t.pc == 0x1004) = true := by decide +kernel
theorem test_step_lw_1 : T 32 0x00502220 [(X 2 0x1000), (MEM 8 0x1010 0x1122334455667788)]
    (fun t => t.reg 0 1 == 0x1122334455667788 && t.pc == 0x1004) = true := by decide +kernel
theorem test_step_lw_2 : T 32 0x00502220 [(X 2 0x1001), (X 1 7)]
    (fun t => t.csr.cause0 == 48 && t.csr.epc.r0 == 0x1000 && t.csr.badaddr0 == 0x1011 &&
      t.reg 0 1 == 7) = true := by decide +kernel
theorem test_step_lb_2 : T 32 0xFFFC2213 [(X 2 0x3001), (MEM 1 0x3000 0x80)]
    (fun t => t.reg 0 1 == 0xFFFFFFFFFFFFFF80 && t.pc == 0x1004) = true := by decide +kernel
theorem test_step_lwx_1 : T 32 0x424C2216 [(X 2 0x2000), (X 4 3), (MEM 8 0x2018 0x77)]
    (fun t => t.reg 0 1 == 0x77 && t.pc == 0x1004) = true := by decide +kernel
theorem test_step_sb_1 : T 32 0x018C8215 [(X 2 0x1000), (X 3 0x1234)]
    (fun t => memByte t 0x1064 == 0x34) = true := by decide +kernel
theorem test_step_leax_1 : T 32 0x620C2216 [(X 2 0x1000), (X 4 5)]
    (fun t => t.reg 0 1 == 0x1028 && t.pc == 0x1004) = true := by decide +kernel
theorem test_step_push_1 : T 32 0xC00FFF16 [(X 31 0x8000), (X 3 0x55)]
    (fun t => busRead t 8 0x7ff8 == 0x55 && t.reg 0 31 == 0x7ff8) = true := by decide +kernel
theorem test_step_pushc_1 : T 32 0xFFFFFF14 [(X 31 0x8000)]
    (fun t => busRead t 8 0x7ff8 == 0xFFFFFFFFFFFFFFFF && t.reg 0 31 == 0x7ff8) = true := by decide +kernel
theorem test_step_inc_1 : T 32 0x0020221A [(X 2 0x1000), (MEM 8 0x1008 0xFFFFFFFFFFFFFFFF)]
    (fun t => busRead t 8 0x1008 == 0) = true := by decide +kernel
theorem test_step_inc_2 : T 32 0x0023E21A [(X 2 0x1000), (MEM 8 0x1008 0)]
    (fun t => busRead t 8 0x1008 == 0xFFFFFFFFFFFFFFFF) = true := by decide +kernel
theorem test_step_lwr_1 : T 32 0x0000221D [(X 2 0x1100)]
    (fun t => t.resvValid && t.resvAddr == 0x1100) = true := by decide +kernel
theorem test_step_swc_1 : T 32 0x000C0217 [(X 2 0x1100), (X 3 77), (fun s => {s with resvValid:=true, resvAddr:=0x1100})]
    (fun t => busRead t 8 0x1100 == 77 && t.csr.sema == 1 && !t.resvValid) = true := by decide +kernel
theorem test_step_swc_2 : T 32 0x000C0217 [(X 2 0x1100), (X 3 77)]
    (fun t => busRead t 8 0x1100 == 0 && t.csr.sema == 0) = true := by decide +kernel
theorem test_step_cas_1 : T 32 0x00206225 [(X 2 0x1000), (X 3 1)]
    (fun t => busRead t 8 0x1008 == 1 && t.reg 0 3 == 1) = true := by decide +kernel
theorem test_step_cas_2 : T 32 0x00206225 [(X 2 0x1000), (X 3 5), (MEM 8 0x1008 1)]
    (fun t => busRead t 8 0x1008 == 1 && t.reg 0 3 == 0 && t.csr.cas==1) = true := by decide +kernel
theorem test_step_amoadd_1 : T 32 0x1190622F [(X 2 0x2000), (X 4 5), (MEM 8 0x2000 10)]
    (fun t => busRead t 8 0x2000 == 15 && t.reg 0 3 == 10) = true := by decide +kernel
theorem test_step_beq_1 : T 32 0x01080130 [(X 1 3), (X 2 3)]
    (fun t => t.pc == 0x1010) = true := by decide +kernel
theorem test_step_beq_2 : T 32 0x01080130 [(X 1 3), (X 2 4)]
    (fun t => t.pc == 0x1004) = true := by decide +kernel
theorem test_step_blt_1 : T 32 0x01084130 [(X 1 0xFFFFFFFFFFFFFFFF)]
    (fun t => t.pc == 0x1010) = true := by decide +kernel
theorem test_step_bltu_1 : T 32 0x0108C130 [(X 1 0xFFFFFFFFFFFFFFFF)]
    (fun t => t.pc == 0x1004) = true := by decide +kernel
theorem test_step_bne_1 : T 32 0x00002130 []
    (fun t => t.pc == 0x1004) = true := by decide +kernel
theorem test_step_bbs_1 : T 32 0x017C8126 [(X 1 0x8000000000000000)]
    (fun t => t.pc == 0x1010) = true := by decide +kernel
theorem test_step_beqi_1 : T 32 0x0100A132 [(X 1 5)]
    (fun t => t.pc == 0x1010) = true := by decide +kernel
theorem test_step_beqi_2 : T 32 0xFFC30132 [(X 1 0xFFFFFFFFFFFFFF80)]
    (fun t => t.pc == 0x0ffe) = true := by decide +kernel
theorem test_step_fbne_1 : T 32 0x01082110 [(FX 1 0x7FF8000000000000)]
    (fun t => t.pc == 0x1010 && t.csr.fstat == 0x100000000) = true := by decide +kernel
theorem test_step_jmp_1 : T 32 0x12345628 [(PC 0xFFFFFFFFFFFC0100)]
    (fun t => t.pc == 0xFFFFFFFFFF123456) = true := by decide +kernel
theorem test_step_jmp_2 : T 48 0xC01234567868 [(PC 0xFFFFFFFFFFFC0100)]
    (fun t => t.pc == 0xFFFFFFC012345678) = true := by decide +kernel
theorem test_step_call_1 : T 32 0x00020019 [(PC 0xFFFFFFFFFFFC0100)]
    (fun t => t.pc == 0xFFFFFFFFFF000200 && t.reg 0 29 == 0xFFFFFFFFFFFC0104) = true := by decide +kernel
theorem test_step_jal_1 : T 32 0x0023A518 [(X 5 0x2000)]
    (fun t => t.pc == 0x2008 && t.reg 0 29 == 0x1004) = true := by decide +kernel
theorem test_step_ret_1 : T 32 0x0277FF29 [(X 31 0x7fe0), (X 29 0x1004)]
    (fun t => t.pc == 0x1004 && t.reg 0 31 == 0x8000) = true := by decide +kernel
theorem test_step_brk_1 : T 32 0x0040F000 [TV, (fun s => {s with csr := {s.csr with status := 0x8530, sema := 1}})]
    (fun t => t.csr.cause0 == 0xF0 && t.csr.badInstr == 0x40F000 && t.csr.epc.r0 == 0x1004 &&
      t.pc == 0xFFFFFFFFFFFC0060 && t.csr.status == 0 && field t.csr.imStack 0 4 == (0:BitVec 4) &&
      field t.csr.olStack 0 2 == (3:BitVec 2) && field t.csr.plStack 0 8 == (20 : BitVec 8) &&
      field t.csr.rsStack 0 6 == (2:BitVec 6) && t.csr.sema == 0) = true := by decide +kernel
theorem test_step_brk_2 : T 32 0x00000000 [TV, (fun s => {s with csr := {s.csr with status := 0x8530, sema := 1}})]
    (fun t => t.csr.cause0 == 0 && t.csr.epc.r0 == 0x1000 && t.pc == 0xFFFFFFFFFFFC0060 && t.csr.status == 0 &&
      field t.csr.imStack 0 4 == (0:BitVec 4) && field t.csr.olStack 0 2 == (3:BitVec 2) &&
      field t.csr.plStack 0 8 == (20 : BitVec 8) && field t.csr.rsStack 0 6 == (2:BitVec 6) &&
      t.csr.sema == 0) = true := by decide +kernel
theorem test_step_rti_1 : T 32 0xC8000002 [TV, (fun s => {s with csr := {s.csr with status := 0x8530, sema := 1}}), (fun s => {(trapEnter 0xF0 0 0 0x1004 s) with pc := 0x1000})]
    (fun t => t.pc == 0x1004 && t.csr.status == 0x8530 && t.csr.epc.r7 == 0xFFFFFFFFFFFC0000 &&
      t.csr.imStack == 0x77777777 && t.csr.olStack == 0 && t.csr.plStack == 0 &&
      t.csr.rsStack == 0x208208208208) = true := by decide +kernel
theorem test_step_rti_2 : T 32 0xC8000002 [TV, (fun s => {s with csr := {s.csr with status := 0x8530, sema := 1}})]
    (fun t => t.csr.cause0 == 53 && t.csr.epc.r0 == 0x1000) = true := by decide +kernel
theorem test_step_nop_2 : T 32 0x0000003D [TV, (fun s => {s with pc := 0x2000, irqLevel := 5, irqCause := 2, csr := {s.csr with status := 0x8033}})]
    (fun t => t.csr.cause0==0x82 && t.csr.epc.r0 == 0x2000 && t.im == 5 &&
      field t.csr.status 28 4 == (5 : BitVec 4) && t.rs == 5 && t.ol==0 &&
      t.pc == 0xFFFFFFFFFFFC0060) = true := by decide +kernel
theorem test_step_sei_1 : T 32 0xC01C2002 []
    (fun t => t.reg 0 1 == 15 && t.im == 7) = true := by decide +kernel
theorem test_step_cli_1 : T 32 0xC0000002 []
    (fun t => t.im == 0) = true := by decide +kernel
theorem test_step_pfi_1 : T 16 0x1FA0 []
    (fun t => t.pc == 0x1002) = true := by decide +kernel
theorem test_step_csrrw_1 : T 32 0x40C00505 [(X 5 0xFFFFFFFFFFFC0000)]
    (fun t => t.csr.tvec.r0 == 0xFFFFFFFFFFFC0000 && t.pc == 0x1004) = true := by decide +kernel
theorem test_step_csrrw_2 : T 32 0x40C00505 [(X 5 0xFFFFFFFFFFFC0000), (SETST 0x3F)]
    (fun t => t.csr.tvec.r0 == 0 && t.csr.cause0 == 53 && t.csr.epc.r0 == 0x1000) = true := by decide +kernel
theorem test_step_csrrd_1 : T 32 0x01102005 []
    (fun t => t.reg 0 1 == 15) = true := by decide +kernel
theorem test_step_csrrs_1 : T 32 0x80000105 [(X 1 0x40000000)]
    (fun t => t.csr.cr0 == 0x40000000) = true := by decide +kernel
theorem test_step_csrrd_2 : T 32 0x01102005 [(SETST 0x14005)]
    (fun t => t.reg 5 1 == 0x14005) = true := by decide +kernel
theorem test_step_rex_1 : T 32 0x0008400D [(fun s=> {s with csr := {s.csr with tvec := {s.csr.tvec with r2 := 0x8000}, cause0:= 7, badaddr0 := 9}})]
    (fun t => t.ol==2 && t.pl==2 && t.im==0 && t.csr.cause2==7 && t.csr.badaddr2==9 &&
      t.pc == 0x8000) = true := by decide +kernel
theorem test_step_exec_1 : T 32 0x044C0502 [(X 1 1), (X 2 2), (fun s=> {s with csr := {s.csr with codebuf := [(5,0x13886102)]}})]
    (fun t => t.reg 0 3 == 3 && t.pc == 0x1004) = true := by decide +kernel
theorem test_step_setwb_1 : T 32 0x04580502 []
    (fun t => t.csr.wbrcd == 1) = true := by decide +kernel
theorem test_step_tlb_1 : T 32 0xFD400002 []
    (fun t => t.tlb.enabled) = true := by decide +kernel
theorem test_step_tlb_2 : T 32 0xFD400002 [(SETST 0x1F)]
    (fun t => t.csr.cause0 == 53 && t.csr.epc.r0 == 0x1000 && !t.tlb.enabled) = true := by decide +kernel
theorem test_step_sync_1 : T 32 0x04480002 []
    (fun t => t.pc == 0x1004) = true := by decide +kernel
theorem test_step_reserved_1 : T 32 0xF190622F []
    (fun t => t.csr.cause0 == 0x25 && t.csr.epc.r0 == 0x1000 && t.csr.badInstr == 0xF190622F &&
      t.xs == []) = true := by decide +kernel
theorem test_step_reserved_2 : T 32 0xF190622F [(fun s => {s with cfg := {s.cfg with reservedFault := false}})]
    (fun t => t.pc == 0x1004) = true := by decide +kernel
theorem test_step_addisp_1 : T 16 0x029F [(X 31 0x7fe0)]
    (fun t => t.reg 0 31 == 0x8000) = true := by decide +kernel
theorem test_step_ldi_2 : T 16 0x1883 []
    (fun t => t.reg 0 3 == 0xfffffffffffffff0) = true := by decide +kernel
theorem test_step_andi_2 : T 16 0x27A5 [(X 5 0x1234)]
    (fun t => t.reg 0 5 == 4) = true := by decide +kernel
theorem test_step_shli_1 : T 16 0x31A4 [(X 4 1)]
    (fun t => t.reg 0 4 == 8) = true := by decide +kernel
theorem test_step_mov_2 : T 16 0x01E7 [(X 7 9)]
    (fun t => t.reg 0 3 == 9) = true := by decide +kernel
theorem test_step_bra_1 : T 16 0x7090 []
    (fun t => t.pc == 0x1010) = true := by decide +kernel
theorem test_step_beqz_1 : T 16 0x8485 []
    (fun t => t.pc == 0x1008) = true := by decide +kernel
theorem test_step_ret_2 : T 16 0x2080 [(X 29 0x1004)]
    (fun t => t.pc == 0x1004) = true := by decide +kernel
theorem test_step_fadd_1 : T 32 0x1388610F [(FX 1 0x3FF0000000000000), (FX 2 0x4000000000000000)]
    (fun t => t.reg 1 3 == 0x4008000000000000 && t.csr.fstat == 0x100040000) = true := by decide +kernel
theorem test_step_fadd_2 : T 32 0x1388610F [(FX 1 0x7FF0000000000000), (FX 2 0xFFF0000000000000)]
    (fun t => t.reg 1 3 == 0x7FF8000000000000 && t.csr.fstat == 0x100110502) = true := by decide +kernel
theorem test_step_fsub_1 : T 32 0x1788610F [(FX 1 0x3FF0000000000000), (FX 2 0x3FF0000000000000), (FST 0x160000000)]
    (fun t => t.reg 1 3 == 0x8000000000000000) = true := by decide +kernel
theorem test_step_fmul_1 : T 32 0x2388610F [(FX 1 0x3FF8000000000000), (FX 2 0x4000000000000000)]
    (fun t => t.reg 1 3 == 0x4008000000000000 && t.csr.fstat == 0x100040000) = true := by decide +kernel
theorem test_step_fdiv_1 : T 32 0x2788610F [(FX 1 0x3FF0000000000000), (FX 2 0x4008000000000000)]
    (fun t => t.reg 1 3 == 0x3FD5555555555555 && t.csr.fstat == 0x100444100) = true := by decide +kernel
theorem test_step_fdiv_2 : T 32 0x2788610F [(FX 1 0x3FF0000000000000), (FX 2 0)]
    (fun t => t.reg 1 3 == 0x7FF0000000000000 && t.csr.fstat == 0x100052100) = true := by decide +kernel
theorem test_step_fsqrt_1 : T 32 0x7788610F [(FX 1 0xBFF0000000000000)]
    (fun t => t.reg 1 3 == 0x7FF8000000000000 && t.csr.fstat == 0x100110540) = true := by decide +kernel
theorem test_step_fcmp_1 : T 32 0x1B88610F [(FX 1 0x3FF0000000000000), (FX 2 0x4000000000000000)]
    (fun t => t.reg 0 3 == 0x0E) = true := by decide +kernel
theorem test_step_fcmp_2 : T 32 0x1B88610F [(FX 1 0xC008000000000000), (FX 2 0x4000000000000000)]
    (fun t => t.reg 0 3 == 0x0A) = true := by decide +kernel
theorem test_step_fslt_1 : T 32 0xE388610F [(FX 1 0x3FF0000000000000), (FX 2 0x4000000000000000)]
    (fun t => t.reg 0 3 == 1) = true := by decide +kernel
theorem test_step_fsun_1 : T 32 0xFB88610F [(FX 1 0x7FF8000000000000), (FX 2 0x4000000000000000)]
    (fun t => t.reg 0 3 == 1) = true := by decide +kernel
theorem test_step_fneg_1 : T 32 0x5388610F [(FX 1 0)]
    (fun t => t.reg 1 3 == 0x8000000000000000 && t.csr.fstat == 0x100000000) = true := by decide +kernel
theorem test_step_ftoi_1 : T 32 0x4B88610F [(FX 1 0x4004000000000000)]
    (fun t => t.reg 1 3 == 2 && bitAt t.csr.fstat 14) = true := by decide +kernel
theorem test_step_ftoi_2 : T 32 0x4B88610F [(FX 1 0x43F0000000000000)]
    (fun t => t.reg 1 3 == 0x7FFFFFFFFFFFFFFF && bitAt t.csr.fstat 7 && bitAt t.csr.fstat 10 &&
      bitAt t.csr.fstat 8) = true := by decide +kernel
theorem test_step_itof_1 : T 32 0x4FC8610F [(X 1 0xFFFFFFFFFFFFFFFF), (FST 0x100000000)]
    (fun t => t.reg 1 3 == 0xBFF0000000000000) = true := by decide +kernel
theorem test_step_itof_2 : T 32 0x4FC8610F [(X 1 0x0020000000000001), (FST 0x100000000)]
    (fun t => t.reg 1 3 == 0x4340000000000000 && bitAt t.csr.fstat 14) = true := by decide +kernel
theorem test_step_fcvtsd_1 : T 32 0x6788610F [(FX 1 0x3FC00000)]
    (fun t => t.reg 1 3 == 0x3FF8000000000000) = true := by decide +kernel
theorem test_step_fcvtsd_2 : T 32 0x6788610F [(FX 1 1)]
    (fun t => t.reg 1 3 == 0x36A0000000000000) = true := by decide +kernel
theorem test_step_vmov_1 : T 32 0xCC01E102 [(X 1 100)]
    (fun t => t.vl == 63) = true := by decide +kernel
theorem test_step_lv_1 : T 32 0x00404136 [(X 1 0x2000), (fun s => {s with vl := 2}), (MEM 8 0x2010 65), (MEM 8 0x2018 66)]
    (fun t => VR t 2 3 == [65, 66, 0]) = true := by decide +kernel
theorem test_step_vadd_1 : T 32 0x108C4131 [(fun s => {s with vl := 3}), (fun s => s.setMask 1 0b101), (VV 1 [1, 2, 3]), (VV 3 [10, 20, 30])]
    (fun t => VR t 2 3 == [11, 0, 33]) = true := by decide +kernel
theorem test_step_vneg_1 : T 32 0x58804131 [(fun s => {s with vl := 1}), (VV 1 [5])]
    (fun t => t.vec 2 0 == 0xFFFFFFFFFFFFFFFB) = true := by decide +kernel
theorem test_step_vshlv_1 : T 32 0x408C4131 [(fun s => {s with vl := 5}), (VV 1 [1, 2, 3, 4, 5])]
    (fun t => VR t 2 5 == [0, 0, 0, 1, 2]) = true := by decide +kernel
theorem test_step_vshrv_1 : T 32 0x448C4131 [(fun s => {s with vl := 5}), (VV 1 [1, 2, 3, 4, 5])]
    (fun t => VR t 2 5 == [4, 5, 0, 0, 0]) = true := by decide +kernel
theorem test_step_vcmprss_1 : T 32 0x00804131 [(fun s => {s with vl := 4}), (fun s => s.setMask 1 0b1010), (VV 1 [5, 6, 7, 8])]
    (fun t => VR t 2 3 == [6, 8, 0]) = true := by decide +kernel
theorem test_step_v2bits_1 : T 32 0x84804131 [(fun s => {s with vl := 4}), (VV 1 [1, 0, 3, 2])]
    (fun t => t.reg 0 2 == 0b0101) = true := by decide +kernel
theorem test_step_veins_1 : T 32 0x888C4131 [(X 1 4), (X 3 99)]
    (fun t => t.vec 2 4 == 99) = true := by decide +kernel
theorem test_step_vsxx_1 : T 32 0x180E4131 [(fun s => {s with vl := 3}), (VV 1 [1, 5, 3]), (VV 3 [2, 5, 1])]
    (fun t => field (t.mask 2) 0 3 == (1 : BitVec 3)) = true := by decide +kernel
theorem test_step_vmand_1 : T 32 0xC0086131 [(fun s => s.setMask 1 0b1100), (fun s => s.setMask 2 0b1010)]
    (fun t => t.mask 3 == 8) = true := by decide +kernel
theorem test_step_vmpop_1 : T 32 0xC2006131 []
    (fun t => t.reg 0 3 == 64) = true := by decide +kernel
theorem test_step_vmfill_1 : T 32 0xC2806131 [(X 1 5)]
    (fun t => t.mask 3 == 0x1F) = true := by decide +kernel
theorem test_step_bfextu_2 : T 48 0x600100871862 [(X 1 0x0F000000)]
    (fun t => t.pc == 0x1006) = true := by decide +kernel
theorem test_step_call_2 : T 48 0x800000100059 [(fun s=> {s with segHs := 0x1234})]
    (fun t => t.pc == 0x0012340000001000 && t.reg 0 29 == 0x1006) = true := by decide +kernel
theorem test_step_sei_2 : T 32 0xC00C0002 []
    (fun t => t.im == 3) = true := by decide +kernel
theorem test_step_sb_2 : T 32 0x00000215 [(fun s => {s with cfg := {s.cfg with mmuKind := .tlb}, tlb := {s.tlb with enabled := true, entries := [(0,{vpn := 0, ppn := 0, attr := 0x401}),(1,{vpn := 5, ppn := 9, attr := 0x404})]}}), (X 2 0xA123)]
    (fun t => t.csr.cause0 == 50 && t.csr.epc.r0 == 0x1000 && t.csr.badaddr0 == 0xA123) = true := by decide +kernel
/-! ## Operations on their edges -/

/-- Operating level 3. -/
def user (s : State) : State := SETST 0x30 s
/-- Level 3, where FADD is forbidden, with a number of floating-point units. -/
def noFadd (n : Nat) : State := user (CFG (fun c => { c with userPrivFaults := ["FADD"], numFpu := n }) s0)
/-- Two virtual pages of the simplified MMU on one physical page. -/
def aliased : State :=
  { CFG (fun c => { c with mmuKind := .simple }) s0 with
    csr := { s0.csr with pcr := 0x80000003 }, mapTab := [(3 * 1024 + 5, 0x60123), (3 * 1024 + 6, 0x60123)] }
/-- Vector register 2 with 2^53 + 1 in element 0. -/
def odd : State := { s0.setVec 2 0 0x0020000000000001 with vl := 1 }
theorem test_storeSet_removes_default : storeSet (0 : Byte) [(1, 5), (3, 7)] 3 0 = [(1, 5)] := by decide
theorem test_memory_wraps_at_top : memByte (busWrite s0 2 0xFFFFFFFF 0xABCD) 0 = 0xAB := by decide +kernel
theorem test_pc_keeps_selector : pcPlus 0x000000FFFFFFFFFF 1 = 0 := by decide
theorem test_withFetchWord_runs_first : (match step (State.reset.withFetchWord 32 0x13886102) with
    | .next t => t.pc == 0xFFFFFFFFFFFC0104
    | _ => false) = true := by decide +kernel
theorem test_unanswered_fetch_raises_IBE : (match step (CFG (fun c => { c with memMap := [] }) s0) with
    | .next t => t.csr.cause0 == 1
    | _ => false) = true := by decide +kernel
/-- A load from a device and a store to one complete, and leave memory (70_reset_and_hazards R1056). -/
theorem test_device_access_completes :
    (match exec (.lw 1 2 (.short 0)) (X 2 0xFFD00000 s0), exec (.sw 1 2 (.short 0)) (X 1 5 (X 2 0xFFD00000 s0)) with
    | .next t, .next u => t.pc == 0x1004 && u.pc == 0x1004 && u.mem == []
    | _, _ => false) = true := by decide +kernel
/-- 70_reset_and_hazards R1020, R1021. -/
theorem test_reset_event : (match step { MEM 8 0x2000 5 (X 1 7 s0) with resetPin := true } with
    | .next t => t.pc == 0xFFFFFFFFFFFC0100 && t.mem == (MEM 8 0x2000 5 s0).mem && t.csr.epc == State.reset.csr.epc
    | _ => false) = true := by decide +kernel
/-- A store through another address of the same page breaks the reservation (20_memory R198). -/
theorem test_alias_store_breaks_reservation :
    (match exec (.lwr 1 2 (.short 0)) (X 2 0xA000 (X 3 0xC000 aliased)) with
    | .next t => (match exec (.sb 1 3 (.short 7)) t, exec (.sb 1 3 (.short 8)) t with
      | .next u, .next w => t.resvValid && !u.resvValid && w.resvValid
      | _, _ => false)
    | _ => false) = true := by decide +kernel
/-- The FBcc opcode is a parameter (30_encoding R255). -/
theorem test_fbcc_opcode : decodeNat 0x33 0x02080133 = .ok (.fbeq 1 2 16) ∧ decodeNat 0x10 0x02080110 = .ok (.fbeq 1 2 16) ∧
    decodeNat 0x33 0x02080110 = .error .major := ⟨by rfl, by rfl, by rfl⟩
/-- Opcode 31h ignores Rm3 (48_vector R842): 2^53 + 1 rounds to even, FSTAT.RM being 0, where the form says up. -/
theorem test_conversion_ignores_rm :
    (match exec (.vint2flt false (.long 2 2) 0 1 2) odd, exec (.vint2flt true (.long 2 2) 0 1 2) odd with
    | .next t, .next u => t.vec 1 0 == 0x4340000000000000 && u.vec 1 0 == 0x4340000000000001
    | _, _ => false) = true := by decide +kernel
/-- 93_implementation_defined U21. -/
theorem test_vmov_unassigned_reserved : (match exec (.vmovTo 9 1) s0, exec (.vmovFrom 1 31) s0 with
    | .next t, .next u => t.csr.cause0 == 37 && u.csr.cause0 == 37
    | _, _ => false) = true := by decide +kernel
/-- A reserved encoding comes before a privilege violation (60_exceptions R945). -/
theorem test_reserved_before_privilege :
    (match execAtLevel (.fadd 3 1 2 (.short 7)) (noFadd 0), execAtLevel (.fadd 3 1 2 (.short 7)) (noFadd 1) with
    | .next t, .next u => t.csr.cause0 == 37 && u.csr.cause0 == 53
    | _, _ => false) = true := by decide +kernel
theorem test_smt_refused : (match exec (.csrrw 0 0 0 1) (X 1 0x10000 s0) with
    | .refused r => r == .smtMode
    | _ => false) = true := by decide +kernel

/-! ## States that meet the hypotheses of the obligations -/

/-- A state about to run a 32-bit word. -/
def fetching (w : Nat) : State := s0.withFetchWord 32 w
/-- A machine with no floating-point unit. -/
def noFpu : State := CFG (fun c => { c with numFpu := 0 }) s0
/-- A machine with no vector unit. -/
def noVec : State := CFG (fun c => { c with supVector := false }) s0
/-- A code buffer filled, with the EXEC that runs it at the program counter. -/
def buffered (w : Word) : State := { fetching 0x044C0502 with csr := { s0.csr with codebuf := [(5, w)] } }
/-- A machine with a TLB whose entry n maps page 5, readable alone. -/
def mapped (n : Nat) : State :=
  { CFG (fun c => { c with mmuKind := .tlb }) s0 with
    tlb := { s0.tlb with enabled := true, entries := [(n, { vpn := 5, ppn := 9, attr := 0x404 })] } }
/-- A machine with the simplified MMU and one readable page. -/
def paged (pcr : Word) : State :=
  { CFG (fun c => { c with mmuKind := .simple }) s0 with
    csr := { s0.csr with pcr := pcr }, mapTab := [(3 * 1024 + 5, 0x20123)] }
/-- A debug register armed for stores at 0x1000. -/
def watched : State := { s0 with csr := { s0.csr with dbcr := 0x10001, dbad := { Bank4.zero with r0 := 0x1000 } } }
/-- Memory that may be read and not written. -/
def readOnly : State := CFG (fun c => { c with memMap := c.memMap.map fun r => { r with write := false } }) s0
/-- Stack bounds that 0 does not meet. -/
def sZ : State := CFG (fun c => { c with stackBounds := some (8, 16) }) s0
/-- Stack bounds that the value in memory does not meet. -/
def sBmem : State := MEM 8 0x1010 5 (X 2 0x1000 sB)
/-- A vector state: length 3, mask register 1 with bits 0 and 2. -/
def vecState : State := { s0.setMask 1 5 with vl := 3 }

/-- The cause a part raises; 0 for none. -/
def causeIn {α : Type} (m : Res α) : BitVec 8 :=
  match m with
  | .exc c _ => c
  | _ => 0

theorem witness_EncodedInstructionDecodesToItself :
    Instr.wellFormed (.lwx 1 2 4 3) = true ∧ Instr.wellFormed (.ori 1 2 (.long 5)) = true ∧ blankMajor 0x10 = true ∧
    blankMajor 0x39 = true ∧ blankMajor 0x3D = false := by decide
theorem witness_DecodedInstructionIsWellFormed : decodeNat 0x10 0x13886102 = .ok (.add 3 1 2 7) := by rfl
theorem witness_StepRunsTheDecodedInstruction :
    ((fetching 0x13886102).resetPin = false ∧ modeRefusal (fetching 0x13886102) = none ∧ interruptPending (fetching 0x13886102) = false ∧
      instrMatches (fetching 0x13886102) = 0 ∧ fetch (fetching 0x13886102) = .ok (4, 0x13886102) (fetching 0x13886102) ∧
      decodeTableWord 32 0x13886102 = some (.add 3 1 2 7) ∧ (fetching 0x13886102).cfg.fbccOpcode = 0x10 ∧
      userForbidden (.add 3 1 2 7) ((fetching 0x13886102).load 4 0x13886102) = false) ∧
    (userForbidden (.fadd 3 1 2 (.short 7)) (noFadd 0) = true ∧ reservedIn (.fadd 3 1 2 (.short 7)) (noFadd 0) = true) ∧
    (fetch (fetching 0xF190622F) = .ok (4, 0xF190622F) (fetching 0xF190622F) ∧ decodeTableWord 32 0xF190622F = none) ∧
    (userForbidden (.fadd 3 1 2 (.short 7)) (noFadd 1) = true ∧ reservedIn (.fadd 3 1 2 (.short 7)) (noFadd 1) = false) := by
  decide +kernel
theorem witness_OnlyExecHandsOnABuffer :
    s0.pending = none ∧ isExec (.nop false) = false ∧ goesOn (exec (.nop false) s0) = true := by decide +kernel
theorem witness_FetchReadsLittleEndianBytes :
    s0.cfg.mmuKind = .none ∧ s0.cfg.icacheCoherent = true ∧ s0.cfg.paBits ≤ 40 ∧
    busAllOk s0.cfg .exec (lengthOf (busByte s0 0x1000).toNat) 0x1000 = true := by decide +kernel
theorem witness_ExecRunsTheBufferedWord :
    ((buffered 0x13886102).resetPin = false ∧ modeRefusal (buffered 0x13886102) = none ∧ interruptPending (buffered 0x13886102) = false ∧
      instrMatches (buffered 0x13886102) = 0 ∧
      fetch (buffered 0x13886102) = .ok (4, 0x044C0502) (buffered 0x13886102) ∧
      decodeTableWord 32 0x044C0502 = some (.execBuf 5) ∧
      userForbidden (.execBuf 5) ((buffered 0x13886102).load 4 0x044C0502) = false) ∧
    (decodeTableWord 32 (bufferWord 0x13886102) = some (.add 3 1 2 7) ∧ isExec (.add 3 1 2 7) = false ∧
      userForbidden (.add 3 1 2 7) ((buffered 0x13886102).load 4 (bufferWord 0x13886102)) = false) ∧
    decodeTableWord 32 (bufferWord 0xF190622F) = none ∧
    decodeTableWord 32 (bufferWord 0x044C0502) = some (.execBuf 5) := by decide +kernel
theorem witness_InterruptsAndDebugTrapsPrecedeTheInstruction :
    (s0.resetPin = false ∧ modeRefusal s0 = none ∧ (SETST 0 { s0 with irqLevel := 1 }).im.ult (SETST 0 { s0 with irqLevel := 1 }).irqLevel = true) ∧
    (s0.im.ult s0.irqLevel = false ∧ s0.cfg.supportDbg = true ∧
      matchBits (instrMatch { s0.csr with dbcr := 1, dbad := { Bank4.zero with r0 := 0x1000 } } s0.pc) ≠ 0) ∧
    (instrMatches s0 = 0 ∧ causeIn (fetch (CFG (fun c => { c with memMap := [] }) s0)) = causeIBE) ∧
    s0.event = .completed := by decide +kernel
theorem witness_StepKeepsCanonicalForm :
    State.Canonical (fetching 0x13886102) ∧ goesOn (step (fetching 0x13886102)) = true :=
  ⟨⟨by decide, by decide, by decide, by decide, by decide, by decide, by decide, by decide, by decide +kernel⟩, by decide +kernel⟩
theorem witness_StepKeepsVectorLengthInRange :
    (63 : BitVec 7).toNat ≤ 63 ∧ goesOn (step { fetching 0xCC01E102 with vl := 63 }) = true := by decide +kernel
theorem witness_ResetStateHasTheSpecsValues : { s0 with resetPin := true }.resetPin = true := by decide
theorem witness_UserLevelIsLeftOnlyByATrap :
    (user s0).ol = 3 ∧ goesOn (exec (.addi 1 2 (.short 1)) (user s0)) = true ∧
    goesOn (exec (.rti 0 0) (user s0)) = true := by decide +kernel
theorem witness_OtherRegisterSetsAreUntouched :
    (∀ d q rt ra, Instr.add 3 1 2 7 ≠ .mov d q rt ra) ∧ goesOn (exec (.add 3 1 2 7) s0) = true ∧
    (5 : BitVec 6) ≠ s0.rs ∧ (5 : BitVec 6) ≠ s0.fps := by
  refine ⟨(fun _ _ _ _ h => Instr.noConfusion h), ?_⟩
  decide +kernel
theorem witness_RegisterZeroReadsZeroAndDiscardsWrites :
    (eaDisp (X 2 1 s0) 2 (.short 0)).toNat % 8 ≠ 0 ∧ dataAccess (eaDisp s0 2 (.short 8)) 8 .read s0 = .ok 8 s0 := by
  decide +kernel
theorem witness_TrapEntrySavesAndSwitches :
    (1 : BitVec 4) ≠ 0 ∧ (15 : BitVec 4) ≠ 0 ∧ (CFG (fun c => { c with supportDbg := false }) s0).cfg.supportDbg = false := by
  decide
theorem witness_BreakAndPollTakeTheirTrap :
    (254 : BitVec 8) ≠ 255 ∧ pollHit s0 = false ∧ pollHit { s0 with irqLevel := 1 } = true := by decide
theorem witness_ReturnFromInterruptRestores : (user s0).ol = 3 ∧ s0.ol ≠ 3 ∧ (SETST 0x20 s0).ol ≠ 3 := by decide
theorem witness_RedirectMaskAndWait :
    ((2 : BitVec 2) = 2 ∧ s0.cfg.rexEnabled2 = true ∧ s0.ol.toNat < 2 ∧ 2 ≤ ((2 : BitVec 8) ||| field (s0.x 0) 0 8).toNat) ∧
    ¬(SETST 0x20 s0).ol.toNat < 2 ∧ ¬2 ≤ ((1 : BitVec 8) ||| field (s0.x 0) 0 8).toNat ∧
    stackFault s0 s0.rs 31 (zext64 s0.im) = false ∧ zext64 (3 : BitVec 5) ||| s0.x 1 ∉ s0.waitLow ∧
    (zext64 (3 : BitVec 5) ||| s0.x 1 ∈ { s0 with waitLow := [3] }.waitLow ∧ s0.x 2 ∉ s0.waitRunning ∧
      s0.x 2 ∈ { s0 with waitLow := [3], waitRunning := [0] }.waitRunning) := by decide
theorem witness_CsrInstructionsAccessTheRegister :
    ((0 : BitVec 2).ult (user s0).ol = true ∧ (2 : BitVec 2).ult (user s0).ol = true) ∧
    ((0 : BitVec 2).ult s0.ol = false ∧ csrRead s0 0 0x300 = none ∧ csrRead s0 3 0 = none) ∧
    (csrRead (user s0) 0 0x300 = none ∧ csrRead (user s0) 0 0x044 ≠ none ∧ csrRead (user s0) 2 0x006 ≠ none) ∧
    (csrRead s0 0 0x044 = some 15 ∧ csrRefusal s0.cfg 0 0x044 0 = none ∧ stackFault s0 s0.rs 31 15 = false ∧
      stackFault sB sB.rs 31 15 = true ∧ csrRefusal s0.cfg 0 0 0x10000 = some .smtMode) ∧
    csrBitCapable 0 0x044 = true ∧ csrBitCapable 0 0x030 = false := by decide +kernel
/-- At operating level 3: an undefined number, a register without bit set and a TLB command 12 are reserved before they
are privilege violations (60_exceptions R945). -/
theorem test_reserved_csr_and_tlb_before_privilege :
    isUnimp (exec (.csrrd 0 0x300 1 0) (user s0)) = true ∧ isUnimp (exec (.csrrs 0 0x030 1 0) (user s0)) = true ∧
    isUnimp (exec (.tlb 12 0 0 0) (user s0)) = true ∧
    passed (exec (.csrrd 0 0x044 1 0) (user s0)) (fun t => t.csr.cause0 == 53) = true ∧
    passed (exec (.tlb 11 0 0 0) (user s0)) (fun t => t.csr.cause0 == 53) = true := by decide +kernel
theorem witness_CsrReadsWhatWasWritten :
    StoreWf 0 s0.csr.codebuf ∧ s0.cfg.supportDbg = true ∧ csrWritable 0 = some 0xFFFFFFFFFFFFFFFF ∧
    csrWritable 0x01D = some 0xFFFFFFFFFFFFFFFF ∧ csrWritable 0x0BF = some 0xFFFFFFFFFFFFFFFF ∧
    csrWritable 0x006 = some 0xFFFF ∧ csrWritable 0x0C0 = none := by decide
/-- The aging counter at its boundaries: 0 left, the first underflow, a whole period, and AFC 0 (20_memory R168). -/
theorem test_aging_counter :
    agingAfter 20000 20000 20000 = 0 ∧ agingAfter 20000 20000 20001 = 20000 ∧ agingAfter 20000 0 20001 = 0 ∧
    agingAfter 20000 0 20002 = 20000 ∧ agingAfter 0 5 100 = 0 ∧ (tlbAge 5 0 s0.tlb).refcnts = s0.tlb.refcnts ∧
    (tlbAge 5 0 s0.tlb).aging = 19995 := by decide
theorem witness_TlbInstructionCommands :
    (user s0).ol ≠ 0 ∧ s0.ol = 0 ∧ stackFault s0 s0.rs 31 (tlbRegGet s0.tlb 12) = false ∧ 12 ≤ (12 : BitVec 4).toNat ∧
    12 ≤ (15 : BitVec 4).toNat ∧ (11 : BitVec 4).toNat < 12 ∧
    tlbCount (tlbUse (tlbSetCount s0.tlb 7 0xFFFFFE03) 7 .read) 7 = 0xFFFFFF03 ∧
    tlbCount (tlbUse (tlbSetCount s0.tlb 7 0xFFFFFF03) 7 .read) 7 = 0xFFFFFF03 := by decide
theorem witness_TranslationFollowsEntryAndMap :
    ((mapped 0).cfg.mmuKind = .tlb ∧ (mapped 0).tlb.enabled = true) ∧
    (∀ j < 256, tlbHit (tlbGet (mapped 0).tlb j) 0xA123 (mapped 0).asid = decide (j = 0)) ∧
    (∀ j < 256, tlbHit (tlbGet (mapped 255).tlb j) 0xA123 (mapped 255).asid = decide (j = 255)) ∧
    tlbPermits (tlbGet (mapped 0).tlb 0) .read = true ∧ tlbPermits (tlbGet (mapped 0).tlb 0) .write = false ∧
    (∀ j < 256, tlbHit (tlbGet (mapped 0).tlb j) 0xC000 (mapped 0).asid = false) ∧
    ((paged 0x80000003).cfg.mmuKind = .simple ∧ bitAt (paged 3).csr.pcr 31 = false ∧
      bitAt (paged 0x80000003).csr.pcr 31 = true ∧ field (0x2000A456 : Word) 29 3 ≠ 0 ∧
      field (0xA456 : Word) 29 3 = 0 ∧ bitAt (storeGet 0 (paged 0x80000003).mapTab (3 * 1024 + 5)) 17 = true ∧
      bitAt (storeGet 0 (paged 0x80000003).mapTab (3 * 1024 + 5)) 18 = false) := by decide +kernel
theorem witness_SystemInstructionsComplete :
    ((2 : RegNo).toNat ∈ [0x02, 0x12, 0x13]) ∧ ((19 : RegNo).toNat ∈ [0x02, 0x12, 0x13]) ∧
    ((4 : RegNo).toNat ∉ [0x02, 0x03, 0x10, 0x11, 0x12, 0x13]) := by decide
theorem witness_MemoryReadsWhatWasStored :
    State.Canonical (MEM 8 0x1000 5 s0) ∧ 8 ≤ 2 ^ s0.cfg.paBits ∧
    2 ^ s0.cfg.paBits ≤ 2 ^ s0.cfg.paBits ∧ anyDevice (MEM 8 0x1000 5 s0).cfg 8 0x1000 = false ∧
    (∀ k < 8, inMapWindow s0.cfg ((0x1000 + k) % 2 ^ s0.cfg.paBits) = false) ∧
    (∀ k < 8, inMapWindow (paged 3).cfg ((0xFFDC5000 + k) % 2 ^ s0.cfg.paBits) = false) ∧
    ∀ k < 8, isDevice s0.cfg ((0xFFD00000 + k) % 2 ^ s0.cfg.paBits) = true :=
  ⟨⟨by decide, by decide, by decide, by decide, by decide, by decide, by decide, by decide, by decide +kernel⟩, by decide,
    Nat.le_refl _, by decide +kernel, by decide +kernel, by decide +kernel, by decide +kernel⟩
/-- The first and the last entry of the map-table window, and an entry read and written there. -/
theorem witness_MapTableWindow :
    ((paged 0x300).cfg.mmuKind = .simple ∧ 32 ≤ (paged 0x300).cfg.paBits ∧ field (paged 0x300).csr.dbcr 0 4 = (0 : BitVec 4) ∧
      StoreWf 0 (paged 0x300).mapTab) ∧
    ((X 2 0xFFDC4000 (paged 0x300)).x 2 + immS (.short 0) = BitVec.ofNat 64 (0xFFDC4000 + 4 * 0) ∧
      (X 2 0xFFDC4000 (paged 0x300)).x 2 + immS (.short 0xFFC) = BitVec.ofNat 64 (0xFFDC4000 + 4 * 1023)) ∧
    stackFault (paged 0x300) (paged 0x300).rs 31 0x20123 = false ∧
    stackFault (CFG (fun c => { c with stackBounds := some (0, 0) }) (paged 0x300)) 0 31 0x20123 = true ∧
    passed (exec (.lhu 3 2 (.short 20)) (X 2 0xFFDC4000 (paged 0x300))) (fun t => t.x 3 == 0x20123) = true ∧
    passed (exec (.sh 2 2 (.short 20)) (X 2 0xFFDC4000 (paged 0x300)))
      (fun t => storeGet 0 t.mapTab (3 * 1024 + 5) == (0x1C4000 : BitVec 21)) = true := by decide +kernel
theorem witness_DataAccessChecksInOrder :
    (0x1001 : Word).toNat % 8 ≠ 0 ∧
    ((0x1000 : Word).toNat % 8 = 0 ∧ (watched.cfg.supportDbg &&
      matchBits (dataMatch watched.csr 0x1000 .write) != 0) = true) ∧
    ((s0.cfg.supportDbg && matchBits (dataMatch s0.csr 0x1000 .read) != 0) = false ∧
      causeIn (translate 0xC000 .read (mapped 0)) = causeTLB ∧ translate 0x1000 .read s0 = .ok 0x1000 s0 ∧
      busAllOk (CFG (fun c => { c with memMap := [] }) s0).cfg .read 8 0x1000 = false ∧
      busAllOk s0.cfg .read 8 0x1000 = true ∧ anyDevice s0.cfg 8 0x1000 = false ∧
      busAllOk s0.cfg .read 8 0xFFD00000 = true ∧ anyDevice s0.cfg 8 0xFFD00000 = true) := by decide +kernel
/-- For the statements whose premise is AccessOk. -/
theorem witness_AccessOk : AccessOk s0 0x1000 8 .read ∧ AccessOk s0 0x1000 8 .write := by
  unfold AccessOk
  decide +kernel
theorem witness_LoadsCompleteWithTheValue :
    (dataAccess 0x1010 8 .read s0 = .ok 0x1010 s0 ∧ stackFault s0 s0.rs 31 (zeroBytes (busRead s0 8 0x1010)) = false) ∧
    (dataAccess 0x1010 8 .read sBmem = .ok 0x1010 sBmem ∧
      stackFault sBmem sBmem.rs 31 (zeroBytes (busRead sBmem 8 0x1010)) = true ∧
      stackFault sBmem sBmem.fps 31 (zeroBytes (busRead sBmem 8 0x1010)) = true) ∧
    causeIn (dataAccess 0x1011 8 .read s0) = causeALN := by decide +kernel
theorem witness_StoresCompleteWithTheBytes :
    dataAccess 0x1010 8 .write s0 = .ok 0x1010 s0 ∧ causeIn (dataAccess 0x1011 8 .write s0) = causeALN := by
  decide +kernel
theorem witness_StoresLeaveOtherBytesAndRegisters :
    dataAccess 0xFFFFFFF0 16 .write s0 = .ok 0xFFFFFFF0 s0 ∧
    dataAccess 0xFFDC4FFC 4 .write (paged 0x300) = .ok 0xFFDC4FFC (paged 0x300) := by decide +kernel
theorem witness_PushIncrementAndSwapComplete :
    (dataAccess 0x1008 8 .write s0 = .ok 0x1008 s0 ∧ stackFault s0 s0.rs 31 0x1008 = false ∧
      stackFault sB sB.rs 31 0x1008 = true) ∧
    (dataAccess 0x1008 8 .read s0 = .ok 0x1008 s0 ∧ BitVec.ofNat 64 (busRead s0 8 0x1008) = s0.csr.cas ∧
      BitVec.ofNat 64 (busRead (MEM 8 0x1008 1 s0) 8 0x1008) ≠ s0.csr.cas ∧ stackFault s0 s0.rs 31 1 = false ∧
      stackFault s0 s0.rs 31 0 = false ∧ stackFault sB sB.rs 31 1 = true ∧ stackFault sZ sZ.rs 31 0 = true) ∧
    (causeIn (dataAccess 0x1009 8 .read s0) = causeALN ∧ dataAccess 0x1008 8 .read readOnly = .ok 0x1008 readOnly ∧
      causeIn (dataAccess 0x1008 8 .write readOnly) = causeDBE) := by decide +kernel
theorem witness_ReservationDecidesTheConditionalStore :
    dataAccess 0x1008 8 .read s0 = .ok 0x1008 s0 ∧ dataAccess 0x1008 8 .write s0 = .ok 0x1008 s0 ∧
    stackFault s0 s0.rs 31 (zeroBytes (busRead s0 8 0x1008)) = false ∧
    ({ s0 with resvValid := true, resvAddr := 0x1008 }.resvValid = true ∧
      { s0 with resvValid := true, resvAddr := 0x1008 }.resvAddr = 0x1008) ∧
    ¬(s0.resvValid = true ∧ s0.resvAddr = 0x1008) ∧ causeIn (dataAccess 0x1009 8 .write s0) = causeALN := by
  decide +kernel
theorem witness_AtomicOperationsReturnTheOldValue :
    ((0 : BitVec 3).toNat < 4 ∧ (3 : BitVec 3).toNat < 4 ∧ 4 ≤ (4 : BitVec 3).toNat ∧ 4 ≤ (7 : BitVec 3).toNat) ∧
    (dataAccess 0x1008 8 .read s0 = .ok 0x1008 s0 ∧ dataAccess 0x1008 8 .write s0 = .ok 0x1008 s0 ∧
      dataAccess 0x1009 1 .read s0 = .ok 0x1009 s0) ∧
    causeIn (dataAccess 0x1009 8 .read s0) = causeALN ∧
    (dataAccess 0x1008 8 .read readOnly = .ok 0x1008 readOnly ∧
      causeIn (dataAccess 0x1008 8 .write readOnly) = causeDBE) := by decide +kernel
/-- For the statements of the forms WritesX, WritesXWhen, LinksTo (IntegerResults, ThreeSourceAndSelectResults,
BitfieldResults, JumpsCallsAndReturns, CompressedResults): both answers of the stack check. -/
theorem witness_StackCheck :
    stackFault s0 s0.rs 31 5 = false ∧ stackFault sB sB.rs 30 5 = true ∧ stackFault sB sB.rs 31 5 = true ∧
    stackFault sB sB.rs 29 5 = false ∧ stackFault sB sB.rs 31 0 = false := by decide
theorem witness_LanesAreIndependent :
    (bitAt (0 : BitVec 3) 2 = false ∧ bitAt (3 : BitVec 3) 2 = false) ∧ (1 : RegNo) ≠ 0 ∧ s0.cfg.stackBounds = none ∧
    StoreWf 0 s0.xs := by decide
theorem witness_OneSourceResults : (!bitAt (3 : BitVec 3) 2) = true ∧ (!bitAt (4 : BitVec 3) 2) = false := by decide
/-- Overflow of 2^63 - 1 + 1 and of -2^63 - 1, with the enable clear and set, with either answer of the stack check. -/
theorem witness_ArithmeticConditionsAreNotedAndRaised :
    (addOverflow 0x7FFFFFFFFFFFFFFF 1 = true ∧ (0x7FFFFFFFFFFFFFFF : Word).toInt + (1 : Word).toInt = 2 ^ 63 ∧
      addOverflow 0x7FFFFFFFFFFFFFFE 1 = false) ∧
    (subOverflow 0x8000000000000000 1 = true ∧ subOverflow 0x8000000000000001 1 = false) ∧
    (mulOverflow 64 0x4000000000000000 2 = true ∧ mulOverflow 64 0xC000000000000000 2 = false) ∧
    (anyLane 4 divisorZero 0 0x0101010101010100 = true ∧ anyLane 7 divisorZero 0 1 = false) ∧
    bitAt s0.csr.aec 0 = false ∧ bitAt (AEC 0x1F s0).csr.aec 4 = true ∧ stackFault s0 s0.rs 31 1 = false ∧
    stackFault sB sB.rs 31 1 = true := by decide
theorem witness_QuotientAndRemainderAgree :
    (31 : RegNo) ≠ 0 ∧ s0.cfg.stackBounds = none ∧ StoreWf 0 (X 2 3 s0).xs ∧ (X 2 3 s0).x 2 ≠ 0 ∧
    immS (.short (-1)) ≠ 0 := by decide
theorem witness_DecimalMatrixAndRuntimeResults :
    ((field (0x99 : Word) 4 4).toNat ≤ 9 ∧ (field (0x99 : Word) 0 4).toNat ≤ 9) ∧ s0.cfg.stackBounds = none ∧
    stackFault s0 s0.rs 31 0x18 = false ∧
    (field (0x13886102 : Word) 0 8 = (0x02 : BitVec 8) ∧ field (0x13886102 : Word) 26 6 = (0x04 : BitVec 6)) ∧
    (field (0x17886102 : Word) 26 6 = (0x05 : BitVec 6) ∧ field (0x23886102 : Word) 26 6 = (0x08 : BitVec 6) ∧
      field (0x27886102 : Word) 26 6 = (0x09 : BitVec 6) ∧ field (0x2B886102 : Word) 26 6 = (0x0A : BitVec 6)) ∧
    (field (0x00806102 : Word) 26 6 = (0x00 : BitVec 6) ∧ field (0x00806102 : Word) 23 3 = (1 : BitVec 3)) ∧
    (field (0xBE886102 : Word) 26 6 = (0x2F : BitVec 6) ∧ field (0xBE886102 : Word) 23 3 = (5 : BitVec 3)) ∧
    (field (0x0D886102 : Word) 26 6 = (0x03 : BitVec 6) ∧ field (0x0D886102 : Word) 23 2 = (3 : BitVec 2)) ∧
    (field (0x2C0000886142 : Word) 0 8 = (0x42 : BitVec 8) ∧ field (0x2C0000886142 : Word) 42 6 = (0x0B : BitVec 6)) ∧
    (field (0xFFFC2204 : Word) 0 6 = (0x04 : BitVec 6) ∧ field (0xFFFC2204 : Word) 7 1 = (0 : BitVec 1)) ∧
    (field (0x0000FFFC2262 : Word) 7 1 = (0 : BitVec 1) ∧ field (0x0000FFFC2262 : Word) 0 6 = (0x22 : BitVec 6)) := by
  decide
/-- Words that RTOP refuses: one source, a shift by a constant, three sources, a 48-bit shift, no ALU word, compressed. -/
theorem witness_RtopReserved :
    [(0x07806102 : Word), 0x3C806102, 0x100000886142, 0x3C0000886142, 0x00502220, 0x8080].all
      (fun w => (rtopFn w 7).isNone) = true := by decide +kernel
theorem witness_MoveAndBoundsCheck :
    s0.cfg.stackBounds = none ∧ ((0 : Word).toInt ≤ (99 : Word).toInt ∧ (99 : Word).toInt < (100 : Word).toInt) ∧
    ¬((0 : Word).toInt ≤ (100 : Word).toInt ∧ (100 : Word).toInt < (100 : Word).toInt) ∧
    ¬((0 : Word).toInt ≤ (-1 : Word).toInt ∧ (-1 : Word).toInt < (100 : Word).toInt) := by decide
theorem witness_ShiftResults :
    aslOverflow 0x4000000000000000 1 = true ∧ aslOverflow 0xC000000000000000 1 = false ∧ aslOverflow 1 63 = true ∧
    bitAt s0.csr.aec 2 = false ∧ bitAt (AEC 4 s0).csr.aec 2 = true := by decide
theorem witness_ShiftWithSecondOperation :
    ((0x04 : BitVec 6).toNat, fun _ t c => t + c) ∈ secondOps ∧
    ((0x3D : BitVec 6).toNat, fun _ t _ => t) ∈ secondOps ∧ (0x3F : BitVec 6).toNat ∉ secondOps.map Prod.fst := by
  refine ⟨by simp [secondOps], by simp [secondOps], by decide⟩
theorem witness_BranchesGoOrFallThrough :
    (s0.x 1 == s0.x 2) = true ∧ ((X 1 5 s0).x 1 == s0.x 2) = false ∧ (1 : BitVec 11) ≠ 0 ∧ s0.cfg.numFpu ≠ 0 ∧
    noFpu.cfg.numFpu = 0 := by decide
theorem witness_TakenBranchToItselfRaisesBd :
    s0.cfg.numFpu ≠ 0 ∧ (s0.x 1 == s0.x 2) = true ∧ ((X 1 5 s0).x 1 == s0.x 2) = false := by decide
/-- For FpArithmeticWritesResultAndStatus and the other floating-point forms: a condition that is
enabled, one that is not, a precision the core has and lacks. -/
theorem witness_FloatForms :
    (s0.cfg.numFpu ≠ 0 ∧ noFpu.cfg.numFpu = 0 ∧ formOk s0 (.long 2 0) = true ∧ formOk s0 (.long 1 0) = false) ∧
    (fpDiv (fpEnv s0 0) 0x3FF0000000000000 0).exc &&& field s0.csr.fstat 24 5 = 0 ∧
    (fpDiv (fpEnv s0 0) 0x3FF0000000000000 0).exc &&& field (FST 0x108000000 s0).csr.fstat 24 5 ≠ 0 ∧
    stackFault sB sB.fps 31 (fpDiv (fpEnv s0 0) 0x3FF0000000000000 0).bits = true ∧
    stackFault s0 s0.fps 31 (fpDiv (fpEnv s0 0) 0x3FF0000000000000 0).bits = false := by decide +kernel
/-- A comparison whose condition is enabled, and one whose condition is not. -/
theorem witness_FpComparesAndMoves :
    (fpOrderedCmp 0x7FF8000000000000 0 0).exc &&& field (FST 0x101000000 s0).csr.fstat 24 5 ≠ 0 ∧
    (fpOrderedCmp 0x7FF8000000000000 0 0).exc &&& field s0.csr.fstat 24 5 = 0 ∧ stackFault sB sB.rs 31 1 = true ∧
    stackFault s0 s0.rs 31 1 = false := by decide +kernel
theorem witness_FpFlagInstructions :
    noFpu.cfg.numFpu = 0 ∧ s0.cfg.numFpu ≠ 0 ∧ field (0x3F : BitVec 6) 0 5 &&& field s0.csr.fstat 24 5 = 0 ∧
    field (0x01 : BitVec 6) 0 5 &&& field (FST 0x101000000 s0).csr.fstat 24 5 ≠ 0 := by decide
theorem witness_IntegerSurvivesFloatRoundTrip :
    (0x0020000000000000 : Word).toInt.natAbs ≤ 2 ^ 53 ∧ (0xFFE0000000000000 : Word).toInt.natAbs ≤ 2 ^ 53 ∧
    (0 : Word).toInt.natAbs ≤ 2 ^ 53 := by decide
theorem witness_FloatAdditionCommutes : s0.cfg.fpNanResult = .canonical := by decide
/-- For VectorElementwiseResults, VectorFloatResults and the other vector forms: the unit there
and missing, v0 allowed and reserved, canonical vector registers, a mask. -/
theorem witness_VectorForms :
    vecReady vecState true [1, 2, 3] = true ∧ vecReady noVec true [1, 2, 3] = false ∧ vecReady s0 false [1] = false ∧
    vecReady (CFG (fun c => { c with v0Ordinary := false }) s0) true [0] = false ∧ StoreWf 0 vecState.v ∧
    field vecState.csr.fstat 24 5 = 0 ∧ enabled vecState 1 2 = true ∧ enabled vecState 1 1 = false ∧
    enabled vecState 1 3 = false := by decide
theorem witness_VectorComparesSetMaskBits :
    vecReady vecState (true && (5 : BitVec 3) != 6) [1, 2] = true ∧
    vecReady vecState (true && (6 : BitVec 3) != 6) [1, 2] = false ∧ field vecState.csr.fstat 24 5 = 0 := by decide
theorem witness_VectorPackScanAndExchange :
    StoreWf 0 vecState.v ∧ vecReady vecState true [3] = true ∧ vecState.cfg.stackBounds = none ∧
    vecReady noVec true [3] = false := by decide
theorem witness_VectorMaskAndControlInstructions :
    s0.cfg.supVector = true ∧ noVec.cfg.supVector = false ∧ (7 : RegNo).toNat < 8 ∧ 8 ≤ (8 : RegNo).toNat ∧
    (14 : RegNo) ≠ 15 ∧ (s0.cfg.supVector && (decide ((14 : RegNo).toNat < 8) || (14 : RegNo) == 15)) = false ∧
    (s0.cfg.supVector && (decide ((15 : RegNo).toNat < 8) || (15 : RegNo) == 15)) = true := by decide
theorem witness_VectorLoadsAndStores :
    vecReady vecState true [1] = true ∧ StoreWf 0 vecState.v ∧
    ∀ e, enabled vecState 0 e = true → AccessOk vecState (0x1000 + BitVec.ofNat 64 (8 * e)) 8 .read ∧
      AccessOk vecState (0x1000 + BitVec.ofNat 64 (8 * e)) 8 .write := by
  have each : ∀ e < 3, AccessOk vecState (0x1000 + BitVec.ofNat 64 (8 * e)) 8 .read ∧
      AccessOk vecState (0x1000 + BitVec.ofNat 64 (8 * e)) 8 .write := by
    unfold AccessOk
    decide +kernel
  refine ⟨by decide, by decide, fun e h => each e ?_⟩
  have lt : e < min vecState.vl.toNat 63 := by
    simp only [enabled, Bool.and_eq_true, decide_eq_true_eq] at h
    exact h.1
  have three : vecState.vl.toNat = 3 := by decide
  omega


end Sys2Proof.Tests
end

/-! What an instruction can do, said once. `Reaches s t`: the parts of an instruction that is run in s have reached t;
each constructor is one of the model's own updates. `Ends i s t`: instruction i, run in s, answers the next state t.
`exec_ends` says it of every instruction; an invariant is then an induction over these two. -/

namespace Sys2Proof.Machine

/-! ## The updates of an instruction -/

/-- The states that the parts of an instruction can reach from s, before the instruction ends: a register write is to
the current set or to the floating-point set (10_state R22, R30). -/
inductive Reaches (s : State) : State → Prop
  | start : Reaches s s
  | reg {t : State} {q : BitVec 6} (r : RegNo) (v : Word) (h : Reaches s t) (hq : q = t.rs ∨ q = t.fps) :
      Reaches s (t.setReg q r v)
  | vec {t : State} (r : RegNo) (e : Nat) (w : Word) (h : Reaches s t) : Reaches s (t.setVec r e w)
  | mask {t : State} (k : BitVec 3) (w : Word) (h : Reaches s t) : Reaches s (t.setMask k w)
  | access {t u : State} {ea : Word} {n pa : Nat} {k : AccessKind} (h : Reaches s t)
      (ha : dataAccess ea n k t = .ok pa u) : Reaches s u
  | accessFault {t u : State} {ea : Word} {n : Nat} {k : AccessKind} {c : BitVec 8} (h : Reaches s t)
      (ha : dataAccess ea n k t = .exc c u) : Reaches s u
  | commit {t : State} (n pa v : Nat) (h : Reaches s t) : Reaches s (memCommit n pa v t)
  | reserve {t : State} (ea : Word) (pa : Nat) (h : Reaches s t) : Reaches s (reserveWord ea pa t)
  | endReservation {t : State} (ok : Bool) (h : Reaches s t) : Reaches s (endReservation ok t)
  | compareValue {t : State} (w : Word) (h : Reaches s t) : Reaches s { t with csr := { t.csr with cas := w } }
  | aec {t : State} (k : Nat) (h : Reaches s t) : Reaches s (noteAec k t)
  | fstat {t : State} {w : Word} (h : Reaches s t) (hw : (field w 32 6 : BitVec 6) = field t.csr.fstat 32 6) :
      Reaches s (t.withFstat w)
  | interruptMask {t : State} (w : BitVec 4) (h : Reaches s t) : Reaches s (t.setIm w)
  | writeBarrier {t : State} (w : Word) (h : Reaches s t) : Reaches s { t with csr := { t.csr with wbrcd := w } }
  | tlb {t : State} (cmd tn : BitVec 4) (v : Word) (h : Reaches s t) :
      Reaches s { t with tlb := tlbCommand cmd tn v t.freeIdx t.tlb }
  | tag {t : State} (k : Nat) (b : Bool) (h : Reaches s t) :
      Reaches s { t with tagEnable := storeSet false t.tagEnable k b }
  | chain {t : State} (b : Bool) (h : Reaches s t) : Reaches s { t with vchain := b }
  | dataCache {t : State} (b : Bool) (h : Reaches s t) : Reaches s { t with dcacheEnabled := b }
  | instrCache {t : State} (h : Reaches s t) : Reaches s { t with icacheStale := [] }

/-- The next states that instruction i can answer in s. -/
inductive Ends (i : Instr) (s : State) : State → Prop
  | goesTo {t : State} (p : Word) (h : Reaches s t) : Ends i s (t.setPc p)
  | traps {t : State} (c : BitVec 8) (u : BitVec 6) (il : BitVec 4) (ret : Word) (e : Event) (h : Reaches s t) :
      Ends i s { trapEnter c u il ret (noteInstr t) with event := e }
  | returns (b : BitVec 6) (hol : s.ol ≠ 3) : Ends i s (trapReturn (rtiClear b s))
  | stalls : Ends i s { s with event := .stalled }
  | writesCsr (ol : BitVec 2) (n : Nat) (v : Word) (rt : RegNo) (old : Word) (hol : ol.ult s.ol = false) :
      Ends i s ({ s with csr := csrWrite s.csr ol.toNat n v }.setReg s.rs rt old).advance
  | redirects (im : BitVec 4) (pl : BitVec 8) (tgt : BitVec 2) (ra : RegNo) (w p : Word)
      (hok : rexOk s pl tgt ra = true) :
      Ends i s { s.setIm im with
        csr := { copyCause (s.setIm im).csr s.ol.toNat tgt.toNat with status := w }, pc := p }
  | setsVl (l : BitVec 7) (hl : l.toNat ≤ 63) : Ends i s { s with vl := l }.advance
  | handsOn (n : BitVec 6) (hi : i = .execBuf n) (b : Word) : Ends i s { s with pending := some b }
  | moves (d : BitVec 3) (q : BitVec 6) (rt ra : RegNo) (hi : i = .mov d q rt ra) (set : BitVec 6) (v : Word) :
      Ends i s (s.setReg set rt v).advance

/-- A property that the next state of an outcome has, if it answers one. -/
def Answers (P : State → Prop) (o : Outcome) : Prop := ∀ t, o = .next t → P t

theorem answers_next {P : State → Prop} {s : State} (h : P s) : Answers P (.next s) := by
  rintro _ ⟨⟩
  exact h

theorem answers_fault {P : State → Prop} {x : Fault} : Answers P (.fault x) := nomatch x

theorem answers_refused {P : State → Prop} {r : Refusal} : Answers P (.refused r) := by simp [Answers]

/-- The next state of an outcome is one that i can answer in s. -/
abbrev EndsAt (i : Instr) (s : State) (o : Outcome) : Prop := Answers (Ends i s) o

/-- A two-source function reaches only such states. -/
def AluReaches (f : AluFn) : Prop := ∀ (a b : Word) (s : State), (f a b s).Keeps (Reaches s)

/-! ## The register set number in FSTAT: no floating-point instruction changes it (10_state R30, R57) -/

/-- A bit of a word whose field at bit lo is replaced. -/
theorem getLsbD_setField {m n : Nat} (w : BitVec m) (lo : Nat) (v : BitVec n) (i : Nat) (hi : i < m) :
    (setField w lo v).getLsbD i = if lo ≤ i ∧ i < lo + n then v.getLsbD (i - lo) else w.getLsbD i := by
  simp only [setField, fieldMask, BitVec.getLsbD_or, BitVec.getLsbD_and, BitVec.getLsbD_not, BitVec.getLsbD_shiftLeft,
    BitVec.getLsbD_setWidth, BitVec.getLsbD_allOnes, hi, show i - lo < m by omega]
  by_cases below : i < lo
  · simp [below, show ¬ lo ≤ i by omega]
  · by_cases above : i - lo < n
    · simp [below, above, show lo ≤ i ∧ i < lo + n by omega]
    · simp [below, above, show ¬ (lo ≤ i ∧ i < lo + n) by omega, BitVec.getLsbD_of_ge v (i - lo) (by omega)]

/-- Bits outside a field that is replaced. -/
theorem field_setField_of_disjoint {m n : Nat} (w : BitVec m) (lo : Nat) (v : BitVec n) (k l : Nat)
    (h : k + l ≤ lo ∨ lo + n ≤ k) : (field (setField w lo v) k l : BitVec l) = field w k l := by
  apply BitVec.eq_of_getLsbD_eq
  intro i hi
  simp only [field, BitVec.getLsbD_extractLsb']
  by_cases inside : k + i < m
  · rw [getLsbD_setField _ _ _ _ inside, if_neg (by omega)]
  · rw [BitVec.getLsbD_of_ge _ _ (by omega), BitVec.getLsbD_of_ge w _ (by omega)]

section fstat

variable (w : Word) (m : BitVec 6)

@[simp] theorem fstatGx_rgs : (field (fstatGx w) 32 6 : BitVec 6) = field w 32 6 :=
  field_setField_of_disjoint _ _ _ _ _ (.inr (by decide))

@[simp] theorem fstatNote_rgs (exc : BitVec 5) (types : BitVec 8) :
    (field (fstatNote w exc types) 32 6 : BitVec 6) = field w 32 6 := by
  unfold fstatNote
  dsimp only
  split <;> simp [setBitAt, field_setField_of_disjoint]

@[simp] theorem fstatTrigger_rgs : (field (fstatTrigger w m) 32 6 : BitVec 6) = field w 32 6 := by
  unfold fstatTrigger
  dsimp only
  split <;> simp [setBitAt, field_setField_of_disjoint]

@[simp] theorem fstatClear_rgs : (field (fstatClear w m) 32 6 : BitVec 6) = field w 32 6 := by
  unfold fstatClear
  dsimp only
  split <;> split <;> simp [setBitAt, field_setField_of_disjoint]

@[simp] theorem fstatEnable_rgs : (field (fstatEnable w m) 32 6 : BitVec 6) = field w 32 6 := by
  simp [fstatEnable, field_setField_of_disjoint]

@[simp] theorem fstatDisable_rgs : (field (fstatDisable w m) 32 6 : BitVec 6) = field w 32 6 := by
  simp [fstatDisable, field_setField_of_disjoint]

end fstat

/-! ## Parts of an instruction -/

section parts

variable {s t : State}

theorem keeps_putReg {q : BitVec 6} {r : RegNo} {v : Word} (h : Reaches s t) (hq : q = t.rs ∨ q = t.fps) :
    (putReg q r v t).Keeps (Reaches s) := by
  unfold putReg
  split
  · exact .of_exc h
  · exact .of_ok (h.reg r v hq)

theorem keeps_putX {r : RegNo} {v : Word} (h : Reaches s t) : (putX r v t).Keeps (Reaches s) :=
  keeps_putReg h (.inl rfl)

theorem keeps_putF {r : RegNo} {v : Word} (h : Reaches s t) : (putF r v t).Keeps (Reaches s) :=
  keeps_putReg h (.inr rfl)

theorem keeps_guardX {r : RegNo} {v : Word} (h : Reaches s t) : (guardX r v t).Keeps (Reaches s) := by
  unfold guardX
  split
  · exact .of_exc h
  · exact .of_ok h

theorem keeps_reservedPart (h : Reaches s t) : (reservedPart t).Keeps (Reaches s) := by
  unfold reservedPart
  split
  · exact .of_exc h
  · exact .of_ok h

theorem keeps_dataAccess {ea : Word} {n : Nat} {k : AccessKind} (h : Reaches s t) :
    (dataAccess ea n k t).Keeps (Reaches s) :=
  ⟨fun _ _ ha => h.access ha, fun _ _ ha => h.accessFault ha⟩

theorem keeps_memRead {ea : Word} {n : Nat} (h : Reaches s t) : (memRead ea n t).Keeps (Reaches s) :=
  (keeps_dataAccess h).andThen fun _ _ h1 => .of_ok h1

theorem keeps_memWrite {ea : Word} {n v : Nat} (h : Reaches s t) : (memWrite ea n v t).Keeps (Reaches s) :=
  (keeps_dataAccess h).andThen fun _ _ h1 => .of_ok (h1.commit _ _ _)

theorem keeps_commitWithX {n pa v : Nat} {rt : RegNo} {r : Word} (h : Reaches s t) :
    (commitWithX n pa v rt r t).Keeps (Reaches s) :=
  (keeps_guardX h).andThen fun _ _ h1 => .of_ok ((h1.commit _ _ _).reg _ _ (.inl rfl))

theorem keeps_checkAec {k e : Nat} {c : BitVec 8} {b : Bool} (h : Reaches s t) :
    (checkAec k e c b t).Keeps (Reaches s) := by
  unfold checkAec
  split
  · split
    · exact .of_exc (h.aec k)
    · exact .of_ok (h.aec k)
  · exact .of_ok h

theorem keeps_withAec {k e : Nat} {c : BitVec 8} {b : Bool} {v : Word} (h : Reaches s t) :
    (withAec k e c b v t).Keeps (Reaches s) :=
  (keeps_checkAec h).andThen fun _ _ h1 => .of_ok h1

theorem keeps_fpFlags {r : FpResult} (h : Reaches s t) : (fpFlags r t).Keeps (Reaches s) := by
  have noted := h.fstat (fstatNote_rgs t.csr.fstat r.exc r.types)
  unfold fpFlags
  dsimp only
  split
  · exact .of_ok noted
  · exact .of_exc noted

theorem reaches_fpStatus {b : BitVec 7} (h : Reaches s t) : Reaches s (fpStatus b t) :=
  h.fstat (field_setField_of_disjoint _ _ _ _ _ (.inr (by decide)))

theorem keeps_fpFinish {status : FpResult → BitVec 7} {put : Word → State → Res Unit} {r : FpResult}
    (h : Reaches s t) (hput : ∀ v u, Reaches s u → (put v u).Keeps (Reaches s)) :
    (fpFinish status put r t).Keeps (Reaches s) :=
  (keeps_fpFlags h).andThen fun _ _ h1 => (hput _ _ h1).andThen fun _ _ h2 => .of_ok (reaches_fpStatus h2)

/-- The element loop reaches only such states if the element operation does. -/
theorem keeps_vecEach {m : BitVec 3} {f : Nat → State → Res Unit}
    (hf : ∀ e u, Reaches s u → (f e u).Keeps (Reaches s)) : (vecEach m f s).Keeps (Reaches s) :=
  vecLoop_keeps _ f hf _ _ _ .start

theorem reaches_vecPack {mk : Word} {vt : RegNo} {f : Nat → Word} :
    ∀ (n e y : Nat) (t : State), Reaches s t → Reaches s (vecPack mk vt f n e y t)
  | 0, _, _, _, h => h
  | n + 1, e, y, t, h => by
    unfold vecPack
    split
    · exact reaches_vecPack n _ _ _ (h.vec _ _ _)
    · exact reaches_vecPack n _ _ _ h

theorem reaches_vecScan {mk : Word} {vt : RegNo} {v : Word} :
    ∀ (n e : Nat) (sum : Word) (t : State), Reaches s t → Reaches s (vecScan mk vt v n e sum t)
  | 0, _, _, _, h => h
  | n + 1, _, _, _, h => reaches_vecScan n _ _ _ (h.vec _ _ _)

end parts

/-! ## Two-source functions -/

theorem aluReaches_pureFn (f : Word → Word → Word) : AluReaches (pureFn f) := fun _ _ _ => .of_ok .start

theorem aluReaches_sized (sz : BitVec 3) (f : LaneFn2) : AluReaches (sized sz f) := aluReaches_pureFn _

theorem aluReaches_fnAddv : AluReaches fnAddv := fun _ _ _ => keeps_withAec .start

theorem aluReaches_fnSubv : AluReaches fnSubv := fun _ _ _ => keeps_withAec .start

theorem aluReaches_fnPtrdif (sc : BitVec 3) : AluReaches (fnPtrdif sc) := aluReaches_pureFn _

theorem aluReaches_fnBmm (x t : Bool) : AluReaches (fnBmm x t) := aluReaches_pureFn _

theorem aluReaches_bcdOp (n : Nat) (f : Nat → Nat → Nat) : AluReaches (bcdOp n f) := fun a b s => by
  unfold bcdOp
  split <;> exact .of_ok .start

theorem aluReaches_fnMul (sz : BitVec 3) : AluReaches (fnMul sz) := fun _ _ _ => keeps_withAec .start

theorem aluReaches_fnMulf : AluReaches fnMulf := aluReaches_pureFn _

theorem aluReaches_divChecked (sz : BitVec 3) (f : DivZero → LaneFn2) : AluReaches (divChecked sz f) :=
  fun _ _ _ => keeps_withAec .start

theorem aluReaches_divQuiet (sz : BitVec 3) (f : DivZero → LaneFn2) : AluReaches (divQuiet sz f) :=
  fun _ _ _ => .of_ok .start

theorem keeps_shiftWord {k : ShiftKind} {a : Word} {n : Nat} {s : State} :
    (shiftWord k a n s).Keeps (Reaches s) := keeps_withAec .start

theorem aluReaches_fnShift (k : ShiftKind) : AluReaches (fnShift k) := fun _ _ _ => keeps_shiftWord

theorem keeps_shiftSized {k : ShiftKind} {sz : BitVec 3} {a : Word} {n : Nat} {s : State} :
    (shiftSized k sz a n s).Keeps (Reaches s) := by
  unfold shiftSized
  split
  case h_4 => exact keeps_shiftWord
  case h_5 => exact keeps_shiftWord
  all_goals exact .of_ok .start

theorem aluReaches_rtopBcd (f3 : Nat) : ∀ f ∈ rtopBcd f3, AluReaches f := by
  unfold rtopBcd
  split <;> simp [fnBcdadd, fnBcdsub, fnBcdmul, aluReaches_bcdOp]

theorem aluReaches_rtopShift (f3 : Nat) : ∀ f ∈ rtopShift f3, AluReaches f := by
  unfold rtopShift
  split <;> simp [aluReaches_fnShift]

/-- The function RTOP takes from a register-register word. -/
theorem aluReaches_rtopRR (f6 f3 : Nat) (sz : BitVec 3) : ∀ f ∈ rtopRR f6 f3 sz, AluReaches f := by
  unfold rtopRR
  split
  case h_1 => exact aluReaches_rtopBcd _
  case h_27 => exact aluReaches_rtopShift _
  all_goals
    simp [rtopBmm, aluReaches_sized, aluReaches_fnAddv, aluReaches_fnBmm, aluReaches_fnPtrdif, aluReaches_fnMul,
      aluReaches_fnMulf, aluReaches_divChecked, aluReaches_divQuiet]

/-- The function RTOP takes from an immediate-form word. -/
theorem aluReaches_rtopImm (op : Nat) (sz : BitVec 3) : ∀ f ∈ rtopImm op sz, AluReaches f := by
  unfold rtopImm
  split <;>
    simp [aluReaches_sized, aluReaches_fnMul, aluReaches_fnMulf, aluReaches_divChecked, aluReaches_divQuiet]

/-- The function RTOP takes from a long word. -/
theorem aluReaches_rtopLong (f6 : Nat) : ∀ f ∈ rtopLong f6, AluReaches f := by
  unfold rtopLong
  split <;> simp [aluReaches_fnAddv, aluReaches_fnSubv]

/-- Every function that RTOP can pass on. -/
theorem aluReaches_rtopFn (j : Word) (sz : BitVec 3) : ∀ f ∈ rtopFn j sz, AluReaches f := by
  unfold rtopFn
  dsimp only
  split
  · split
    · exact aluReaches_rtopRR _ _ _
    · exact aluReaches_rtopImm _ _
  · split
    · exact aluReaches_rtopLong _
    · exact aluReaches_rtopImm _ _
  · simp

/-! ## Endings of an instruction -/

section endings

variable {i : Instr} {s t : State}

theorem endsAt_goesTo {p : Word} (h : Reaches s t) : EndsAt i s (.next (t.setPc p)) := by
  rintro _ ⟨⟩
  exact .goesTo p h

theorem endsAt_advance (h : Reaches s t) : EndsAt i s (.next t.advance) := endsAt_goesTo h

theorem ends_raise {c : BitVec 8} (h : Reaches s t) : Ends i s (raise c t) := .traps c 0 0 t.pc .raised h

theorem endsAt_raise {c : BitVec 8} (h : Reaches s t) : EndsAt i s (.next (raise c t)) := by
  rintro _ ⟨⟩
  exact ends_raise h

theorem endsAt_retire {m : Res Unit} (h : m.Keeps (Reaches s)) : EndsAt i s m.retire := fun u hu => by
  obtain ⟨t, ht, rfl⟩ | ⟨c, t, ht, rfl⟩ := Res.retire_eq_next.1 hu
  · exact .goesTo _ (h.1 _ _ ht)
  · exact ends_raise (h.2 _ _ ht)

theorem endsAt_retireTo {m : Res Word} (h : m.Keeps (Reaches s)) : EndsAt i s m.retireTo := fun u hu => by
  obtain ⟨p, t, ht, rfl⟩ | ⟨c, t, ht, rfl⟩ := Res.retireTo_eq_next.1 hu
  · exact .goesTo _ (h.1 _ _ ht)
  · exact ends_raise (h.2 _ _ ht)

theorem endsAt_reserved : EndsAt i s (reserved s) := endsAt_retire (keeps_reservedPart .start)

theorem endsAt_writeX {rt : RegNo} {v : Word} : EndsAt i s (writeX rt v s) := endsAt_retire (keeps_putX .start)

theorem endsAt_finishX {rt : RegNo} {m : Res Word} (h : m.Keeps (Reaches s)) : EndsAt i s (finishX rt m) :=
  endsAt_retire (h.andThen fun _ _ h1 => keeps_putX h1)

theorem endsAt_aluReg {f : AluFn} {rt ra rb : RegNo} (hf : AluReaches f) : EndsAt i s (aluReg f rt ra rb s) :=
  endsAt_finishX (hf _ _ _)

theorem endsAt_aluImm {f : AluFn} {rt ra : RegNo} {imm : Imm} (hf : AluReaches f) :
    EndsAt i s (aluImm f rt ra imm s) :=
  endsAt_finishX (hf _ _ _)

theorem endsAt_rtop {rt ra rb rc : RegNo} {sz : BitVec 3} : EndsAt i s (execRtop rt ra rb rc sz s) := by
  unfold execRtop
  split
  case h_1 => exact endsAt_reserved
  case h_2 f hf => exact endsAt_aluReg (aluReaches_rtopFn _ _ f hf)

theorem endsAt_xorOp {op2 : BitVec 6} {sz : BitVec 3} {rt ra rb rc : RegNo} :
    EndsAt i s (execXorOp op2 sz rt ra rb rc s) := by
  unfold execXorOp
  split
  · exact endsAt_reserved
  · exact endsAt_writeX

theorem endsAt_countOp {f : Word → Nat → Nat} {rt ra : RegNo} {sz : BitVec 3} :
    EndsAt i s (countOp f rt ra sz s) := by
  unfold countOp
  split
  · exact endsAt_reserved
  · exact endsAt_writeX

theorem endsAt_checkBounds {v lo hi : Word} : EndsAt i s (checkBounds v lo hi s) := by
  refine endsAt_retire ?_
  split
  · exact .of_ok .start
  · exact .of_exc .start

theorem endsAt_shiftImm {k : ShiftKind} {rt ra : RegNo} {n : BitVec 6} : EndsAt i s (shiftImm k rt ra n s) :=
  endsAt_finishX keeps_shiftWord

theorem endsAt_shiftOp {k : ShiftKind} {op2 : BitVec 6} {sz : BitVec 3} {n : ShiftCount} {rt ra rc : RegNo} :
    EndsAt i s (shiftOp k op2 sz n rt ra rc s) := by
  unfold shiftOp
  split
  · exact endsAt_reserved
  · exact endsAt_finishX (keeps_shiftSized.andThen fun _ _ h => .of_ok h)

/-! Memory -/

theorem endsAt_loadSigned {n : Nat} {rt : RegNo} {ea : Word} : EndsAt i s (loadSigned n rt ea s) :=
  endsAt_retire ((keeps_memRead .start).andThen fun _ _ h => keeps_putX h)

theorem endsAt_loadZero {n : Nat} {rt : RegNo} {ea : Word} : EndsAt i s (loadZero n rt ea s) :=
  endsAt_retire ((keeps_memRead .start).andThen fun _ _ h => keeps_putX h)

theorem endsAt_loadFloat {n : Nat} {rt : RegNo} {ea : Word} : EndsAt i s (loadFloat n rt ea s) :=
  endsAt_retire ((keeps_memRead .start).andThen fun _ _ h => keeps_putF h)

theorem endsAt_storeWord {n : Nat} {v ea : Word} : EndsAt i s (storeWord n v ea s) :=
  endsAt_retire (keeps_memWrite .start)

theorem endsAt_pushTo {v : Word} {rt ra : RegNo} : EndsAt i s (pushTo v rt ra s) :=
  endsAt_retire ((keeps_dataAccess .start).andThen fun _ _ h => keeps_commitWithX h)

theorem endsAt_incAt {ea : Word} {amt : BitVec 5} : EndsAt i s (incAt ea amt s) :=
  endsAt_retire ((keeps_memRead .start).andThen fun _ _ h => keeps_memWrite h)

theorem endsAt_loadReserved {rt : RegNo} {ea : Word} : EndsAt i s (loadReserved rt ea s) :=
  endsAt_retire ((keeps_dataAccess .start).andThen fun _ _ h =>
    (keeps_putX h).andThen fun _ _ h1 => .of_ok (h1.reserve _ _))

theorem endsAt_storeConditional {v ea : Word} : EndsAt i s (storeConditional v ea s) :=
  endsAt_retire ((keeps_dataAccess .start).andThen fun pa u h => by
    split
    · exact .of_ok ((h.commit _ _ _).endReservation _)
    · exact .of_ok (h.endReservation _))

theorem endsAt_compareSwap {rt : RegNo} {ea : Word} : EndsAt i s (compareSwap rt ea s) :=
  endsAt_retire ((keeps_memRead .start).andThen fun m u h => by
    split
    · exact (keeps_dataAccess h).andThen fun _ _ h1 => keeps_commitWithX h1
    · exact (keeps_guardX h).andThen fun _ _ h1 => .of_ok ((h1.compareValue _).reg _ _ (.inl rfl)))

theorem endsAt_amo {f : AmoFn} {rt ra : RegNo} {b : Word} {sz : BitVec 3} : EndsAt i s (amo f rt ra b sz s) := by
  unfold amo
  split
  · exact endsAt_reserved
  · exact endsAt_retire ((keeps_memRead .start).andThen fun _ _ h =>
      (keeps_dataAccess h).andThen fun _ _ h1 => keeps_commitWithX h1)

/-! Flow -/

/-- A branch reaches nothing: it gives an address, or raises BD at itself. -/
theorem keeps_target {taken : Bool} {itself : Prop} [Decidable itself] {c : BitVec 8} {p q : Word} :
    (if taken then (if itself then Res.exc c s else .ok p s) else .ok q s).Keeps (Reaches s) := by
  split
  · split
    · exact .of_exc .start
    · exact .of_ok .start
  · exact .of_ok .start

theorem endsAt_branch {taken : Bool} {disp : BitVec 11} : EndsAt i s (branch taken disp s) :=
  endsAt_retireTo keeps_target

theorem endsAt_shortBranch {n : Nat} {taken : Bool} {d : BitVec n} : EndsAt i s (shortBranch taken d s) :=
  endsAt_retireTo keeps_target

theorem endsAt_linkTo {rt : RegNo} {v p : Word} : EndsAt i s (linkTo rt v p s) :=
  endsAt_retireTo ((keeps_putX .start).andThen fun _ _ h => .of_ok h)

/-! Floating point -/

theorem endsAt_fpInstr {ok : Bool} {m : Outcome} (h : EndsAt i s m) : EndsAt i s (fpInstr ok s m) := by
  unfold fpInstr
  split
  · exact endsAt_reserved
  · split
    · exact h
    · exact endsAt_reserved

theorem endsAt_fpBranch {cond : Word → Word → Bool} {ra rb : RegNo} {disp : BitVec 11} :
    EndsAt i s (fpBranch cond ra rb disp s) :=
  endsAt_fpInstr endsAt_branch

theorem endsAt_fpArith {op : FpEnv → Word → Word → FpResult} {rt ra rb : RegNo} {f : FpForm} :
    EndsAt i s (fpArith op rt ra rb f s) :=
  endsAt_fpInstr (endsAt_retire (keeps_fpFinish .start fun _ _ h => keeps_putF h))

theorem endsAt_fpUnary {status : FpResult → BitVec 7} {op : FpEnv → Word → FpResult} {rt : RegNo} {v : Word}
    {prc : BitVec 4} {rm : BitVec 3} : EndsAt i s (fpUnary status op rt v prc rm s) :=
  endsAt_fpInstr (endsAt_retire (keeps_fpFinish .start fun _ _ h => keeps_putF h))

theorem endsAt_fpCompare {op : Word → Word → FpResult} {rt ra rb : RegNo} {f : FpForm} :
    EndsAt i s (fpCompare op rt ra rb f s) :=
  endsAt_fpInstr (endsAt_retire ((keeps_fpFlags .start).andThen fun _ _ h => keeps_putX h))

theorem endsAt_fpMove {op : Word → Word} {rt ra : RegNo} {prc : BitVec 4} : EndsAt i s (fpMove op rt ra prc s) :=
  endsAt_fpInstr (endsAt_retire (keeps_putF .start))

/-- A flag instruction that goes on. -/
theorem endsAt_withFstat {ok : Bool} {w : Word} (hw : (field w 32 6 : BitVec 6) = field s.csr.fstat 32 6) :
    EndsAt i s (fpInstr ok s (.next (s.withFstat w).advance)) :=
  endsAt_fpInstr (endsAt_advance (.fstat .start hw))

theorem endsAt_triggerFp {m : BitVec 6} : EndsAt i s (triggerFp m s) := by
  have noted : Reaches s (s.withFstat (fstatTrigger s.csr.fstat m)) := .fstat .start (fstatTrigger_rgs _ _)
  unfold triggerFp
  split
  · exact endsAt_advance noted
  · rintro _ ⟨⟩
    exact .traps _ _ _ _ _ noted

/-! System -/

theorem endsAt_breakTo {c : BitVec 8} {u : BitVec 6} {skip : BitVec 5} {il : BitVec 4} :
    EndsAt i s (breakTo c u skip il s) := by
  rintro _ ⟨⟩
  exact .traps _ _ _ _ _ .start

theorem endsAt_poll : EndsAt i s (poll s) := by
  unfold poll
  split
  · rintro _ ⟨⟩
    exact .traps _ _ _ _ _ .start
  · exact endsAt_advance .start

theorem endsAt_brk {u : BitVec 6} {skip : BitVec 5} {lvl : BitVec 4} {c : BitVec 8} {long : Bool} :
    EndsAt i s (execBrk u skip lvl c long s) := by
  unfold execBrk
  split
  · exact endsAt_poll
  · exact endsAt_breakTo

/-- A CSR instruction answers what its access does; the level allows the access. -/
theorem endsAt_csrChecked {bits : Bool} {ol : BitVec 2} {n : BitVec 10} {access : Word → Outcome}
    (h : ∀ old, ol.ult s.ol = false → EndsAt i s (access old)) : EndsAt i s (csrChecked bits ol n s access) := by
  unfold csrChecked
  split
  · exact endsAt_reserved
  · split
    · exact endsAt_reserved
    · split
      · exact endsAt_raise .start
      case isFalse hol => exact h _ (by simpa using hol)

theorem endsAt_csrAccess {ol : BitVec 2} {n : Nat} {rt : RegNo} {old v : Word} (hol : ol.ult s.ol = false) :
    EndsAt i s (csrAccess ol.toNat n rt old v s) := by
  unfold csrAccess
  split
  · exact answers_refused
  · unfold guardX
    split
    · exact endsAt_raise .start
    · rintro _ ⟨⟩
      exact .writesCsr ol n v rt old hol

theorem endsAt_csrInstr {bits : Bool} {f : Word → Word} {ol : BitVec 2} {n : BitVec 10} {rt : RegNo} :
    EndsAt i s (csrInstr bits f ol n rt s) :=
  endsAt_csrChecked fun _ hol => endsAt_csrAccess hol

theorem endsAt_sei {rt ra : RegNo} {m : BitVec 4} : EndsAt i s (execSei rt ra m s) :=
  endsAt_retire ((keeps_putX .start).andThen fun _ _ h => .of_ok (h.interruptMask _))

theorem endsAt_wait {ra rb : RegNo} {imm : BitVec 5} : EndsAt i s (execWait ra rb imm s) := by
  unfold execWait
  split
  · exact endsAt_advance .start
  · rintro _ ⟨⟩
    exact .stalls

theorem endsAt_rex {im : BitVec 3} {pl : BitVec 8} {tgt : BitVec 2} {ra : RegNo} :
    EndsAt i s (execRex im pl tgt ra s) := by
  unfold execRex
  dsimp only
  split
  case isTrue hok =>
    rintro _ ⟨⟩
    exact .redirects (im.setWidth 4) pl tgt ra _ _ hok
  · exact endsAt_advance (.interruptMask _ .start)

theorem endsAt_rti {sema : BitVec 6} {ra : RegNo} : EndsAt i s (execRti sema ra s) := by
  unfold execRti
  split
  · exact endsAt_raise .start
  case isFalse hol =>
    rintro _ ⟨⟩
    exact .returns _ hol

theorem endsAt_tlb {cmd tn : BitVec 4} {rt ra : RegNo} : EndsAt i s (execTlb cmd tn rt ra s) := by
  unfold execTlb
  split
  · exact endsAt_reserved
  split
  · exact endsAt_raise .start
  split
  · exact endsAt_writeX
  split
  · exact endsAt_writeX
  · exact endsAt_advance (.tlb cmd tn _ .start)

theorem endsAt_cacheCommand {cmd : BitVec 5} : EndsAt i s (cacheCommand cmd s) := by
  unfold cacheCommand
  split
  case h_2 => exact endsAt_advance (.instrCache .start)
  case h_3 => exact endsAt_advance (.dataCache _ .start)
  case h_4 => exact endsAt_advance (.dataCache _ .start)
  case h_7 => exact endsAt_reserved
  all_goals exact endsAt_advance .start

/-! Vectors -/

theorem endsAt_vecInstr {ok : Bool} {rs : List RegNo} {m : Outcome} (h : EndsAt i s m) :
    EndsAt i s (vecInstr ok rs s m) := by
  unfold vecInstr
  split
  · exact h
  · exact endsAt_reserved

theorem endsAt_vecEach {m : BitVec 3} {f : Nat → State → Res Unit}
    (hf : ∀ e u, Reaches s u → (f e u).Keeps (Reaches s)) : EndsAt i s (vecEach m f s).retire :=
  endsAt_retire (keeps_vecEach hf)

theorem endsAt_vecMap {m : BitVec 3} {vt : RegNo} {f : Nat → State → Word} : EndsAt i s (vecMap m vt f s) :=
  endsAt_vecEach fun _ _ h => .of_ok (h.vec _ _ _)

theorem endsAt_vecMapFp {m : BitVec 3} {vt : RegNo} {status : FpResult → BitVec 7} {f : Nat → State → FpResult} :
    EndsAt i s (vecMapFp m vt status f s) :=
  endsAt_vecEach fun _ _ h => keeps_fpFinish h fun _ _ h1 => .of_ok (h1.vec _ _ _)

theorem endsAt_vecArith {fp : Bool} {fi : Word → Word → Word} {ff : FpEnv → Word → Word → FpResult} {len : VecLen}
    {m : BitVec 3} {vt : RegNo} {a b : Nat → State → Word} : EndsAt i s (vecArith fp fi ff len m vt a b s) := by
  unfold vecArith
  split
  · exact endsAt_vecMapFp
  · exact endsAt_vecMap

theorem endsAt_vecCmp {fp : Bool} {lt : Word → Word → Bool} {len : VecLen} {cn mt m : BitVec 3} {rs : List RegNo}
    {a b : Nat → State → Word} : EndsAt i s (vecCmp fp lt len cn mt m rs a b s) := by
  refine endsAt_vecInstr ?_
  split
  · exact endsAt_vecEach fun _ _ h => (keeps_fpFlags h).andThen fun _ _ h1 => .of_ok (h1.mask _ _)
  · exact endsAt_vecEach fun _ _ h => .of_ok (h.mask _ _)

theorem endsAt_vecLoad {vt : RegNo} {rs : List RegNo} {ea : Nat → State → Word} :
    EndsAt i s (vecLoad vt rs ea s) :=
  endsAt_vecInstr (endsAt_vecEach fun _ _ h => (keeps_memRead h).andThen fun _ _ h1 => .of_ok (h1.vec _ _ _))

theorem endsAt_vecStore {vb : RegNo} {rs : List RegNo} {ea : Nat → State → Word} :
    EndsAt i s (vecStore vb rs ea s) :=
  endsAt_vecInstr (endsAt_vecEach fun _ _ h => keeps_memWrite h)

theorem endsAt_veins {fp : Bool} {len : VecLen} {m : BitVec 3} {vt ra rb : RegNo} :
    EndsAt i s (execVeins fp len m vt ra rb s) := by
  refine endsAt_vecInstr (endsAt_advance ?_)
  split
  · exact .start
  · exact .vec _ _ _ .start

theorem endsAt_vmovTo {ct ra : RegNo} : EndsAt i s (execVmovTo ct ra s) := by
  refine endsAt_vecInstr ?_
  split
  · rintro _ ⟨⟩
    refine .setsVl _ ?_
    rw [BitVec.toNat_ofNat, Nat.mod_eq_of_lt (by omega)]
    exact Nat.min_le_right _ _
  · exact endsAt_advance (.mask _ _ .start)

end endings

theorem endsAt_mov {d : BitVec 3} {q : BitVec 6} {rt ra : RegNo} {s : State} :
    EndsAt (.mov d q rt ra) s (execMov d q rt ra s) := by
  unfold execMov putReg
  split
  · exact endsAt_raise .start
  · rintro _ ⟨⟩
    exact .moves d q rt ra rfl _ _



/-- Every instruction answers one of its endings: by the shape of its meaning. -/
theorem exec_endsAt (i : Instr) (s : State) : EndsAt i s (exec i s) := by
  cases i with
  -- integer arithmetic, shifts and bit fields
  | addi | slti | sltui | andi | ori | xori | seqi | sgtui | sgti | mului => exact endsAt_aluImm (aluReaches_sized _ _)
  | mulfi => exact endsAt_aluImm aluReaches_fnMulf
  | muli => exact endsAt_aluImm (aluReaches_fnMul _)
  | modi | divi => exact endsAt_aluImm (aluReaches_divChecked _ _)
  | divui => exact endsAt_aluImm (aluReaches_divQuiet _ _)
  | add | sub | slt | sltu | and | or | xor | seq | nand | nor | xnor | muluh | mulsuh | mulh | sle | sleu | min | max
  | mulu | mulsu | fxmul | sub16 | and16 | or16 | xor16 | add16 =>
    exact endsAt_aluReg (aluReaches_sized _ _)
  | addv => exact endsAt_aluReg aluReaches_fnAddv
  | subv => exact endsAt_aluReg aluReaches_fnSubv
  | ptrdif => exact endsAt_aluReg (aluReaches_fnPtrdif _)
  | mulf => exact endsAt_aluReg aluReaches_fnMulf
  | mul => exact endsAt_aluReg (aluReaches_fnMul _)
  | modu | divu => exact endsAt_aluReg (aluReaches_divQuiet _ _)
  | modsu | mod | divsu | div => exact endsAt_aluReg (aluReaches_divChecked _ _)
  | bcdadd | bcdsub | bcdmul => exact endsAt_aluReg (aluReaches_bcdOp _ _)
  | mor | mxor | mort | mxort => exact endsAt_aluReg (aluReaches_fnBmm _ _)
  | shl | shr | asl | asr | rol | ror => exact endsAt_aluReg (aluReaches_fnShift _)
  | shlImm | shrImm | aslImm | asrImm | rolImm | rorImm => exact endsAt_shiftImm
  | shlOp | shrOp | aslOp | asrOp | rolOp | rorOp => exact endsAt_shiftOp
  | ldi | lui | auipc | com | abs | not | redor | neg | zxh | zxc | zxb | sxh | sxc | sxb | add3 | or3 | mux | cmovez |
    cmovnz | caddnz | cmovnzi | caddnzi | min3 | max3 | maj | bfclr | bfchg | bfins | bfinsi | bfext | bfextu | bfffo |
    leax | addisp | addi16 | ldi16 | andi16 | shli16 | shri16 | asri16 | ori16 | mov16 =>
    exact endsAt_writeX
  | cntlz | cntlo | cntpop => exact endsAt_countOp
  | chk | chki => exact endsAt_checkBounds
  | xorOp => exact endsAt_xorOp
  | rtop => exact endsAt_rtop
  -- memory
  | lb | lc | lh | lvc | lvh | lvbx | lvcx | lvhx | lcx | lhx | lbx | lhSp | lhFp | lhPr => exact endsAt_loadSigned
  | lbu | lw | ld | lcu | lhu | lvw | lvcu | lvhu | lvbux | lvcux | lvhux | lvwx | lcux | lbux | lhux | lwx | lwSp |
    lwFp | lwPr =>
    exact endsAt_loadZero
  | lfs | lfd | lfq | lfsx | lfdx | lfqx => exact endsAt_loadFloat
  | lwr | lwrx => exact endsAt_loadReserved
  | sb | sc | sh | sw | sfs | sfd | sfq | sbx | shx | swx | scx | sfsx | sfdx | sfqx | shSp | swSp | shFp | swFp | shPr
  | swPr =>
    exact endsAt_storeWord
  | swc | swcx => exact endsAt_storeConditional
  | cas | casx => exact endsAt_compareSwap
  | pushc | push | push16 => exact endsAt_pushTo
  | inc | incx => exact endsAt_incAt
  | amoSwap | amoSwapImm | amoAdd | amoAddImm | amoAnd | amoAndImm | amoOr | amoOrImm | amoXor | amoXorImm | amoShl |
    amoShlImm | amoShr | amoShrImm | amoMin | amoMinImm | amoMax | amoMaxImm | amoMinu | amoMinuImm | amoMaxu |
    amoMaxuImm =>
    exact endsAt_amo
  -- branches, jumps and calls
  | beq | bne | blt | bge | band | bor | bltu | bgeu | bbs | bbc | beqi | bnei => exact endsAt_branch
  | fbeq | fbne | fblt | fbge | fbun =>
    simp only [exec_fbeq, exec_fbne, exec_fblt, exec_fbge, exec_fbun]
    exact endsAt_fpBranch
  | bra16 | beqz16 | bnez16 => exact endsAt_shortBranch
  | jmp => exact endsAt_goesTo .start
  | call | jal | ret | ret16 | call16 | jalr16 => exact endsAt_linkTo
  -- system
  | nop | nop16 | memdb | memsb | sync => exact endsAt_advance .start
  | brk u skip lvl c long => exact endsAt_brk (long := long)
  | brkReg | brk16 => exact endsAt_breakTo
  | pfi | pfi16 => exact endsAt_poll
  | csrrd => exact endsAt_csrChecked fun _ _ => endsAt_writeX
  | csrrw | csrrs | csrrc => exact endsAt_csrInstr
  | rex => exact endsAt_rex
  | sei => exact endsAt_sei
  | cli => exact endsAt_advance (.interruptMask _ .start)
  | wait => exact endsAt_wait
  | rti => exact endsAt_rti
  | tlb => exact endsAt_tlb
  | cache | cachex => exact endsAt_cacheCommand
  | setwb => exact endsAt_advance (.writeBarrier _ .start)
  | wtme => exact endsAt_advance (.tag _ _ .start)
  | chainoff | chainon => exact endsAt_advance (.chain _ .start)
  | execBuf n =>
    rintro _ ⟨⟩
    exact .handsOn n rfl _
  | mov d q rt ra => exact endsAt_mov
  -- floating point
  | fadd | fsub | fmul | fdiv => exact endsAt_fpArith
  | fcmp | fslt | fsge | fsle | fsgt | fseq | fsne | fsun =>
    simp only [exec_fcmp, exec_fslt, exec_fsge, exec_fsle, exec_fsgt, exec_fseq, exec_fsne, exec_fsun]
    exact endsAt_fpCompare
  | fmov | fneg | fabs | fsign | fnabs =>
    simp only [exec_fmov, exec_fneg, exec_fabs, exec_fsign, exec_fnabs]
    exact endsAt_fpMove
  | ftoi | itof | fcvtsd | fsqrt => exact endsAt_fpUnary
  | ftx => exact endsAt_fpInstr endsAt_triggerFp
  | fcx => exact endsAt_withFstat (fstatClear_rgs _ _)
  | fex => exact endsAt_withFstat (fstatEnable_rgs _ _)
  | fdx => exact endsAt_withFstat (fstatDisable_rgs _ _)
  | fsync => exact endsAt_fpInstr (endsAt_advance .start)
  -- vectors
  | vadd | vsub | vmul | vdiv | vadds | vsubs | vmuls | vdivs | vsubrs | vneg => exact endsAt_vecInstr endsAt_vecArith
  | vand | vor | vxor | vands | vors | vxors | vabs | vsign | vcntpop | vshl | vshr | vasr | vshlv | vshrv | vbits2v =>
    exact endsAt_vecInstr endsAt_vecMap
  | vflt2int | vint2flt => exact endsAt_vecInstr endsAt_vecMapFp
  | vxchg => exact endsAt_vecInstr (endsAt_vecEach fun _ _ h => .of_ok ((h.vec _ _ _).vec _ _ _))
  | vcmprss | vcidx => exact endsAt_vecInstr (endsAt_advance (reaches_vecPack _ _ _ _ .start))
  | vscan => exact endsAt_vecInstr (endsAt_advance (reaches_vecScan _ _ _ _ .start))
  | veins fp len m => exact endsAt_veins (fp := fp) (m := m)
  | v2bits | vex | vmpop | vmfirst | vmlast | vmovFrom => exact endsAt_vecInstr endsAt_writeX
  | vsxx | vsxxs | vsxxu | vsxxsu => exact endsAt_vecCmp
  | vmand | vmor | vmxor | vmxnor | vmfill => exact endsAt_vecInstr (endsAt_advance (.mask _ _ .start))
  | vmovTo => exact endsAt_vmovTo
  | vsync => exact endsAt_vecInstr (endsAt_advance .start)
  | lv | lvx | lvws => exact endsAt_vecLoad
  | sv | svws | svx => exact endsAt_vecStore

/-- Whatever an instruction answers is one of its endings. -/
theorem exec_ends {i : Instr} {s t : State} (h : exec i s = .next t) : Ends i s t := exec_endsAt i s t h

/-! ## What every part leaves: the register sets in force, VL, and the registers of the other sets -/

/-- t has the parameters, the current set, the floating-point set and VL of s, and its registers of every other set. -/
structure SameSets (s t : State) : Prop where
  rs : t.rs = s.rs
  fps : t.fps = s.fps
  vl : t.vl = s.vl
  other : ∀ (q : BitVec 6) (r : RegNo), q ≠ s.rs → q ≠ s.fps → t.reg q r = s.reg q r

section sets

variable {s t : State}

/-- A register of another set is not the one written, whatever the form of the store. -/
theorem reg_setReg_other_set (s : State) (q p : BitVec 6) (r k : RegNo) (v : Word) (h : p ≠ q) :
    (s.setReg q r v).reg p k = s.reg p k := by
  unfold State.reg
  rw [setReg_xs]
  split
  · rfl
  · split
    · rfl
    · refine storeGet_storeSet_other _ _ _ _ ?_ _
      have hk := k.isLt
      have hr := r.isLt
      intro same
      simp only [regKey] at same
      exact h (BitVec.eq_of_toNat_eq (by omega))

/-- The set numbers are read from the parameters, STATUS and FSTAT alone. -/
theorem fps_congr {u : State} (hc : u.cfg = t.cfg) (hr : u.rs = t.rs)
    (hf : (field u.csr.fstat 32 6 : BitVec 6) = field t.csr.fstat 32 6) : u.fps = t.fps := by
  unfold State.fps
  rw [hc, hr, hf]

/-- A register is read from the general registers alone. -/
theorem reg_congr {u : State} (h : u.xs = t.xs) (q : BitVec 6) (r : RegNo) : u.reg q r = t.reg q r := by
  unfold State.reg
  rw [h]

/-- What an update must leave for the sets to stay as they are. -/
theorem SameSets.update {u : State} (h : SameSets s t) (hc : u.cfg = t.cfg) (hx : u.xs = t.xs) (hv : u.vl = t.vl)
    (hr : u.rs = t.rs) (hf : (field u.csr.fstat 32 6 : BitVec 6) = field t.csr.fstat 32 6) : SameSets s u where
  rs := hr.trans h.rs
  fps := (fps_congr hc hr hf).trans h.fps
  vl := hv.trans h.vl
  other q r h1 h2 := (reg_congr hx q r).trans (h.other q r h1 h2)

/-- The checks of a data access raise: only the TLB, BADADDR and DBSR may have changed. -/
theorem dataAccess_eq_exc {ea : Word} {n : Nat} {k : AccessKind} {c : BitVec 8} (h : dataAccess ea n k s = .exc c t) :
    ∃ tl b d, t = { s with tlb := tl, csr := { s.csr with badaddr0 := b, dbsr := d } } := by
  unfold dataAccess at h
  split at h
  · cases h
    exact ⟨s.tlb, _, s.csr.dbsr, rfl⟩
  · unfold debugMatch at h
    split at h
    · cases h
      exact ⟨s.tlb, _, _, rfl⟩
    · rw [Res.ok_andThen] at h
      split at h
      case h_1 c1 u hu =>
        cases h
        obtain ⟨tl, rfl⟩ := (translate_keeps ea k s).2 _ _ hu
        exact ⟨tl, _, s.csr.dbsr, rfl⟩
      case h_2 pa u hu =>
        obtain ⟨tl, rfl⟩ := (translate_keeps ea k s).1 _ _ hu
        split at h
        · cases h
        · cases h
          exact ⟨tl, _, s.csr.dbsr, rfl⟩

/-- Every part leaves the set numbers, VL, and the registers of the other sets. -/
theorem Reaches.sameSets (h : Reaches s t) : SameSets s t := by
  induction h with
  | start => exact ⟨rfl, rfl, rfl, fun _ _ _ _ => rfl⟩
  | @reg t q r v _ hq ih =>
    refine ⟨by rw [setReg_rs, ih.rs], (fps_congr (by simp) (by simp) (by simp)).trans ih.fps, by rw [setReg_vl, ih.vl],
      fun p k h1 h2 => ?_⟩
    have hp : p ≠ q := by
      rcases hq with rfl | rfl
      · rwa [ih.rs]
      · rwa [ih.fps]
    rw [reg_setReg_other_set _ _ _ _ _ _ hp, ih.other p k h1 h2]
  | access _ ha ih =>
    obtain ⟨-, -, -, tl, k, rfl⟩ := dataAccess_eq_ok ha
    exact ih.update rfl rfl rfl rfl rfl
  | accessFault _ ha ih =>
    obtain ⟨tl, b, d, rfl⟩ := dataAccess_eq_exc ha
    exact ih.update rfl rfl rfl rfl rfl
  | @commit t n pa v _ ih =>
    obtain ⟨m, mt, st, rv, hc, -⟩ := memCommit_frame n pa v t
    rw [hc]
    exact ih.update rfl rfl rfl rfl rfl
  | fstat _ hw ih => exact ih.update rfl rfl rfl rfl hw
  | interruptMask w _ ih =>
    exact ih.update rfl rfl rfl (field_setField_of_disjoint _ _ _ _ _ (.inr (by decide))) rfl
  | vec _ _ _ _ ih | mask _ _ _ ih | reserve _ _ _ ih | endReservation _ _ ih | compareValue _ _ ih | aec _ _ ih
  | writeBarrier _ _ ih | tlb _ _ _ _ ih | tag _ _ _ ih | chain _ _ ih | dataCache _ _ ih | instrCache _ ih =>
    exact ih.update rfl rfl rfl rfl rfl

/-- Every ending but MOV's leaves the registers of the other sets. -/
theorem Ends.other_sets {i : Instr} (h : Ends i s t) (hi : ∀ d q rt ra, i ≠ .mov d q rt ra) (q : BitVec 6) (r : RegNo)
    (hrs : q ≠ s.rs) (hfps : q ≠ s.fps) : t.reg q r = s.reg q r := by
  cases h with
  | goesTo p h => exact h.sameSets.other q r hrs hfps
  | traps c u il ret e h => exact h.sameSets.other q r hrs hfps
  | writesCsr ol n v rt old => exact reg_setReg_other_set _ _ _ _ _ _ hrs
  | moves d set rt ra h => exact absurd h (hi d set rt ra)
  | returns | stalls | redirects | setsVl | handsOn => rfl

/-- Every ending leaves VL at most 63. -/
theorem Ends.vl_le {i : Instr} (h : Ends i s t) (hs : s.vl.toNat ≤ 63) : t.vl.toNat ≤ 63 := by
  cases h with
  | goesTo p h => exact h.sameSets.vl ▸ hs
  | traps c u il ret e h => exact h.sameSets.vl ▸ hs
  | setsVl l hl => exact hl
  | writesCsr => rwa [advance_vl, setReg_vl]
  | moves => rwa [advance_vl, setReg_vl]
  | returns | stalls | redirects | handsOn => exact hs

end sets

/-! ## A step: what it does around its instruction -/

/-- A property that everything a step does but its instruction keeps: the Reset event, fetch, loading the instruction
registers, traps, the counters, and what moves by itself. -/
structure KeptAround (P : State → Prop) : Prop where
  reset : ∀ s, P (resetEvent s)
  tlb : ∀ s tl, P s → P { s with tlb := tl }
  load : ∀ s n w, P s → P (s.load n w)
  setPc : ∀ s p, P s → P (s.setPc p)
  event : ∀ s e, P s → P { s with event := e }
  trapEnter : ∀ s c u il ret, P s → P (trapEnter c u il ret s)
  noteInstr : ∀ s, P s → P (noteInstr s)
  noteMatch : ∀ s b, P s → P (noteMatch b s)
  retired : ∀ s, P s → P (countRetired s)
  tick : ∀ s, P s → P (envTick s)

section around

variable {P : State → Prop}

theorem answers_mapNext {f : State → State} {o : Outcome} (h : Answers P o) (hf : ∀ s, P s → P (f s)) :
    Answers P (mapNext f o) := by
  cases o with
  | next s => exact answers_next (hf s (h s rfl))
  | fault x => exact answers_fault
  | refused r => exact answers_refused

theorem fetchByte_keeps {pa : Nat} {s : State} (h : P s) : (fetchByte pa s).Keeps P := by
  unfold fetchByte
  split
  · exact .of_ok h
  · exact .of_exc h

namespace KeptAround

variable (hP : KeptAround P)
include hP

theorem raise {c : BitVec 8} {s : State} (h : P s) : P (raise c s) :=
  hP.event (Machine.trapEnter c 0 0 s.pc (Machine.noteInstr s)) .raised (hP.trapEnter _ _ _ _ _ (hP.noteInstr s h))

theorem raiseBare {c : BitVec 8} {s : State} (h : P s) : P (raiseBare c s) :=
  hP.event (Machine.trapEnter c 0 0 s.pc s) .raised (hP.trapEnter _ _ _ _ _ h)

theorem reserved {s : State} (h : P s) : Answers P (reserved s) := by
  unfold Machine.reserved reservedPart
  split
  · exact answers_next (hP.raise h)
  · exact answers_next (hP.setPc _ _ h)

theorem translate {a : Word} {k : AccessKind} {s : State} (h : P s) : (translate a k s).Keeps P := by
  have tlbOnly := translate_keeps a k s
  constructor
  · intro _ t ht
    obtain ⟨tl, rfl⟩ := tlbOnly.1 _ _ ht
    exact hP.tlb s tl h
  · intro _ t ht
    obtain ⟨tl, rfl⟩ := tlbOnly.2 _ _ ht
    exact hP.tlb s tl h

theorem fetchPlace {a : BitVec 40} {pa : Nat} {s : State} (h : P s) : (fetchPlace a pa s).Keeps P := by
  unfold Machine.fetchPlace
  split
  · exact hP.translate h
  · exact .of_ok h

theorem fetchMore : ∀ (n : Nat) (a : BitVec 40) (pa : Nat) (s : State), P s → (fetchMore n a pa s).Keeps P
  | 0, _, _, _, h => .of_ok h
  | n + 1, _, _, _, h =>
    (hP.fetchPlace h).andThen fun _ _ h1 => (fetchByte_keeps h1).andThen fun _ _ h2 =>
      (fetchMore n _ _ _ h2).andThen fun _ _ h3 => .of_ok h3

theorem fetch {s : State} (h : P s) : (fetch s).Keeps P :=
  (hP.translate h).andThen fun _ _ h1 => (fetchByte_keeps h1).andThen fun _ _ h2 =>
    (hP.fetchMore _ _ _ _ h2).andThen fun _ _ h3 => .of_ok h3

theorem afterInstr {armed : Bool} {s : State} (h : P s) : P (afterInstr armed s) := by
  have counted := hP.retired s h
  unfold Machine.afterInstr singleStep
  split
  · exact hP.trapEnter _ _ _ _ _ (hP.noteInstr _ counted)
  · exact counted

variable (hexec : ∀ i s t, P s → exec i s = .next t → P t)
include hexec

theorem runWord {w : Nat} {s : State} (h : P s) : Answers P (runWord w s) := by
  unfold Machine.runWord execAtLevel
  split
  · exact hP.reserved h
  · split
    · exact answers_next (hP.raise h)
    · exact fun t ht => hexec _ s t h ht

theorem runBuffer {b : Word} {s : State} (h : P s) : Answers P (runBuffer b s) := by
  have loaded : P (s.loadBuffer b) := hP.load _ _ _ h
  unfold Machine.runBuffer
  split
  · exact hP.reserved loaded
  · split
    · exact hP.reserved loaded
    · exact hP.runWord hexec loaded

theorem runInstr {n w : Nat} {s : State} (h : P s) : Answers P (runInstr n w s) := by
  have ran := hP.runWord hexec (w := w) (hP.load s n w h)
  unfold Machine.runInstr
  split
  case h_1 t ht =>
    split
    · exact answers_next (ran t ht)
    · exact hP.runBuffer hexec (ran t ht)
  case h_2 => exact answers_fault
  case h_3 => exact answers_refused

theorem stepCore {s : State} (h : P s) : Answers P (stepCore s) := by
  have fetched := hP.fetch h
  unfold Machine.stepCore
  split
  · exact answers_refused
  split
  · exact answers_next (hP.trapEnter _ _ _ _ _ h)
  split
  · exact answers_next (hP.raiseBare (hP.noteMatch _ _ h))
  split
  case h_1 c s1 hf => exact answers_next (hP.raiseBare (fetched.2 _ _ hf))
  case h_2 nw s1 hf =>
    exact answers_mapNext (hP.runInstr hexec (fetched.1 _ _ hf)) fun _ => hP.afterInstr

/-- What every instruction keeps, and what a step does around it keeps, every step keeps. -/
theorem step {s : State} (h : P s) : Answers P (step s) := by
  unfold Machine.step
  split
  · exact answers_next (hP.reset s)
  · exact answers_mapNext (hP.stepCore hexec h) hP.tick

end KeptAround

end around

/-! ## VL stays in range; the other register sets are untouched -/

theorem countRetired_vl (s : State) : (countRetired s).vl = s.vl := by
  unfold countRetired
  split <;> rfl

/-- Nothing around an instruction writes VL, but for the Reset event, which makes it 0. -/
theorem keptAround_vl_le : KeptAround fun s => s.vl.toNat ≤ 63 where
  reset s := show (0 : BitVec 7).toNat ≤ 63 by decide
  tlb _ _ h := h
  load _ _ _ h := h
  setPc _ _ h := h
  event _ _ h := h
  trapEnter _ _ _ _ _ h := h
  noteInstr _ h := h
  noteMatch _ _ h := h
  retired s h := by rwa [countRetired_vl]
  tick _ h := h

/-- Settles O10: every ending of an instruction keeps VL at most 63, and so does what the step does around it. -/
theorem stepKeepsVectorLengthInRange : Obligations.StepKeepsVectorLengthInRange := by
  intro s t hs hstep
  exact keptAround_vl_le.step (fun _ _ _ h he => (exec_ends he).vl_le h) hs t hstep

/-- Settles O14: of an instruction's endings only MOV's writes a set that is neither of the two. -/
theorem otherRegisterSetsAreUntouched : Obligations.OtherRegisterSetsAreUntouched := by
  intro i s t hi he q r hrs hfps
  exact (exec_ends he).other_sets hi q r hrs hfps

end Sys2Proof.Machine

namespace Sys2Proof.Machine

/-! ## Control and status registers of the machine level: reading after writing (10_state R42, 45_system R640) -/

section csr

variable (s : State) (c : Csrs) (n k : Nat) (v : Word)

/-- The low bits of a word, as a mask gives them. -/
theorem zext64_field_low (m : Nat) : zext64 (field v 0 m) = v &&& BitVec.ofNat 64 (2 ^ m - 1) := by
  apply BitVec.eq_of_getLsbD_eq
  intro i hi
  simp only [zext64, field, BitVec.getLsbD_setWidth, BitVec.getLsbD_extractLsb', BitVec.getLsbD_and,
    BitVec.getLsbD_ofNat, Nat.testBit_two_pow_sub_one, hi, decide_true, Bool.true_and, Nat.zero_add]
  exact Bool.and_comm _ _

/-- STATUS as written, as a mask gives it. -/
theorem statusWritten_eq_and : statusWritten v = v &&& 0xFFFFFFFFF0FFFFFF := by
  have kept : ~~~ fieldMask 64 24 4 = 0xFFFFFFFFF0FFFFFF := by decide
  have zero : (0 : BitVec 4).setWidth 64 <<< 24 = 0 := by decide
  rw [statusWritten, setField, kept, zero]
  exact BitVec.or_zero

/-- The registers in banks: DBAD, TVEC, EPC, CODEBUF (10_state R58, R63, R65, R66). -/
abbrev InCsrBank (n : Nat) : Prop :=
  0x018 ≤ n ∧ n < 0x01C ∨ 0x030 ≤ n ∧ n < 0x034 ∨ 0x048 ≤ n ∧ n < 0x050 ∨ 0x080 ≤ n ∧ n < 0x0C0

/-- Every bit of a register in a bank is written. -/
theorem csrWritable_of_inCsrBank {n : Nat} (h : InCsrBank n) : csrWritable n = some 0xFFFFFFFFFFFFFFFF := by
  unfold csrWritable
  split
  · rfl
  case isFalse listed =>
    have codebuf : 0x080 ≤ n ∧ n < 0x0C0 := by
      simp only [List.mem_cons, List.not_mem_nil, or_false] at listed
      unfold InCsrBank at h
      omega
    rw [if_pos codebuf]

/-- The numbers of the writable registers that are in no bank (10_state R42). -/
def plainCsrs : List Nat :=
  [0x000, 0x003, 0x004, 0x005, 0x006, 0x007, 0x008, 0x009, 0x00A, 0x00B, 0x00C, 0x00D, 0x00E, 0x010, 0x011, 0x014,
    0x01C, 0x01D, 0x02C, 0x040, 0x041, 0x042, 0x043, 0x044, 0x046]

/-- A writable register is in a bank or has one of those numbers. -/
theorem mem_plainCsrs {n : Nat} (hb : ¬ InCsrBank n) (h : (csrWritable n).isSome = true) : n ∈ plainCsrs := by
  by_cases hn : n < 0x050
  · have below : ∀ n < 0x050, ¬ InCsrBank n → (csrWritable n).isSome = true → n ∈ plainCsrs := by decide
    exact below n hn hb h
  · refine absurd h ?_
    unfold csrWritable
    split
    case isTrue listed =>
      simp only [List.mem_cons, List.not_mem_nil, or_false] at listed
      omega
    · rw [if_neg (by omega), if_neg (by omega), if_neg (by omega), if_neg (by omega), if_neg (by omega),
        if_neg (by omega)]
      decide

/-- Without the banks, a register of the machine level is read and written by its own number. -/
theorem csrReadMachine_of_not_bank (hd : s.cfg.supportDbg = true) (hb : ¬ InCsrBank n) (hi : n < 0x3F0) :
    csrReadMachine s n = csrReadPlain s n := by
  unfold InCsrBank at hb
  rw [csrReadMachine, hd, Bool.not_true, Bool.and_false, if_neg Bool.false_ne_true, if_neg (by omega),
    if_neg (by omega), if_neg (by omega), if_neg (by omega), if_neg (by omega)]

theorem csrWriteMachine_of_not_bank (hb : ¬ InCsrBank n) : csrWriteMachine c n v = csrWritePlain c n v := by
  unfold InCsrBank at hb
  rw [csrWriteMachine, if_neg (by omega), if_neg (by omega), if_neg (by omega), if_neg (by omega)]

/-- A register of a bank reads what was written. -/
theorem csrReadMachine_write_bank (hw : StoreWf 0 s.csr.codebuf) (hd : s.cfg.supportDbg = true) (hb : InCsrBank n) :
    csrReadMachine { s with csr := csrWriteMachine s.csr n v } n = some v := by
  rw [csrReadMachine, csrWriteMachine, hd, Bool.not_true, Bool.and_false, if_neg Bool.false_ne_true]
  rcases hb with dbad | tvec | epc | codebuf
  · rw [if_pos dbad, if_pos dbad, bank4Get_set, if_pos rfl]
  · rw [if_neg (by omega), if_pos tvec, if_neg (by omega), if_pos tvec, bank4Get_set, if_pos rfl]
  · rw [if_neg (by omega), if_neg (by omega), if_pos epc, if_neg (by omega), if_neg (by omega), if_pos epc,
      bank8Get_set, if_pos rfl]
  · rw [if_neg (by omega), if_neg (by omega), if_neg (by omega), if_pos codebuf, if_neg (by omega), if_neg (by omega),
      if_neg (by omega), if_pos codebuf]
    exact congrArg some (storeGet_storeSet_same _ _ _ _ hw)

/-- A register with a number of its own reads the bits that were written. -/
theorem csrReadPlain_write_same {m : Word} (hb : ¬ InCsrBank n) (hm : csrWritable n = some m) :
    csrReadPlain { s with csr := csrWritePlain s.csr n v } n = some (v &&& m) := by
  have all : v &&& 0xFFFFFFFFFFFFFFFF = v := BitVec.and_allOnes
  unfold csrWritePlain
  split
  -- CAUSE, FSTAT, the stacks and STATUS keep some of the bits
  case h_5 | h_20 | h_21 | h_23 | h_25 => cases hm; exact congrArg some (zext64_field_low v _)
  case h_16 => cases hm; exact congrArg some (zext64_field_low v 44)
  case h_24 => cases hm; exact congrArg some (statusWritten_eq_and v)
  -- no other number is writable
  case h_26 =>
    have listed := mem_plainCsrs hb (hm ▸ rfl)
    simp_all [plainCsrs]
  all_goals
    cases hm
    exact congrArg some BitVec.and_allOnes.symm

/-- The write of a register with a number of its own leaves the banks. -/
theorem csrWritePlain_banks : (csrWritePlain c n v).dbad = c.dbad ∧ (csrWritePlain c n v).tvec = c.tvec ∧
    (csrWritePlain c n v).epc = c.epc ∧ (csrWritePlain c n v).codebuf = c.codebuf := by
  unfold csrWritePlain
  split <;> exact ⟨rfl, rfl, rfl, rfl⟩

/-- The write of a register with a number of its own leaves the others with one. -/
theorem csrReadPlain_write_other (h : k ≠ n) :
    csrReadPlain { s with csr := csrWritePlain s.csr n v } k = csrReadPlain s k := by
  unfold csrWritePlain
  split
  case h_26 => rfl
  all_goals
    unfold csrReadPlain
    split
    -- the number read is another one, whose field the write leaves, or the one written
    all_goals first | rfl | exact absurd rfl h

/-- What a register of the machine level reads depends on. -/
theorem csrReadMachine_congr {s u : State} {k : Nat} (hcfg : u.cfg = s.cfg)
    (hdbad : 0x018 ≤ k ∧ k < 0x01C → bank4Get u.csr.dbad (k - 0x018) = bank4Get s.csr.dbad (k - 0x018))
    (htvec : 0x030 ≤ k ∧ k < 0x034 → bank4Get u.csr.tvec (k - 0x030) = bank4Get s.csr.tvec (k - 0x030))
    (hepc : 0x048 ≤ k ∧ k < 0x050 → bank8Get u.csr.epc (k - 0x048) = bank8Get s.csr.epc (k - 0x048))
    (hcodebuf : 0x080 ≤ k ∧ k < 0x0C0 → storeGet 0 u.csr.codebuf (k - 0x080) = storeGet 0 s.csr.codebuf (k - 0x080))
    (hplain : csrReadPlain u k = csrReadPlain s k) : csrReadMachine u k = csrReadMachine s k := by
  unfold csrReadMachine
  rw [hcfg, hplain]
  split
  · rfl
  split
  case isTrue hk => rw [hdbad hk]
  split
  case isTrue hk => rw [htvec hk]
  split
  case isTrue hk => rw [hepc hk]
  split
  case isTrue hk => rw [hcodebuf hk]
  · rfl

/-- The write of a register of the machine level leaves the others. -/
theorem csrReadMachine_write_other (h : k ≠ n) :
    csrReadMachine { s with csr := csrWriteMachine s.csr n v } k = csrReadMachine s k := by
  unfold csrWriteMachine
  split
  · refine csrReadMachine_congr rfl (fun hk => ?_) (fun _ => rfl) (fun _ => rfl) (fun _ => rfl) rfl
    rw [bank4Get_set, if_neg (by omega)]
  split
  · refine csrReadMachine_congr rfl (fun _ => rfl) (fun hk => ?_) (fun _ => rfl) (fun _ => rfl) rfl
    rw [bank4Get_set, if_neg (by omega)]
  split
  · refine csrReadMachine_congr rfl (fun _ => rfl) (fun _ => rfl) (fun hk => ?_) (fun _ => rfl) rfl
    rw [bank8Get_set, if_neg (by omega)]
  split
  · exact csrReadMachine_congr rfl (fun _ => rfl) (fun _ => rfl) (fun _ => rfl)
      (fun hk => storeGet_storeSet_other _ _ _ _ (by omega) _) rfl
  · obtain ⟨hdbad, htvec, hepc, hcodebuf⟩ := csrWritePlain_banks s.csr n v
    exact csrReadMachine_congr rfl (fun _ => by rw [hdbad]) (fun _ => by rw [htvec]) (fun _ => by rw [hepc])
      (fun _ => by rw [hcodebuf]) (csrReadPlain_write_other s n k v h)

/-- A writable register of the machine level reads the bits that were written. -/
theorem csrReadMachine_write_same {m : Word} (hw : StoreWf 0 s.csr.codebuf) (hd : s.cfg.supportDbg = true)
    (hm : csrWritable n = some m) :
    csrReadMachine { s with csr := csrWriteMachine s.csr n v } n = some (v &&& m) := by
  by_cases hb : InCsrBank n
  · have all : m = 0xFFFFFFFFFFFFFFFF := Option.some.inj (hm.symm.trans (csrWritable_of_inCsrBank hb))
    rw [csrReadMachine_write_bank s n v hw hd hb, all]
    exact congrArg some BitVec.and_allOnes.symm
  · have small : ∀ n ∈ plainCsrs, n < 0x3F0 := by decide
    rw [csrWriteMachine_of_not_bank s.csr n v hb]
    exact (csrReadMachine_of_not_bank { s with csr := csrWritePlain s.csr n v } n hd hb
      (small n (mem_plainCsrs hb (hm ▸ rfl)))).trans (csrReadPlain_write_same s n v hb hm)

end csr

/-- Settles O23: register by register, in its bank or by its own number. -/
theorem csrReadsWhatWasWritten : Obligations.CsrReadsWhatWasWritten := by
  intro s n v m hw hd hm
  exact ⟨csrReadMachine_write_same s n v hw hd hm, fun k hk => csrReadMachine_write_other s n k v hk⟩

end Sys2Proof.Machine

namespace Sys2Proof.Machine

/-! ## Reset and register 0 -/

/-- Eight registers that hold one value. -/
@[simp] theorem bank8Get_all (w : Word) (k : Nat) : bank8Get (Bank8.all w) k = w := by
  unfold bank8Get
  split <;> rfl

/-- The step with the reset input set is the Reset event, whatever the state was about to run (R1020). -/
theorem step_of_resetPin {s : State} (h : s.resetPin = true) : step s = .next (resetEvent s) := if_pos h

/-- Settles O12: the values are those of State.reset, and the Reset event leaves the same ones. -/
theorem resetStateHasTheSpecsValues : Obligations.ResetStateHasTheSpecsValues := by
  unfold Obligations.ResetStateHasTheSpecsValues
  intro values
  have masks (k : BitVec 3) : State.reset.mask k = 0xFFFFFFFFFFFFFFFF := bank8Get_all _ _
  have atReset : values State.reset := ⟨by simp only [masks]; decide, by decide⟩
  exact ⟨atReset, fun s hpin =>
    ⟨resetEvent s, step_of_resetPin hpin, atReset, resetEvent_mem s, resetEvent_cfg s, resetEvent_tmClk s, rfl, rfl⟩⟩

/-- A write to register 0 answers, and leaves the state: the stack registers are r30 and r31 (10_state R21, R28). -/
theorem putX_zero (s : State) (v : Word) : putX 0 v s = .ok () s := by
  have noFault : stackFault s s.rs 0 v = false := by simp [stackFault]
  rw [putX, putReg, noFault]
  rfl

/-- A result for register 0 is discarded, and the instruction goes on. -/
theorem writeX_zero (s : State) (v : Word) : writeX 0 v s = .next s.advance := by
  rw [writeX, putX_zero, Res.retire_ok]

/-- A misaligned access raises ALN, with the address noted. -/
theorem dataAccess_misaligned {ea : Word} {n : Nat} (k : AccessKind) (s : State) (h : ea.toNat % n ≠ 0) :
    dataAccess ea n k s = .exc causeALN (noteAddr ea s) := if_pos h

/-- A load whose checks raise takes their exception, whatever its target. -/
theorem loadZero_of_exc {n : Nat} {rt : RegNo} {ea : Word} {c : BitVec 8} {s t : State}
    (h : dataAccess ea n .read s = .exc c t) : loadZero n rt ea s = .next (raise c t) := by
  rw [loadZero, memRead, h, Res.exc_andThen, Res.exc_andThen, Res.retire_exc]

/-- A load whose checks pass writes what it read in the state that its access left. -/
theorem loadZero_of_ok {n pa : Nat} {rt : RegNo} {ea : Word} {s t : State} (h : dataAccess ea n .read s = .ok pa t) :
    loadZero n rt ea s = writeX rt (zeroBytes (busRead t n pa)) t := by
  rw [loadZero, memRead, h, Res.ok_andThen, Res.ok_andThen, writeX]

/-- Settles O15: register 0 by its definition, an addition by the write it discards, a load by its access. -/
theorem registerZeroReadsZeroAndDiscardsWrites : Obligations.RegisterZeroReadsZeroAndDiscardsWrites := by
  refine ⟨fun s q v => ⟨reg_zero s q, setReg_zero s q v, reg_zero s s.rs, setX_zero s v⟩, fun s ra rb sz => ?_,
    fun s ra d => ⟨fun h => ?_, fun pa t h => ?_⟩⟩
  · exact writeX_zero s _
  · rw [exec_lw, execLw, loadZero_of_exc (dataAccess_misaligned _ _ h)]
  · rw [exec_lw, execLw, loadZero_of_ok h, writeX_zero]

end Sys2Proof.Machine

namespace Sys2Proof.Machine

/-! ## The checks of a data access, in their order (20_memory R150, 60_exceptions R1005) -/

/-- A bit of a word (00_scope R8). -/
theorem bitAt_eq_getLsbD {m : Nat} (w : BitVec m) (k : Nat) : bitAt w k = w.getLsbD k := by
  have one (b : BitVec 1) : (b == 1) = b.getLsbD 0 := by revert b; decide
  rw [bitAt, one, field, BitVec.getLsbD_extractLsb']
  rfl

section dataAccess

variable {s t : State} {ea : Word} {n pa : Nat} {k : AccessKind}

/-- An enabled debug register matches the access (60_exceptions R990). -/
abbrev debugHit (s : State) (ea : Word) (k : AccessKind) : Bool :=
  s.cfg.supportDbg && matchBits (dataMatch s.csr ea k) != 0

/-- No armed debug register, no match. -/
theorem debugHit_eq_false (h : s.cfg.supportDbg = false ∨ field s.csr.dbcr 0 4 = (0 : BitVec 4)) :
    debugHit s ea k = false := by
  rcases h with off | unarmed
  · rw [debugHit, off, Bool.false_and]
  · have bit (j : Nat) (hj : j < 4) : bitAt s.csr.dbcr j = false := by
      have low : (field s.csr.dbcr 0 4 : BitVec 4).getLsbD j = false := by rw [unarmed]; exact BitVec.getLsbD_zero
      simpa [field, hj, bitAt_eq_getLsbD] using low
    simp [debugHit, matchBits, dataMatch, bit]

theorem debugMatch_of_debugHit (h : debugHit s ea k = true) :
    debugMatch ea k s = .exc causeDBG (noteAddr ea (noteMatch (matchBits (dataMatch s.csr ea k)) s)) := if_pos h

theorem debugMatch_of_not_debugHit (h : debugHit s ea k = false) : debugMatch ea k s = .ok () s :=
  if_neg (ne_true_of_eq_false h)

/-- An aligned access that a debug register matches raises the debug exception, whatever translation and bus say. -/
theorem dataAccess_of_debugHit (ha : ea.toNat % n = 0) (hd : debugHit s ea k = true) :
    dataAccess ea n k s = .exc causeDBG (noteAddr ea (noteMatch (matchBits (dataMatch s.csr ea k)) s)) := by
  rw [dataAccess, if_neg (not_not_intro ha), debugMatch_of_debugHit hd, Res.exc_andThen]

/-- An aligned access that no debug register matches raises what its translation raises. -/
theorem dataAccess_of_translate_exc {c : BitVec 8} (ha : ea.toNat % n = 0) (hd : debugHit s ea k = false)
    (ht : translate ea k s = .exc c t) : dataAccess ea n k s = .exc c (noteAddr ea t) := by
  rw [dataAccess, if_neg (not_not_intro ha), debugMatch_of_not_debugHit hd, Res.ok_andThen, ht]

/-- A translated access is made if something acknowledges each of its bytes, and raises the bus error if not. -/
theorem dataAccess_of_translate_ok (ha : ea.toNat % n = 0) (hd : debugHit s ea k = false)
    (ht : translate ea k s = .ok pa t) :
    dataAccess ea n k s =
      if busAllOk t.cfg k n pa then .ok pa (atBus n pa t) else .exc causeDBE (noteAddr ea t) := by
  rw [dataAccess, if_neg (not_not_intro ha), debugMatch_of_not_debugHit hd, Res.ok_andThen, ht]

/-- The state in which an access to a device is made: the next draw of the free values. -/
theorem atBus_device (h : anyDevice s.cfg n pa = true) : atBus n pa s = { s with freeIdx := s.freeIdx + 1 } := if_pos h

/-- An access that meets AccessOk is made at the address cut to PA_BITS, and changes nothing. -/
theorem dataAccess_of_accessOk (h : AccessOk s ea n k) : dataAccess ea n k s = .ok (ea.toNat % 2 ^ s.cfg.paBits) s := by
  obtain ⟨hmmu, hdbg, hal, hbus, hdev⟩ := h
  rw [dataAccess_of_translate_ok hal (debugHit_eq_false hdbg) (translate_none ea k s hmmu), if_pos hbus,
    atBus_memory hdev]

end dataAccess

/-- Settles O28: one equation of the access for each check that decides it. -/
theorem dataAccessChecksInOrder : Obligations.DataAccessChecksInOrder := by
  intro s ea n k hit
  refine ⟨dataAccess_misaligned k s, dataAccess_of_debugHit, fun ha hd c t => dataAccess_of_translate_exc ha hd,
    fun ha hd pa t ht => ?_, dataAccess_of_accessOk⟩
  rw [dataAccess_of_translate_ok ha hd ht]
  exact ⟨fun hb => if_neg (ne_true_of_eq_false hb), fun hb hm => by rw [if_pos hb, atBus_memory hm],
    fun hb hm => by rw [if_pos hb, atBus_device hm]⟩

end Sys2Proof.Machine

namespace Sys2Proof.Machine

/-! ## The canonical form of the TLB (20_memory R161) -/

/-- The entries and the reference counts of a TLB are in canonical form: the part of State.Canonical about the TLB. -/
structure TlbCanonical (t : TlbState) : Prop where
  entries : StoreWf tlbEntryZero t.entries
  refcnts : StoreWf 0 t.refcnts

section tlb

variable {t : TlbState}

theorem TlbCanonical.tlbSet (h : TlbCanonical t) (n : Nat) (e : TlbEntry) : TlbCanonical (tlbSet t n e) :=
  ⟨storeSet_wf _ _ _ _ h.entries, h.refcnts⟩

theorem TlbCanonical.tlbSetCount (h : TlbCanonical t) (n : Nat) (c : BitVec 32) : TlbCanonical (tlbSetCount t n c) :=
  ⟨h.entries, storeSet_wf _ _ _ _ h.refcnts⟩

theorem TlbCanonical.tlbUse (h : TlbCanonical t) (n : Nat) (k : AccessKind) : TlbCanonical (tlbUse t n k) :=
  (h.tlbSet _ _).tlbSetCount _ _

/-- Clearing the entries is a map that keeps their numbers, then leaving out those that are all zero. -/
theorem clearEntries_eq_filter_map (m : Store TlbEntry) :
    clearEntries m = (m.map fun p => (p.1, tlbCleared p.2)).filter fun p => p.2 ≠ tlbEntryZero := by
  induction m with
  | nil => rfl
  | cons p m ih =>
    rw [clearEntries, ih, List.map_cons, List.filter_cons]
    simp only [ne_eq, decide_not, Bool.not_eq_eq_eq_not, Bool.not_true, decide_eq_false_iff_not, ite_not]

theorem clearEntries_wf {m : Store TlbEntry} (h : StoreWf tlbEntryZero m) : StoreWf tlbEntryZero (clearEntries m) := by
  rw [clearEntries_eq_filter_map]
  refine ⟨List.Pairwise.filter _ (List.pairwise_map.2 ?_), fun p hp => ?_⟩
  · exact h.1
  · simpa using (List.mem_filter.1 hp).2

/-- Every TLB command keeps the form: two write an entry, one a count, one clears the entries; the others leave both. -/
theorem TlbCanonical.tlbCommand (h : TlbCanonical t) (cmd tn : BitVec 4) (v : Word) (idx : Nat) :
    TlbCanonical (tlbCommand cmd tn v idx t) := by
  unfold Machine.tlbCommand
  split
  case h_1 =>
    unfold tlbProbe
    split <;> exact ⟨h.entries, h.refcnts⟩
  case h_3 | h_4 => exact h.tlbSet _ _
  case h_7 =>
    unfold tlbRegSet
    split <;> exact ⟨h.entries, h.refcnts⟩
  case h_8 => exact ⟨clearEntries_wf h.entries, h.refcnts⟩
  case h_9 => exact h.tlbSetCount _ _
  all_goals exact ⟨h.entries, h.refcnts⟩

end tlb

/-! ## The canonical form of the state: every part of an instruction keeps it (20_memory R140) -/

namespace State.Canonical

variable {s : State} (h : s.Canonical)
include h

theorem tlbCanonical : TlbCanonical s.tlb := ⟨h.tlb, h.refcnts⟩

theorem withTlb {tl : TlbState} (ht : TlbCanonical tl) : State.Canonical { s with tlb := tl } :=
  { h with tlb := ht.entries, refcnts := ht.refcnts }

/-- Of the control and status registers only the code buffers are a store. -/
theorem withCsr {c : Csrs} (hc : StoreWf 0 c.codebuf) : State.Canonical { s with csr := c } :=
  { h with codebuf := hc }

theorem setReg (q : BitVec 6) (r : RegNo) (v : Word) : (s.setReg q r v).Canonical := by
  unfold State.setReg
  split
  · exact h
  · exact { h with xs := storeSet_wf _ _ _ _ h.xs }

theorem setVec (r : RegNo) (e : Nat) (w : Word) : (s.setVec r e w).Canonical :=
  { h with v := storeSet_wf _ _ _ _ h.v }

theorem noteAddr (ea : Word) : (noteAddr ea s).Canonical := h.withCsr h.codebuf

theorem noteMatch (b : BitVec 4) : (noteMatch b s).Canonical := h.withCsr h.codebuf

theorem noteInstr : (noteInstr s).Canonical := h.withCsr h.codebuf

theorem trapEnter (c : BitVec 8) (u : BitVec 6) (il : BitVec 4) (ret : Word) :
    (trapEnter c u il ret s).Canonical := { h with }

theorem memCommit (n pa v : Nat) : (memCommit n pa v s).Canonical := by
  obtain ⟨m, mt, st, rv, hc, hm, hmt, hst⟩ := memCommit_frame n pa v s
  rw [hc]
  exact { h with mem := hm h.mem, mapTab := hmt h.mapTab, icacheStale := hst h.icacheStale }

theorem atBus (n pa : Nat) : (atBus n pa s).Canonical := by
  obtain ⟨i, hi⟩ := atBus_frame n pa s
  rw [hi]
  exact { h with }

/-- Translation writes at most the entry that matched and its count, or MA. -/
theorem translateKind (a : Word) (k : AccessKind) : (translateKind a k s).Keeps State.Canonical := by
  unfold Machine.translateKind
  split
  case h_1 => exact .of_ok h
  case h_2 =>
    unfold translateTlb
    split
    · exact .of_ok h
    split
    case h_1 =>
      refine .of_exc ?_
      unfold tlbMiss
      split
      · exact h.withTlb ⟨h.tlb, h.refcnts⟩
      · exact h
    case h_2 n _ =>
      have used := h.withTlb (h.tlbCanonical.tlbUse n k)
      dsimp only
      split
      · exact .of_ok used
      · exact .of_exc used
  case h_3 =>
    unfold translateSimple
    dsimp only
    split
    · exact .of_ok h
    split
    · exact .of_ok h
    -- the page is 512 kB or 8 kB, and its entry permits the access or not
    split
    all_goals
      split
      · exact .of_ok h
      · exact .of_exc h

theorem translate (a : Word) (k : AccessKind) : (translate a k s).Keeps State.Canonical :=
  (h.translateKind a k).andThen fun _ _ h1 => .of_ok h1

/-- The checks of a data access keep the form: by the check that decides it. -/
theorem dataAccess (ea : Word) (n : Nat) (k : AccessKind) : (dataAccess ea n k s).Keeps State.Canonical := by
  by_cases ha : ea.toNat % n = 0
  · cases hd : debugHit s ea k with
    | true =>
      rw [dataAccess_of_debugHit ha hd]
      exact .of_exc ((h.noteMatch _).noteAddr ea)
    | false =>
      have translated := h.translate ea k
      cases ht : Machine.translate ea k s with
      | exc c t =>
        rw [dataAccess_of_translate_exc ha hd ht]
        exact .of_exc ((translated.2 c t ht).noteAddr ea)
      | ok pa t =>
        have ht' := translated.1 pa t ht
        rw [dataAccess_of_translate_ok ha hd ht]
        split
        · exact .of_ok (ht'.atBus n pa)
        · exact .of_exc (ht'.noteAddr ea)
  · rw [dataAccess_misaligned k s ha]
    exact .of_exc (h.noteAddr ea)

end State.Canonical

/-- Every part of an instruction keeps the form. -/
theorem Reaches.canonical {s t : State} (h : Reaches s t) (hs : s.Canonical) : t.Canonical := by
  induction h with
  | start => exact hs
  | reg r v _ _ ih => exact ih.setReg _ r v
  | vec r e w _ ih => exact ih.setVec r e w
  | access _ ha ih => exact (ih.dataAccess _ _ _).1 _ _ ha
  | accessFault _ ha ih => exact (ih.dataAccess _ _ _).2 _ _ ha
  | commit n pa v _ ih => exact ih.memCommit n pa v
  | tlb cmd tn v _ ih => exact ih.withTlb (ih.tlbCanonical.tlbCommand cmd tn v _)
  | tag k b _ ih => exact { ih with tagEnable := storeSet_wf _ _ _ _ ih.tagEnable }
  | instrCache _ ih => exact { ih with icacheStale := storeWf_nil none }
  | mask _ _ _ ih | reserve _ _ _ ih | endReservation _ _ ih | compareValue _ _ ih | aec _ _ ih | fstat _ _ ih
  | interruptMask _ _ ih | writeBarrier _ _ ih | chain _ _ ih | dataCache _ _ ih =>
    exact { ih with }

/-- The cause and the fault address of a level are no store (10_state R49, R50). -/
theorem setCause_codebuf (c : Csrs) (l : Nat) (v : BitVec 16) : (setCause c l v).codebuf = c.codebuf := by
  unfold setCause
  split <;> rfl

theorem setBadaddr_codebuf (c : Csrs) (l : Nat) (v : Word) : (setBadaddr c l v).codebuf = c.codebuf := by
  unfold setBadaddr
  split <;> rfl

/-- A write of a control and status register writes at most one code buffer. -/
theorem csrWrite_codebuf_wf {c : Csrs} (h : StoreWf 0 c.codebuf) (l n : Nat) (v : Word) :
    StoreWf 0 (csrWrite c l n v).codebuf := by
  unfold csrWrite
  split
  · unfold csrWriteMachine
    split
    · exact h
    split
    · exact h
    split
    · exact h
    split
    · exact storeSet_wf _ _ _ _ h
    · obtain ⟨-, -, -, hc⟩ := csrWritePlain_banks c n v
      rwa [hc]
  split
  · rwa [setCause_codebuf]
  split
  · rwa [setBadaddr_codebuf]
  · exact h

/-- Every ending of an instruction keeps the form. -/
theorem Ends.canonical {i : Instr} {s t : State} (h : Ends i s t) (hs : s.Canonical) : t.Canonical := by
  cases h with
  | goesTo p h => exact { h.canonical hs with }
  | traps c u il ret e h => exact { (h.canonical hs).noteInstr.trapEnter c u il ret with }
  | writesCsr ol n v rt old =>
    have written := (hs.withCsr (csrWrite_codebuf_wf hs.codebuf ol.toNat n v)).setReg s.rs rt old
    exact { written with }
  | redirects im pl tgt =>
    refine { hs with codebuf := ?_ }
    show StoreWf 0 (copyCause (s.setIm im).csr s.ol.toNat tgt.toNat).codebuf
    rw [copyCause, setBadaddr_codebuf, setCause_codebuf]
    exact hs.codebuf
  | moves d q rt ra hi set v => exact { hs.setReg set rt v with }
  | returns | stalls | setsVl | handsOn => exact { hs with }

/-! ## What a step can do, said once: its own updates, translation among them, and an instruction -/

/-- The states that a step can reach from s. Where KeptAround asks that a property hold with any TLB, translation is here
a constructor of its own, so that a property of the TLB can be kept too (20_memory R162). -/
inductive StepReaches (s : State) : State → Prop
  | start : StepReaches s s
  | reset {t : State} (h : StepReaches s t) : StepReaches s (resetEvent t)
  | translated {t u : State} {a : Word} {k : AccessKind} {pa : Nat} (h : StepReaches s t)
      (ht : translate a k t = .ok pa u) : StepReaches s u
  | translateFault {t u : State} {a : Word} {k : AccessKind} {c : BitVec 8} (h : StepReaches s t)
      (ht : translate a k t = .exc c u) : StepReaches s u
  | load {t : State} (n w : Nat) (h : StepReaches s t) : StepReaches s (t.load n w)
  | instr {t u : State} (i : Instr) (h : StepReaches s t) (he : exec i t = .next u) : StepReaches s u
  | setPc {t : State} (p : Word) (h : StepReaches s t) : StepReaches s (t.setPc p)
  | event {t : State} (e : Event) (h : StepReaches s t) : StepReaches s { t with event := e }
  | trap {t : State} (c : BitVec 8) (u : BitVec 6) (il : BitVec 4) (ret : Word) (h : StepReaches s t) :
      StepReaches s (trapEnter c u il ret t)
  | noteInstr {t : State} (h : StepReaches s t) : StepReaches s (noteInstr t)
  | noteMatch {t : State} (b : BitVec 4) (h : StepReaches s t) : StepReaches s (noteMatch b t)
  | retired {t : State} (h : StepReaches s t) : StepReaches s (countRetired t)
  | tick {t : State} (h : StepReaches s t) : StepReaches s (envTick t)

namespace StepReaches

variable {s t : State}

theorem raiseBare (c : BitVec 8) (h : StepReaches s t) : StepReaches s (raiseBare c t) := (h.trap _ _ _ _).event _

theorem raise (c : BitVec 8) (h : StepReaches s t) : StepReaches s (raise c t) := (h.noteInstr.trap _ _ _ _).event _

theorem reserved (h : StepReaches s t) : Answers (StepReaches s) (reserved t) := by
  unfold Machine.reserved reservedPart
  split
  · exact answers_next (h.raise _)
  · exact answers_next (h.setPc _)

theorem translate (h : StepReaches s t) (a : Word) (k : AccessKind) : (translate a k t).Keeps (StepReaches s) :=
  ⟨fun _ _ => h.translated, fun _ _ => h.translateFault⟩

theorem fetchPlace (h : StepReaches s t) (a : BitVec 40) (pa : Nat) : (fetchPlace a pa t).Keeps (StepReaches s) := by
  unfold Machine.fetchPlace
  split
  · exact h.translate _ _
  · exact .of_ok h

theorem fetchMore : ∀ (n : Nat) (a : BitVec 40) (pa : Nat) {t : State}, StepReaches s t →
    (fetchMore n a pa t).Keeps (StepReaches s)
  | 0, _, _, _, h => .of_ok h
  | n + 1, _, _, _, h =>
    (h.fetchPlace _ _).andThen fun _ _ h1 => (fetchByte_keeps h1).andThen fun _ _ h2 =>
      (fetchMore n _ _ h2).andThen fun _ _ h3 => .of_ok h3

theorem fetch (h : StepReaches s t) : (fetch t).Keeps (StepReaches s) :=
  (h.translate _ _).andThen fun _ _ h1 => (fetchByte_keeps h1).andThen fun _ _ h2 =>
    (fetchMore _ _ _ h2).andThen fun _ _ h3 => .of_ok h3

theorem runWord (w : Nat) (h : StepReaches s t) : Answers (StepReaches s) (runWord w t) := by
  unfold Machine.runWord execAtLevel
  split
  · exact h.reserved
  case h_2 i _ =>
    split
    · exact answers_next (h.raise _)
    · exact fun _ he => h.instr i he

theorem runBuffer (b : Word) (h : StepReaches s t) : Answers (StepReaches s) (runBuffer b t) := by
  have loaded : StepReaches s (t.loadBuffer b) := h.load _ _
  unfold Machine.runBuffer
  split
  · exact loaded.reserved
  · split
    · exact loaded.reserved
    · exact loaded.runWord _

theorem runInstr (n w : Nat) (h : StepReaches s t) : Answers (StepReaches s) (runInstr n w t) := by
  have ran := (h.load n w).runWord w
  unfold Machine.runInstr
  split
  case h_1 u hu =>
    split
    · exact answers_next (ran u hu)
    · exact (ran u hu).runBuffer _
  case h_2 => exact answers_fault
  case h_3 => exact answers_refused

theorem afterInstr (armed : Bool) (h : StepReaches s t) : StepReaches s (afterInstr armed t) := by
  unfold Machine.afterInstr singleStep
  split
  · exact h.retired.noteInstr.trap _ _ _ _
  · exact h.retired

theorem stepCore (h : StepReaches s t) : Answers (StepReaches s) (stepCore t) := by
  have fetched := h.fetch
  unfold Machine.stepCore
  split
  · exact answers_refused
  split
  · exact answers_next (h.trap _ _ _ _)
  split
  · exact answers_next ((h.noteMatch _).raiseBare _)
  split
  case h_1 c u hf => exact answers_next ((fetched.2 _ _ hf).raiseBare c)
  case h_2 nw u hf => exact answers_mapNext ((fetched.1 _ _ hf).runInstr _ _) fun _ => afterInstr _

end StepReaches

/-- Whatever a step answers, it can reach. -/
theorem step_reaches {s t : State} (h : step s = .next t) : StepReaches s t := by
  refine (?_ : Answers (StepReaches s) (step s)) t h
  unfold step
  split
  · exact answers_next (.reset .start)
  · exact answers_mapNext (StepReaches.start.stepCore) fun _ => .tick

/-! ## Every step keeps the canonical form -/

/-- The Reset event keeps memory, and empties the other stores (70_reset_and_hazards R1020). -/
theorem resetEvent_canonical {s : State} (h : Memory.wf s.mem) : (resetEvent s).Canonical where
  xs := storeWf_nil 0
  v := storeWf_nil 0
  codebuf := storeWf_nil 0
  tlb := storeWf_nil tlbEntryZero
  refcnts := storeWf_nil 0
  mapTab := storeWf_nil 0
  tagEnable := storeWf_nil false
  icacheStale := storeWf_nil none
  mem := h

theorem State.Canonical.countRetired {s : State} (h : s.Canonical) : (countRetired s).Canonical := by
  unfold Machine.countRetired
  split
  · exact h
  · exact { h with }

theorem StepReaches.canonical {s t : State} (h : StepReaches s t) (hs : s.Canonical) : t.Canonical := by
  induction h with
  | start => exact hs
  | reset _ ih => exact resetEvent_canonical ih.mem
  | translated _ ht ih => exact (ih.translate _ _).1 _ _ ht
  | translateFault _ ht ih => exact (ih.translate _ _).2 _ _ ht
  | instr i _ he ih => exact (exec_ends he).canonical ih
  | trap c u il ret _ ih => exact ih.trapEnter c u il ret
  | noteInstr _ ih => exact ih.noteInstr
  | noteMatch b _ ih => exact ih.noteMatch b
  | retired _ ih => exact ih.countRetired
  | tick _ ih => exact { ih with refcnts := tlbAge_refcnts_wf _ _ _ ih.refcnts }
  | load _ _ _ ih | setPc _ _ ih | event _ _ ih => exact { ih with }

/-- Settles O9: the form is kept by each thing that a step can do, an instruction among them. -/
theorem stepKeepsCanonicalForm : Obligations.StepKeepsCanonicalForm :=
  fun _ _ hs h => (step_reaches h).canonical hs

/-- Settles O11: reset is the Reset event of itself, with no memory listed; VL is 0. -/
theorem resetMeetsTheInvariants : Obligations.ResetMeetsTheInvariants :=
  ⟨resetEvent_canonical (s := State.reset) reset_mem_wf, keptAround_vl_le.reset State.reset⟩

end Sys2Proof.Machine

namespace Sys2Proof.Machine

/-! ## Fetch without memory management (20_memory R152, R196) -/

section fetch

variable {s : State}

/-- A coherent instruction cache returns the byte of the bus (20_memory R196). -/
theorem icacheByte_coherent (h : s.cfg.icacheCoherent = true) (pa : Nat) : icacheByte s pa = busByte s pa := by
  unfold icacheByte
  split
  · simp [h]
  · rfl

/-- An acknowledged byte is fetched as it stands on the bus. -/
theorem fetchByte_of_busOk {pa : Nat} (hc : s.cfg.icacheCoherent = true) (hb : busOk s.cfg pa .exec = true) :
    fetchByte pa s = .ok (busByte s pa) s := by
  rw [fetchByte, if_pos hb, icacheByte_coherent hc]

/-- A 40-bit address as a data address. -/
theorem toNat_zext64 {n : Nat} (hn : n ≤ 64) (a : BitVec n) : (zext64 a).toNat = a.toNat := by
  rw [zext64, BitVec.toNat_setWidth, Nat.mod_eq_of_lt]
  exact Nat.lt_of_lt_of_le a.isLt (Nat.pow_le_pow_right (by omega) hn)

/-- The byte after an address lies one on in the physical address space, which the 40-bit address space covers. -/
theorem nextByteAddr_mod {p : Nat} (hp : p ≤ 40) (a : BitVec 40) :
    (nextByteAddr a).toNat % 2 ^ p = (a.toNat % 2 ^ p + 1) % 2 ^ p := by
  rw [nextByteAddr, BitVec.toNat_add, Nat.mod_mod_of_dvd _ (Nat.pow_dvd_pow 2 hp), Nat.mod_add_mod]
  rfl

/-- Without memory management each byte lies at its address cut to PA_BITS, at the start of a page and inside one. -/
theorem fetchPlace_none (hm : s.cfg.mmuKind = .none) (hp : s.cfg.paBits ≤ 40) (a : BitVec 40) :
    fetchPlace (nextByteAddr a) (a.toNat % 2 ^ s.cfg.paBits) s =
      .ok ((nextByteAddr a).toNat % 2 ^ s.cfg.paBits) s := by
  unfold fetchPlace
  split
  · rw [translate_none _ _ _ hm, toNat_zext64 (by decide)]
  · rw [nextByteAddr_mod hp]

/-- The bytes that follow the one at a are those of the bus from the next place q on. -/
theorem fetchMore_none (hm : s.cfg.mmuKind = .none) (hc : s.cfg.icacheCoherent = true) (hp : s.cfg.paBits ≤ 40) :
    ∀ (n : Nat) (a : BitVec 40) (q : Nat), q % 2 ^ s.cfg.paBits = (nextByteAddr a).toNat % 2 ^ s.cfg.paBits →
      busAllOk s.cfg .exec n q = true → fetchMore n a (a.toNat % 2 ^ s.cfg.paBits) s = .ok (busRead s n q) s
  | 0, _, _, _, _ => rfl
  | n + 1, a, q, hq, hb => by
    obtain ⟨first, others⟩ := Bool.and_eq_true_iff.1 hb
    have next : (q + 1) % 2 ^ s.cfg.paBits = (nextByteAddr (nextByteAddr a)).toNat % 2 ^ s.cfg.paBits := by
      rw [nextByteAddr_mod hp (nextByteAddr a), ← hq, Nat.mod_add_mod]
    rw [fetchMore, fetchPlace_none hm hp, Res.ok_andThen, ← hq, fetchByte_of_busOk hc first, Res.ok_andThen, hq,
      fetchMore_none hm hc hp n (nextByteAddr a) (q + 1) next others, Res.ok_andThen, busRead, hq]

/-- Every length field asks for at least the byte that holds it (30_encoding R220). -/
theorem lengthOf_pos (b : Nat) : 0 < lengthOf b := by
  unfold lengthOf
  split <;> decide

end fetch

/-- Settles O6: the first byte, then the bytes that follow it, are those of the bus. -/
theorem fetchReadsLittleEndianBytes : Obligations.FetchReadsLittleEndianBytes := by
  intro s hm hc hp pa n hb
  have reduced : pa % 2 ^ s.cfg.paBits = pa := Nat.mod_mod _ _
  obtain ⟨m, hn⟩ : ∃ m, n = m + 1 := Nat.exists_eq_add_one.2 (lengthOf_pos _)
  rw [hn] at hb
  obtain ⟨first, others⟩ := Bool.and_eq_true_iff.1 hb
  rw [reduced] at first
  have next : (pa + 1) % 2 ^ s.cfg.paBits = (nextByteAddr (field s.pc 0 40)).toNat % 2 ^ s.cfg.paBits :=
    (nextByteAddr_mod hp _).symm
  have rest := fetchMore_none hm hc hp m (field s.pc 0 40) (pa + 1) next others
  have len : lengthOf (busByte s pa).toNat = m + 1 := hn
  rw [fetch, translate_none _ _ _ hm, toNat_zext64 (by decide), Res.ok_andThen, fetchByte_of_busOk hc first,
    Res.ok_andThen, len, Nat.add_sub_cancel, rest, Res.ok_andThen, hn, busRead, reduced]

end Sys2Proof.Machine

namespace Sys2Proof.Machine

/-! ## Translation by the TLB (20_memory R162 to R167) -/

section translateTlb

variable {s : State} {va : Word} {k : AccessKind}

/-- What the kind of translation answers is cut to PA_BITS (20_memory R142). -/
theorem translate_of_kind_ok {p : Word} {t : State} (h : translateKind va k s = .ok p t) :
    translate va k s = .ok (p.toNat % 2 ^ t.cfg.paBits) t := by
  rw [translate, h, Res.ok_andThen]

theorem translate_of_kind_exc {c : BitVec 8} {t : State} (h : translateKind va k s = .exc c t) :
    translate va k s = .exc c t := by
  rw [translate, h, Res.exc_andThen]

/-- The search of the TLB finds the one entry that matches. -/
theorem tlbHits_eq_singleton {t : TlbState} {asid : BitVec 8} {n : Nat} (hn : n < 256)
    (h : ∀ j < 256, tlbHit (tlbGet t j) va asid = decide (j = n)) : tlbHits t va asid = [n] := by
  have only : tlbHits t va asid = (List.range 256).filter (· = n) :=
    List.filter_congr fun j hj => h j (List.mem_range.1 hj)
  rw [only, List.filter_eq, List.count_eq_one_of_mem List.nodup_range (List.mem_range.2 hn), List.replicate_one]

/-- The search of the TLB finds nothing where nothing matches. -/
theorem tlbHits_eq_nil {t : TlbState} {asid : BitVec 8} (h : ∀ j < 256, tlbHit (tlbGet t j) va asid = false) :
    tlbHits t va asid = [] :=
  List.filter_eq_nil_iff.2 fun j hj => ne_true_of_eq_false (h j (List.mem_range.1 hj))

variable (hk : s.cfg.mmuKind = .tlb) (he : s.tlb.enabled = true)
include hk he

theorem translateKind_tlb_hit {n : Nat} (h : tlbHits s.tlb va s.asid = [n]) :
    translateKind va k s =
      if tlbPermits (tlbGet s.tlb n) k then .ok (tlbPa (tlbGet s.tlb n) va) { s with tlb := tlbUse s.tlb n k }
      else .exc (permCause k) { s with tlb := tlbUse s.tlb n k } := by
  simp only [translateKind, hk, translateTlb, he, h, tlbPick, reduceCtorEq, if_false]

theorem translateKind_tlb_miss (h : tlbHits s.tlb va s.asid = []) :
    translateKind va k s = .exc causeTLB (tlbMiss va s) := by
  simp only [translateKind, hk, translateTlb, he, h, tlbPick, reduceCtorEq, if_false]

end translateTlb

/-! ## Translation by the simplified unit (20_memory R170 to R175) -/

/-- A field above another, as a number. -/
theorem toNat_zext64_append {m n : Nat} (h : m + n ≤ 64) (a : BitVec m) (b : BitVec n) :
    (zext64 (a ++ b)).toNat = a.toNat * 2 ^ n + b.toNat := by
  rw [toNat_zext64 h, BitVec.toNat_append, ← Nat.shiftLeft_add_eq_or_of_lt b.isLt, Nat.shiftLeft_eq]

section translateSimple

variable (s : State) (va : Word)

/-- The map entry of the operating key that an address names (20_memory R172, R173). -/
def pageEntry : BitVec 21 :=
  mapGet s (field s.csr.pcr 0 6).toNat
    (if bitAt s.csr.pcr2 (field s.csr.pcr 0 6).toNat then (field va 19 10).toNat else (field va 13 10).toNat)

/-- The address that entry gives: a page of 512 kB or of 8 kB (20_memory R174). -/
def pageAddr : Word :=
  if bitAt s.csr.pcr2 (field s.csr.pcr 0 6).toNat then zext64 (field (pageEntry s va) 6 10 ++ field va 0 19)
  else zext64 (field (pageEntry s va) 0 16 ++ field va 0 13)

variable {s va} {k : AccessKind} (hk : s.cfg.mmuKind = .simple)
include hk

/-- The address passes unchanged with the unit off, and where it lies in the upper part of the address space. -/
theorem translateKind_simple_passes (h : bitAt s.csr.pcr 31 = false ∨ field va 29 3 ≠ (0 : BitVec 3)) :
    translateKind va k s = .ok va s := by
  simp only [translateKind, hk, translateSimple]
  split
  · rfl
  · rw [if_pos (h.resolve_left ‹_›)]

/-- A mapped address: its entry gives the page, or the fault of the kind. -/
theorem translateKind_simple_mapped (hon : bitAt s.csr.pcr 31 = true) (hlow : field va 29 3 = (0 : BitVec 3)) :
    translateKind va k s =
      if mapPermits (pageEntry s va) k then .ok (pageAddr s va) s else .exc (permCause k) s := by
  simp only [translateKind, hk, translateSimple, hon, hlow, reduceCtorEq, if_false, ne_eq, not_true_eq_false]
  rfl

end translateSimple

/-- Settles O25: the three outcomes of the TLB's search, and the two of the map. -/
theorem translationFollowsEntryAndMap : Obligations.TranslationFollowsEntryAndMap := by
  refine ⟨fun s va k hk he => ⟨?_, fun none => ?_⟩, ?_⟩
  · intro n hn hits e t
    have hit := translateKind_tlb_hit (k := k) hk he (tlbHits_eq_singleton hn hits)
    exact ⟨fun permitted => translate_of_kind_ok (hit.trans (if_pos permitted)),
      fun denied => translate_of_kind_exc (hit.trans (if_neg (ne_true_of_eq_false denied)))⟩
  · exact translate_of_kind_exc (translateKind_tlb_miss hk he (tlbHits_eq_nil none))
  · intro s va k hk m big e allowed page
    have entry : e = pageEntry s va := by
      simp only [e, big, m, pageEntry, mapGet, apply_ite BitVec.toNat]
    have permits : allowed = mapPermits (pageEntry s va) k := by
      rw [← entry]
      cases k <;> rfl
    have address : page = (pageAddr s va).toNat := by
      simp only [page, pageAddr, ← entry]
      rw [apply_ite BitVec.toNat, toNat_zext64_append (by decide), toNat_zext64_append (by decide)]
    refine ⟨fun h => translate_of_kind_ok (translateKind_simple_passes hk h), fun hon hlow h => ?_,
      fun hon hlow h => ?_⟩
    · have mapped := translateKind_simple_mapped (k := k) hk hon hlow
      rw [if_pos (permits ▸ h)] at mapped
      rw [translate_of_kind_ok mapped, address]
    · have mapped := translateKind_simple_mapped (k := k) hk hon hlow
      rw [if_neg (ne_true_of_eq_false (permits ▸ h))] at mapped
      exact translate_of_kind_exc mapped

end Sys2Proof.Machine

namespace Sys2Proof.Machine

/-! ## The bus: bytes and numbers (20_memory R141) -/

section bus

variable {s : State}

/-- The bytes of a value, read low byte first, are the value modulo 256 to their number. -/
theorem busRead_of_bytes : ∀ (n pa v : Nat),
    (∀ k < n, busByte s ((pa + k) % 2 ^ s.cfg.paBits) = BitVec.ofNat 8 (v / 256 ^ k)) → busRead s n pa = v % 256 ^ n
  | 0, _, _, _ => by rw [busRead, Nat.pow_zero, Nat.mod_one]
  | n + 1, pa, v, h => by
    have first : busByte s (pa % 2 ^ s.cfg.paBits) = BitVec.ofNat 8 v := by simpa using h 0 n.succ_pos
    have others := busRead_of_bytes n (pa + 1) (v / 256) fun k hk => by
      rw [Nat.add_right_comm pa 1 k, Nat.add_assoc pa k 1, h (k + 1) (by omega), Nat.div_div_eq_div_mul, Nat.pow_succ']
    have split : v % 256 ^ (n + 1) = v % 256 + 256 * (v / 256 % 256 ^ n) := by rw [Nat.pow_succ', Nat.mod_mul]
    rw [busRead, first, others, split, BitVec.toNat_ofNat]

/-- A claim about each of n + 1 places is one about the first and one about the n that follow it. -/
theorem forall_places_succ {P : Nat → Prop} {n pa : Nat} :
    (∀ k < n + 1, P (pa + k)) ↔ P pa ∧ ∀ k < n, P (pa + 1 + k) := by
  have shift (k : Nat) : pa + 1 + k = pa + (k + 1) := by omega
  constructor
  · intro h
    exact ⟨h 0 n.succ_pos, fun k hk => shift k ▸ h (k + 1) (by omega)⟩
  · rintro ⟨first, others⟩ k hk
    cases k with
    | zero => exact first
    | succ k => exact shift k ▸ others k (by omega)

theorem anyDevice_eq_false_iff (c : Config) (n pa : Nat) :
    anyDevice c n pa = false ↔ ∀ k < n, isDevice c ((pa + k) % 2 ^ c.paBits) = false := by
  induction n generalizing pa with
  | zero => simp [anyDevice]
  | succ n ih =>
    rw [anyDevice, Bool.or_eq_false_iff, ih,
      forall_places_succ (P := fun a => isDevice c (a % 2 ^ c.paBits) = false)]

theorem busAllOk_iff (c : Config) (k : AccessKind) (n pa : Nat) :
    busAllOk c k n pa = true ↔ ∀ j < n, busOk c ((pa + j) % 2 ^ c.paBits) k = true := by
  induction n generalizing pa with
  | zero => simp [busAllOk]
  | succ n ih =>
    rw [busAllOk, Bool.and_eq_true, ih, forall_places_succ (P := fun a => busOk c (a % 2 ^ c.paBits) k = true)]

/-- A byte that neither the window nor a device answers for is a byte of memory. -/
theorem busByte_memory {pa : Nat} (hw : inMapWindow s.cfg pa = false) (hd : isDevice s.cfg pa = false) :
    busByte s pa = memByte s pa := by
  rw [busByte, hw, hd, if_neg Bool.false_ne_true, if_neg Bool.false_ne_true]

/-- Memory reads the byte that was stored there. -/
theorem memByte_setBusByte_same {pa : Nat} (b : Byte) (hw : inMapWindow s.cfg pa = false)
    (hd : isDevice s.cfg pa = false) (hm : Memory.wf s.mem) : memByte (setBusByte s pa b) pa = b := by
  obtain ⟨st, hs, -⟩ := setMemByte_frame s pa b
  rw [setBusByte, hw, hd, if_neg Bool.false_ne_true, if_neg Bool.false_ne_true, hs]
  exact storeGet_storeSet_same _ _ _ _ hm

@[simp] theorem setBusByte_cfg (pa : Nat) (b : Byte) : (setBusByte s pa b).cfg = s.cfg := by
  obtain ⟨m, mt, st, hs, -⟩ := setBusByte_frame s pa b
  rw [hs]

@[simp] theorem busWrite_cfg (n pa v : Nat) : (busWrite s n pa v).cfg = s.cfg := by
  obtain ⟨m, mt, st, hs, -⟩ := busWrite_frame n pa v s
  rw [hs]

theorem setBusByte_mem_wf {pa : Nat} (b : Byte) (hm : Memory.wf s.mem) : Memory.wf (setBusByte s pa b).mem := by
  obtain ⟨m, mt, st, hs, wf, -⟩ := setBusByte_frame s pa b
  rw [hs]
  exact wf hm

/-- Two places of an access are apart: it is no longer than the address space. -/
theorem wrapped_ne {pa j k m : Nat} (hj : j < m) (hk : k < m) (h : j ≠ k) : (pa + j) % m ≠ (pa + k) % m := by
  intro same
  have : j % m = k % m := Nat.ModEq.add_left_cancel' pa same
  rw [Nat.mod_eq_of_lt hj, Nat.mod_eq_of_lt hk] at this
  exact h this

/-- Memory reads the bytes that were stored: no later byte of the store falls on an earlier one. -/
theorem memByte_busWrite : ∀ (n pa v : Nat) (s : State), Memory.wf s.mem → n ≤ 2 ^ s.cfg.paBits →
    (∀ k < n, inMapWindow s.cfg ((pa + k) % 2 ^ s.cfg.paBits) = false) →
    (∀ k < n, isDevice s.cfg ((pa + k) % 2 ^ s.cfg.paBits) = false) →
    ∀ k < n, memByte (busWrite s n pa v) ((pa + k) % 2 ^ s.cfg.paBits) = BitVec.ofNat 8 (v / 256 ^ k)
  | 0, _, _, _, _, _, _, _, k, hk => absurd hk k.not_lt_zero
  | n + 1, pa, v, s, hm, hn, hw, hd, k, hk => by
    have shift (j : Nat) : pa + 1 + j = pa + (j + 1) := by omega
    rw [busWrite]
    cases k with
    | zero =>
      rw [memByte_busWrite_other, Nat.pow_zero, Nat.div_one]
      · exact memByte_setBusByte_same _ (hw 0 hk) (hd 0 hk) hm
      · intro j hj
        rw [setBusByte_cfg, shift]
        exact wrapped_ne (by omega) (by omega) (by omega)
    | succ k =>
      have later := memByte_busWrite n (pa + 1) (v / 256) (setBusByte s (pa % 2 ^ s.cfg.paBits) (BitVec.ofNat 8 v))
        (setBusByte_mem_wf _ hm) (by rw [setBusByte_cfg]; omega)
        (fun j hj => by rw [setBusByte_cfg, shift]; exact hw _ (by omega))
        (fun j hj => by rw [setBusByte_cfg, shift]; exact hd _ (by omega)) k (by omega)
      rwa [setBusByte_cfg, shift, Nat.div_div_eq_div_mul, ← Nat.pow_succ'] at later

/-- Where devices answer for every byte, the store leaves the machine (log 14). -/
theorem busWrite_devices : ∀ (n pa v : Nat), (∀ k < n, isDevice s.cfg ((pa + k) % 2 ^ s.cfg.paBits) = true) →
    busWrite s n pa v = s
  | 0, _, _, _ => rfl
  | n + 1, pa, v, h => by
    have first : isDevice s.cfg (pa % 2 ^ s.cfg.paBits) = true := h 0 n.succ_pos
    have outside : inMapWindow s.cfg (pa % 2 ^ s.cfg.paBits) = false := by
      simpa using (Bool.and_eq_true_iff.1 first).1
    rw [busWrite, setBusByte, outside, first, if_neg Bool.false_ne_true, if_pos rfl]
    refine busWrite_devices n (pa + 1) (v / 256) fun k hk => ?_
    rw [show pa + 1 + k = pa + (k + 1) by omega]
    exact h (k + 1) (by omega)

end bus

/-! ## The map-table window of the simplified unit (20_memory R172) -/

/-- The key of entry i of the map PCR.AKey, which the window shows. -/
abbrev windowKey (s : State) (i : Nat) : Nat := (field s.csr.pcr 8 6).toNat * 1024 + i

/-- The entry of the window. -/
def windowEntry (s : State) (i : Nat) : BitVec 21 := storeGet 0 s.mapTab (windowKey s i)

/-- The state with that entry replaced. -/
def setWindowEntry (s : State) (i : Nat) (e : BitVec 21) : State :=
  { s with mapTab := storeSet 0 s.mapTab (windowKey s i) e }

theorem windowEntry_setWindowEntry {s : State} (h : StoreWf 0 s.mapTab) (i : Nat) (e : BitVec 21) :
    windowEntry (setWindowEntry s i e) i = e := storeGet_storeSet_same _ _ _ _ h

/-- An entry with byte j of its 32-bit word replaced. -/
def entryWithByte (e : BitVec 21) (j : Nat) (b : Byte) : BitVec 21 :=
  field (setField (e.setWidth 32) (8 * j) b) 0 21

theorem getLsbD_entryWithByte (e : BitVec 21) (j : Nat) (b : Byte) {x : Nat} (hx : x < 21) :
    (entryWithByte e j b).getLsbD x = if 8 * j ≤ x ∧ x < 8 * j + 8 then b.getLsbD (x - 8 * j) else e.getLsbD x := by
  rw [entryWithByte, field, BitVec.getLsbD_extractLsb', Nat.zero_add, getLsbD_setField _ _ _ _ (by omega)]
  simp [hx, show x < 32 by omega]

/-- Byte j of entry i lies in the window, four bytes to an entry. -/
theorem inMapWindow_entry {c : Config} (hk : c.mmuKind = .simple) {i j : Nat} (hi : i < 1024) (hj : j < 4) :
    inMapWindow c (0xFFDC4000 + 4 * i + j) = true := by
  simp only [inMapWindow, hk, beq_self_eq_true, Bool.true_and, Bool.and_eq_true, decide_eq_true_eq]
  omega

/-- The window lies below 2^32. -/
theorem window_mod {p i j : Nat} (hp : 32 ≤ p) (hi : i < 1024) (hj : j < 4) :
    (0xFFDC4000 + 4 * i + j) % 2 ^ p = 0xFFDC4000 + 4 * i + j := by
  have : 2 ^ 32 ≤ 2 ^ p := Nat.pow_le_pow_right (by omega) hp
  exact Nat.mod_eq_of_lt (by omega)

section window

variable {s : State} {i : Nat} (hk : s.cfg.mmuKind = .simple) (hp : 32 ≤ s.cfg.paBits) (hi : i < 1024)
include hk hi

/-- The bus reads byte j of the entry. -/
theorem busByte_window {j : Nat} (hj : j < 4) :
    busByte s (0xFFDC4000 + 4 * i + j) = BitVec.ofNat 8 ((windowEntry s i).toNat / 256 ^ j) := by
  have index : (0xFFDC4000 + 4 * i + j - 0xFFDC4000) / 4 = i := by omega
  have place : (0xFFDC4000 + 4 * i + j) % 4 = j := by omega
  rw [busByte, inMapWindow_entry hk hi hj, if_pos rfl, windowByte, index, place]
  apply BitVec.eq_of_toNat_eq
  have small : (windowEntry s i).toNat < 2 ^ 32 := Nat.lt_trans (windowEntry s i).isLt (by decide)
  rw [field, BitVec.extractLsb'_toNat, BitVec.toNat_setWidth, BitVec.toNat_ofNat, Nat.shiftRight_eq_div_pow,
    Nat.pow_mul]
  exact congrArg (· / 256 ^ j % 256) (Nat.mod_eq_of_lt small)

/-- A byte stored in the window replaces byte j of the entry, and nothing else. -/
theorem setBusByte_window {j : Nat} (hj : j < 4) (b : Byte) :
    setBusByte s (0xFFDC4000 + 4 * i + j) b = setWindowEntry s i (entryWithByte (windowEntry s i) j b) := by
  have index : (0xFFDC4000 + 4 * i + j - 0xFFDC4000) / 4 = i := by omega
  have place : (0xFFDC4000 + 4 * i + j) % 4 = j := by omega
  rw [setBusByte, inMapWindow_entry hk hi hj, if_pos rfl, setWindowByte, index, place]
  rfl

include hp

/-- The four bytes of the window read the entry; bits 31:21 are zero. -/
theorem busRead_window : busRead s 4 (0xFFDC4000 + 4 * i) = (windowEntry s i).toNat := by
  rw [busRead_of_bytes 4 _ (windowEntry s i).toNat fun j hj => ?_, Nat.mod_eq_of_lt]
  · exact Nat.lt_trans (windowEntry s i).isLt (by decide)
  · rw [window_mod hp hi hj, busByte_window hk hi hj]

/-- The window acknowledges every access, and is no device. -/
theorem window_acknowledges (k : AccessKind) :
    busAllOk s.cfg k 4 (0xFFDC4000 + 4 * i) = true ∧ anyDevice s.cfg 4 (0xFFDC4000 + 4 * i) = false := by
  constructor
  · refine (busAllOk_iff _ _ _ _).2 fun j hj => ?_
    rw [window_mod hp hi hj, busOk, inMapWindow_entry hk hi hj, Bool.true_or]
  · refine (anyDevice_eq_false_iff _ _ _).2 fun j hj => ?_
    rw [window_mod hp hi hj, isDevice, inMapWindow_entry hk hi hj, Bool.not_true, Bool.false_and]

/-- An access to an entry passes its checks: the window lies above the mapped part of the address space. -/
theorem dataAccess_window (k : AccessKind) (hd : s.cfg.supportDbg = false ∨ field s.csr.dbcr 0 4 = (0 : BitVec 4)) :
    dataAccess (BitVec.ofNat 64 (0xFFDC4000 + 4 * i)) 4 k s = .ok (0xFFDC4000 + 4 * i) s := by
  have num : (BitVec.ofNat 64 (0xFFDC4000 + 4 * i)).toNat = 0xFFDC4000 + 4 * i := by
    rw [BitVec.toNat_ofNat, Nat.mod_eq_of_lt (by omega)]
  have aligned : (BitVec.ofNat 64 (0xFFDC4000 + 4 * i)).toNat % 4 = 0 := by omega
  have high : field (BitVec.ofNat 64 (0xFFDC4000 + 4 * i)) 29 3 ≠ (0 : BitVec 3) := by
    intro zero
    have top := congrArg BitVec.toNat zero
    rw [field, BitVec.extractLsb'_toNat, num, Nat.shiftRight_eq_div_pow] at top
    change _ = 0 at top
    omega
  have passes := translate_of_kind_ok (translateKind_simple_passes (k := k) hk (.inr high))
  have uncut : (0xFFDC4000 + 4 * i) % 2 ^ s.cfg.paBits = 0xFFDC4000 + 4 * i := window_mod (j := 0) hp hi (by decide)
  rw [num, uncut] at passes
  obtain ⟨ack, memory⟩ := window_acknowledges hk hp hi k
  rw [dataAccess_of_translate_ok aligned (debugHit_eq_false hd) passes, if_pos ack, atBus_memory memory]

end window

/-- Bytes j to j + n of an entry stored: its bits from 8 j on are those of the value, the others and every other entry
stay, and nothing else changes. -/
theorem busWrite_window {i : Nat} (hi : i < 1024) : ∀ (n j u : Nat) (s : State), s.cfg.mmuKind = .simple →
    32 ≤ s.cfg.paBits → j + n ≤ 4 → StoreWf 0 s.mapTab → ∃ mt,
      busWrite s n (0xFFDC4000 + 4 * i + j) u = { s with mapTab := mt } ∧
      (∀ k, k ≠ windowKey s i → storeGet 0 mt k = storeGet 0 s.mapTab k) ∧
      ∀ x < 21, (storeGet 0 mt (windowKey s i)).getLsbD x =
        if 8 * j ≤ x ∧ x < 8 * (j + n) then u.testBit (x - 8 * j) else (windowEntry s i).getLsbD x
  | 0, j, u, s, _, _, _, _ => ⟨s.mapTab, rfl, fun _ _ => rfl, fun x _ => by rw [if_neg (by omega)]; rfl⟩
  | n + 1, j, u, s, hk, hp, hj, hw => by
    obtain ⟨mt, hmt, others, bits⟩ := busWrite_window hi n (j + 1) (u / 256)
      (setWindowEntry s i (entryWithByte (windowEntry s i) j (BitVec.ofNat 8 u))) hk hp (by omega)
      (storeSet_wf _ _ _ _ hw)
    refine ⟨mt, ?_, fun k hne => ?_, fun x hx => ?_⟩
    · rw [busWrite, window_mod hp hi (by omega), setBusByte_window hk hi (by omega)]
      exact hmt
    · exact (others k hne).trans (storeGet_storeSet_other _ _ _ _ hne _)
    · have shifted : (u / 256).testBit (x - 8 * (j + 1)) = u.testBit (x - 8 * (j + 1) + 8) := by
        rw [← Nat.testBit_div_two_pow]
      refine (bits x hx).trans ?_
      rw [windowEntry_setWindowEntry hw, getLsbD_entryWithByte _ _ _ hx, shifted, BitVec.getLsbD_ofNat]
      by_cases below : x < 8 * j
      · rw [if_neg (by omega), if_neg (by omega), if_neg (by omega)]
      · by_cases here : x < 8 * j + 8
        · rw [if_neg (by omega), if_pos (by omega), if_pos (by omega), decide_eq_true (by omega), Bool.true_and]
        · rw [show x - 8 * (j + 1) + 8 = x - 8 * j by omega]
          by_cases later : x < 8 * (j + (n + 1))
          · rw [if_pos (by omega), if_pos (by omega)]
          · rw [if_neg (by omega), if_neg (by omega), if_neg (by omega)]

/-- The four bytes of a value stored at an entry: it becomes the low 21 bits of the value. -/
theorem busWrite_window_entry {s : State} {i : Nat} (hk : s.cfg.mmuKind = .simple) (hp : 32 ≤ s.cfg.paBits)
    (hi : i < 1024) (hw : StoreWf 0 s.mapTab) (v : Word) : ∃ mt,
      busWrite s 4 (0xFFDC4000 + 4 * i) v.toNat = { s with mapTab := mt } ∧
      (∀ k, k ≠ windowKey s i → storeGet 0 mt k = storeGet 0 s.mapTab k) ∧
      storeGet 0 mt (windowKey s i) = field v 0 21 := by
  obtain ⟨mt, hmt, others, bits⟩ := busWrite_window hi 4 0 v.toNat s hk hp (by decide) hw
  refine ⟨mt, hmt, others, BitVec.eq_of_getLsbD_eq fun x hx => ?_⟩
  rw [bits x hx, if_pos (by omega), field, BitVec.getLsbD_extractLsb']
  simp [hx, BitVec.testBit_toNat]

/-! ## A load and a store, by their access -/

section access

variable {s t : State} {ea : Word} {n pa : Nat}

/-- A result is written and the instruction goes on, or the write is a stack fault. -/
theorem writeX_eq (rt : RegNo) (v : Word) (s : State) :
    writeX rt v s = .next (if stackFault s s.rs rt v then raise causeSTK s else (s.setX rt v).advance) := by
  rw [writeX, putX, putReg]
  split <;> rfl

/-- A signed load whose checks pass writes what it read in the state that its access left. -/
theorem loadSigned_of_ok (rt : RegNo) (h : dataAccess ea n .read s = .ok pa t) :
    loadSigned n rt ea s = writeX rt (signBytes n (busRead t n pa)) t := by
  rw [loadSigned, memRead, h, Res.ok_andThen, Res.ok_andThen, writeX]

/-- A store whose checks pass is committed in the state that its access left. -/
theorem storeWord_of_ok (v : Word) (h : dataAccess ea n .write s = .ok pa t) :
    storeWord n v ea s = .next (memCommit n pa v.toNat t).advance := by
  rw [storeWord, memWrite, h, Res.ok_andThen, Res.retire_ok]

/-- A committed store is the bytes on the bus, and ends a reservation that it overlaps (20_memory R198). -/
theorem memCommit_eq (n pa v : Nat) (s : State) :
    memCommit n pa v s =
      { busWrite s n pa v with resvValid := s.resvValid && !breaksReservation s n pa } := by
  obtain ⟨m, mt, st, h, -⟩ := busWrite_frame n pa v s
  rw [memCommit, h]
  cases breaksReservation s n pa <;> simp

end access

/-- A map entry has no sign: a signed load of its 32 bits is the zero-extended entry. -/
theorem signBytes_entry (e : BitVec 21) : signBytes 4 e.toNat = zext64 e := by
  have small := e.isLt
  have positive : (BitVec.ofNat (8 * 4) e.toNat).msb = false := by
    rw [BitVec.msb_eq_decide, BitVec.toNat_ofNat, decide_eq_false_iff_not]
    omega
  apply BitVec.eq_of_toNat_eq
  rw [signBytes, sext64, BitVec.signExtend_eq_setWidth_of_msb_false positive, toNat_zext64 (by decide),
    BitVec.toNat_setWidth, BitVec.toNat_ofNat]
  omega

/-- Settles O27: memory reads the bytes of a store back; the window's load and store are those of its entry. -/
theorem memoryReadsWhatWasStored : Obligations.MemoryReadsWhatWasStored := by
  refine ⟨fun s n pa v hs hn => ⟨fun memory outside => ?_, busWrite_devices n pa v,
    fun a => memByte_busWrite_other a n pa v s⟩, ?_⟩
  · have noDevice := (anyDevice_eq_false_iff _ _ _).1 memory
    have stored := memByte_busWrite n pa v s hs.mem hn outside noDevice
    refine ⟨busRead_of_bytes n pa v fun k hk => ?_, stored⟩
    rw [busWrite_cfg, busByte_memory (by rw [busWrite_cfg, outside k hk]) (by rw [busWrite_cfg, noDevice k hk]),
      stored k hk]
  · intro s i rt rb ra d hk hp hi hd hea key entry
    have access (k : AccessKind) : dataAccess (eaDisp s ra d) 4 k s = .ok (0xFFDC4000 + 4 * i) s := by
      rw [eaDisp, hea, dataAccess_window hk hp hi k hd]
    refine ⟨?_, fun hw => ?_⟩
    · have loads : ∀ j ∈ [Instr.lhu rt ra d, .lh rt ra d], exec j s = writeX rt entry s := by
        simp only [List.forall_mem_cons, List.not_mem_nil, false_implies, implies_true, and_true]
        constructor
        · rw [exec_lhu, execLhu, loadZero_of_ok (access .read), busRead_window hk hp hi]
          exact congrArg (writeX rt · s) (BitVec.ofNat_toNat 64 _)
        · rw [exec_lh, execLh, loadSigned_of_ok rt (access .read), busRead_window hk hp hi, signBytes_entry]
          rfl
      intro j hj
      rw [loads j hj, writeX_eq]
      exact ⟨fun h => by rw [h]; rfl, fun h => by rw [h]; rfl⟩
    · obtain ⟨mt, hmt, others, written⟩ := busWrite_window_entry hk hp hi hw (s.x rb)
      refine ⟨_, (exec_sh s rb ra d).trans (storeWord_of_ok (s.x rb) (access .write)), ?_⟩
      rw [memCommit_eq, hmt]
      exact ⟨written, others, rfl, rfl⟩

end Sys2Proof.Machine

namespace Sys2Proof

/-! ## Fields of a word (30_encoding R222)

A layout is written with `pack`, one field above the other; the field lemmas then read every field of a packed word. -/

/-- The word whose low n bits are the field a and whose other bits are the word w. -/
def pack {n : Nat} (a : BitVec n) (w : Nat) : Nat := a.toNat + 2 ^ n * w

theorem pack_zero {n : Nat} (a : BitVec n) : pack a 0 = a.toNat := by simp [pack]

@[simp] theorem pack_shiftRight {n lo : Nat} (a : BitVec n) (w : Nat) (h : n ≤ lo) :
    pack a w >>> lo = w >>> (lo - n) := by
  obtain ⟨k, rfl⟩ := Nat.exists_eq_add_of_le h
  rw [Nat.shiftRight_add, Nat.add_sub_cancel_left, pack, Nat.shiftRight_eq_div_pow _ n,
    Nat.add_mul_div_left _ _ (Nat.two_pow_pos n), Nat.div_eq_of_lt a.isLt, Nat.zero_add]

@[simp] theorem fld_pack {n : Nat} (a : BitVec n) (w : Nat) : fld (pack a w) 0 n = a := by
  apply BitVec.eq_of_toNat_eq
  simp [fld, pack]

@[simp] theorem fld_pack_above {n lo : Nat} (a : BitVec n) (w m : Nat) (h : n ≤ lo) :
    fld (pack a w) lo m = fld w (lo - n) m := by
  rw [fld, pack_shiftRight a w h, fld]

/-- A field as a number is the field. -/
theorem fldNat_eq_toNat (w lo n : Nat) : fldNat w lo n = (fld w lo n).toNat := rfl

@[simp] theorem fldNat_pack {n : Nat} (a : BitVec n) (w : Nat) : fldNat (pack a w) 0 n = a.toNat := by
  rw [fldNat_eq_toNat, fld_pack]

@[simp] theorem fldNat_pack_above {n lo : Nat} (a : BitVec n) (w m : Nat) (h : n ≤ lo) :
    fldNat (pack a w) lo m = fldNat w (lo - n) m := by
  rw [fldNat_eq_toNat, fld_pack_above a w m h, fldNat_eq_toNat]

/-- Two fields side by side are one field. -/
theorem fldNat_append (w lo m n : Nat) : fldNat w lo (m + n) = fldNat w lo m + 2 ^ m * fldNat w (lo + m) n := by
  rw [fldNat, fldNat, fldNat, Nat.shiftRight_add, Nat.shiftRight_eq_div_pow _ m, Nat.pow_add, Nat.mod_mul]

/-- The low part of a field. -/
theorem fldNat_low (w lo m n : Nat) : fldNat w lo m = fldNat w lo (m + n) % 2 ^ m := by
  rw [fldNat, fldNat, Nat.pow_add, Nat.mod_mul_right_mod]

/-- The high part of a field. -/
theorem fldNat_high (w lo m n : Nat) : fldNat w (lo + m) n = fldNat w lo (m + n) / 2 ^ m := by
  have below : fldNat w lo m < 2 ^ m := Nat.mod_lt _ (Nat.two_pow_pos m)
  rw [fldNat_append, Nat.add_mul_div_left _ _ (Nat.two_pow_pos m), Nat.div_eq_of_lt below, Nat.zero_add]

/-- A field whose number is that of a bit vector is that bit vector. -/
theorem fld_eq_of_fldNat {w lo n : Nat} {a : BitVec n} (h : fldNat w lo n = a.toNat) : fld w lo n = a :=
  BitVec.eq_of_toNat_eq h

/-! ## Bytes (30_encoding R220, 20_memory R141) -/

/-- The length is that of the word's first byte. -/
theorem lengthOf_lowByte (w : Nat) : lengthOf (BitVec.ofNat 8 w).toNat = lengthOf w := by
  have l2 : fldNat (w % 2 ^ 8) 6 2 = fldNat w 6 2 := by
    simp only [fldNat, Nat.shiftRight_eq_div_pow]
    omega
  rw [BitVec.toNat_ofNat, lengthOf, lengthOf, l2]

@[simp] theorem length_bytesOfWord (n w : Nat) : (bytesOfWord n w).length = n := by
  induction n generalizing w with
  | zero => rfl
  | succ n ih => rw [bytesOfWord, List.length_cons, ih]

theorem wordOfBytes_bytesOfWord (n w : Nat) : wordOfBytes (bytesOfWord n w) = w % 256 ^ n := by
  induction n generalizing w with
  | zero => rw [bytesOfWord, wordOfBytes, Nat.pow_zero, Nat.mod_one]
  | succ n ih => 
    rw [bytesOfWord, wordOfBytes, ih, BitVec.toNat_ofNat, Nat.pow_succ' (m := 256)]
    exact (Nat.mod_mul (x := w) (a := 256)).symm

/-- Decoding the bytes of a word of the length that its L2 field gives is decoding the word (R221). -/
theorem decode_bytesOfWord {fb : BitVec 6} {w : Nat} {i : Instr} (fits : w < 256 ^ lengthOf w)
    (decodes : decodeNat fb w = .ok i) (rest : List Byte) :
    decode fb (bytesOfWord (lengthOf w) w ++ rest) = .ok (i, rest) := by
  obtain ⟨n, hn⟩ : ∃ n, lengthOf w = n + 1 := Nat.exists_eq_add_one.2 (Machine.lengthOf_pos w)
  have bytes : bytesOfWord (lengthOf w) w = BitVec.ofNat 8 w :: bytesOfWord n (w / 256) := by rw [hn, bytesOfWord]
  have whole : ¬ (bytesOfWord (lengthOf w) w ++ rest).length < lengthOf w := by simp
  have word : wordOfBytes ((bytesOfWord (lengthOf w) w ++ rest).take (lengthOf w)) = w := by
    rw [List.take_left' (length_bytesOfWord _ _), wordOfBytes_bytesOfWord, Nat.mod_eq_of_lt fits]
  have tail : (bytesOfWord (lengthOf w) w ++ rest).drop (lengthOf w) = rest :=
    List.drop_left' (length_bytesOfWord _ _)
  rw [bytes, List.cons_append] at whole word tail ⊢
  simp only [decode, lengthOf_lowByte, if_neg whole, word, decodes, tail]

/-! ## When an encoding is faithful -/

/-- The word of an instruction fits its length, and the decoder answers the instruction to it. -/
structure Faithful (fb : BitVec 6) (i : Instr) : Prop where
  fits : encodeWord fb i < 256 ^ lengthOf (encodeWord fb i)
  decodes : decodeNat fb (encodeWord fb i) = .ok i

theorem Faithful.decode_encode {fb : BitVec 6} {i : Instr} (h : Faithful fb i) (rest : List Byte) :
    decode fb (encode fb i ++ rest) = .ok (i, rest) :=
  decode_bytesOfWord h.fits h.decodes rest

/-- The L2 field of a form (R220). -/
def l2Bits (long : Bool) : BitVec 2 := if long then 1 else 0

/-- The number of bits above the opcode and L2. -/
def bodyBits (long : Bool) : Nat := if long then 40 else 24

/-- The opcodes that the major map assigns, FBcc aside (R243). -/
abbrev MajorOpcode (op : Nat) : Prop := op < 2 ^ 6 ∧ blankMajor (.ofNat 6 op) = false

/-! ## Immediates and displacements (30_encoding R224, R226, R256) -/

/-- Whether an immediate is that of a 48-bit word. -/
def Imm.isLong : Imm → Bool
  | .short _ => false
  | .long _ => true

/-- The number of bits of an immediate. -/
def immBits (long : Bool) : Nat := if long then 30 else 14

/-- The immediate of a form whose bits are f: what fImm, fDisp and sizedImm answer. -/
def immOf (long : Bool) (f : Nat) : Imm := if long then .long (.ofNat 30 f) else .short (.ofNat 14 f)

theorem fImm_eq (long : Bool) (w : Nat) : fImm long w = immOf long (w >>> 18) := rfl

theorem fDisp_eq (long : Bool) (w : Nat) : fDisp long w = immOf long (fDispNat w) := rfl

theorem sizedImm_eq (long : Bool) (f k : Nat) : sizedImm long f k = immOf long (f / 2 ^ k * 2 ^ k) := rfl

theorem immOf_nat (imm : Imm) : immOf imm.isLong imm.nat = imm := by
  cases imm <;> simp [immOf, Imm.isLong, Imm.nat]

theorem Imm.l2_eq (imm : Imm) : imm.l2 = l2Of imm.isLong := by cases imm <;> rfl

theorem Imm.nat_lt (imm : Imm) : imm.nat < 2 ^ immBits imm.isLong := by
  cases imm with
  | short v => exact v.isLt
  | long v => exact v.isLt

/-- The bit that a size code sets below a displacement: of a char, a half, a word, a double word. -/
def SizeBit (m : Nat) : Prop := m = 1 ∨ m = 2 ∨ m = 4 ∨ m = 8

section sized

variable {m d : Nat} (hm : SizeBit m) (hd : d % (2 * m) = 0)
include hm hd

/-- The lowest set bit of the field is the size bit: the displacement is a multiple of the size. -/
theorem sizeCode_add : sizeCode (d + m) = sizeCode m := by
  obtain rfl | rfl | rfl | rfl := hm
  · rw [sizeCode, if_pos (by omega)]; rfl
  · rw [sizeCode, if_neg (by omega), if_pos (by omega)]; rfl
  · rw [sizeCode, if_neg (by omega), if_neg (by omega), if_pos (by omega)]; rfl
  · rw [sizeCode, if_neg (by omega), if_neg (by omega), if_neg (by omega), if_pos (by omega)]; rfl

/-- Clearing the bits of the size code leaves the displacement. -/
theorem clear_size_add : (d + m) / 2 ^ sizeCode m * 2 ^ sizeCode m = d := by
  obtain rfl | rfl | rfl | rfl := hm
  · change (d + 1) / 2 * 2 = d; omega
  · change (d + 2) / 4 * 4 = d; omega
  · change (d + 4) / 8 * 8 = d; omega
  · change (d + 8) / 16 * 16 = d; omega

/-- The size bit fits below a displacement that fits. -/
theorem add_size_lt {long : Bool} (h : d < 2 ^ immBits long) : d + m < 2 ^ immBits long := by
  have whole : 2 ^ immBits long % 16 = 0 := by cases long <;> rfl
  obtain rfl | rfl | rfl | rfl := hm <;> omega

end sized

/-- What a size-coded field of a displacement reads as. -/
theorem sized_read {disp : Imm} {m f : Nat} (hm : SizeBit m) (hd : disp.nat % (2 * m) = 0) (hf : f = disp.nat + m) :
    sizeCode f = sizeCode m ∧ sizedImm disp.isLong f (sizeCode m) = disp := by
  subst hf
  exact ⟨sizeCode_add hm hd, by rw [sizedImm_eq, clear_size_add hm hd, immOf_nat]⟩

section formats

variable {fb : BitVec 6} {i : Instr}

/-! ## Formats

One lemma per format: when the encoder writes an instruction in the format, it is enough that every word with those
fields decodes to the instruction. Inside, the format's sum of powers of two is written as packed fields. -/

/-- An instruction of 32 or 48 bits is faithful when its packed word decodes to it. -/
theorem faithful_of_long {op : BitVec 6} (long : Bool) {body : Nat}
    (hw : encodeWord fb i = pack op (pack (l2Bits long) body)) (hbody : body >>> bodyBits long = 0)
    (hdec : decodeWord fb long (encodeWord fb i) = .ok i) : Faithful fb i := by
  have l2 : fldNat (encodeWord fb i) 6 2 = (l2Bits long).toNat := by
    rw [hw, fldNat_pack_above _ _ _ (by decide), fldNat_pack]
  have small : encodeWord fb i >>> (bodyBits long + 8) = 0 := by
    rw [hw, pack_shiftRight _ _ (by omega), pack_shiftRight _ _ (by omega)]
    exact hbody
  rw [Nat.shiftRight_eq_div_pow, Nat.div_eq_zero_iff_lt (Nat.two_pow_pos _)] at small
  constructor
  · rw [lengthOf, l2]
    cases long
    · exact small
    · exact small
  · rw [decodeNat, l2]
    cases long
    · exact hdec
    · exact hdec

/-- The same through the major map, for an opcode that it assigns: FBcc has another opcode (R255). -/
theorem faithful_of_major {op : Nat} (long : Bool) {body : Nat} (hfb : blankMajor fb = true) (hop : MajorOpcode op)
    (hw : encodeWord fb i = pack (.ofNat 6 op) (pack (l2Bits long) body)) (hbody : body >>> bodyBits long = 0)
    (hdec : ∀ w, w = pack (.ofNat 6 op) (pack (l2Bits long) body) → fldNat w 0 6 = op → decodeMajor long w = .ok i) :
    Faithful fb i := by
  obtain ⟨lt, blank⟩ := hop
  have other : fld (encodeWord fb i) 0 6 ≠ fb := by
    rw [hw, fld_pack]
    rintro rfl
    exact Bool.false_ne_true (blank.symm.trans hfb)
  refine faithful_of_long long hw hbody ((if_neg other).trans (hdec _ hw ?_))
  rw [hw, fldNat_pack, BitVec.toNat_ofNat, Nat.mod_eq_of_lt lt]

@[simp] theorem toNat_l2Bits_false : (l2Bits false).toNat = 0 := rfl
@[simp] theorem toNat_l2Bits_true : (l2Bits true).toNat = 1 := rfl

/-! ### Formats RI and MS (R224, R226) -/

theorem encRI_eq_pack {op l2 f : Nat} (rt ra : RegNo) (hop : op < 2 ^ 6) (hl : l2 < 2 ^ 2) :
    encRI op l2 rt.toNat ra.toNat f = (pack (.ofNat 6 op) <| pack (.ofNat 2 l2) <| pack ra <| pack rt f) := by
  simp only [encRI, pack, BitVec.toNat_ofNat]
  omega

theorem encMS_eq_pack {op l2 f : Nat} (rb ra : RegNo) (hop : op < 2 ^ 6) (hl : l2 < 2 ^ 2) :
    encMS op l2 rb.toNat ra.toNat f =
      (pack (.ofNat 6 op) <| pack (.ofNat 2 l2) <| pack ra <| pack (.ofNat 5 f) <| pack rb (f / 32)) := by
  simp only [encMS, pack, BitVec.toNat_ofNat]
  omega

theorem l2Of_lt (long : Bool) : l2Of long < 2 ^ 2 := by cases long <;> decide

theorem ofNat_l2Of (long : Bool) : BitVec.ofNat 2 (l2Of long) = l2Bits long := by cases long <;> rfl

theorem bodyBits_eq (long : Bool) : bodyBits long = 5 + (5 + immBits long) := by cases long <;> rfl

theorem faithful_ri {op f : Nat} {long : Bool} {rt ra : RegNo} (hfb : blankMajor fb = true)
    (hw : encodeWord fb i = encRI op (l2Of long) rt.toNat ra.toNat f) (hf : f < 2 ^ immBits long)
    (hrow : ∀ w, fldNat w 0 6 = op → fRt w = rt → fRa w = ra → w >>> 18 = f → decodeMajor long w = .ok i)
    (hop : MajorOpcode op := by decide) : Faithful fb i := by
  rw [encRI_eq_pack rt ra hop.1 (l2Of_lt long), ofNat_l2Of] at hw
  have tail : f >>> immBits long = 0 := by rw [Nat.shiftRight_eq_div_pow, Nat.div_eq_of_lt hf]
  refine faithful_of_major long hfb hop hw (by simp [bodyBits_eq, tail]) fun w hw ho => hrow w ho ?_ ?_ ?_
  all_goals simp [hw, fRt, fRa]

theorem faithful_ms {op f : Nat} {long : Bool} {rb ra : RegNo} (hfb : blankMajor fb = true)
    (hw : encodeWord fb i = encMS op (l2Of long) rb.toNat ra.toNat f) (hf : f < 2 ^ immBits long)
    (hrow : ∀ w, fldNat w 0 6 = op → fRb w = rb → fRa w = ra → fDispNat w = f → decodeMajor long w = .ok i)
    (hop : MajorOpcode op := by decide) : Faithful fb i := by
  rw [encMS_eq_pack rb ra hop.1 (l2Of_lt long), ofNat_l2Of] at hw
  have split : 2 ^ immBits long = 2 ^ (immBits long - 5) * 32 := by cases long <;> rfl
  have tail : (f / 32) >>> (immBits long - 5) = 0 := by
    rw [Nat.shiftRight_eq_div_pow, Nat.div_eq_of_lt (by omega)]
  have body : bodyBits long = 5 + (5 + (5 + (immBits long - 5))) := by cases long <;> rfl
  refine faithful_of_major long hfb hop hw (by simp [body, tail]) fun w hw ho => hrow w ho ?_ ?_ ?_
  · simp [hw, fRb]
  · simp [hw, fRa]
  · have low (v : Nat) : v % 32 = fldNat v 0 5 := rfl
    simp only [fDispNat, low, hw]
    simp
    omega

theorem faithful_imm {op : Nat} {rt ra : RegNo} {imm : Imm} (hfb : blankMajor fb = true)
    (hw : encodeWord fb i = encRI op imm.l2 rt.toNat ra.toNat imm.nat)
    (hrow : ∀ long w, fldNat w 0 6 = op → fRt w = rt → fRa w = ra → fImm long w = imm → decodeMajor long w = .ok i)
    (hop : MajorOpcode op := by decide) : Faithful fb i := by
  rw [imm.l2_eq] at hw
  exact faithful_ri hfb hw imm.nat_lt
    (fun w ho ht ha hf => hrow _ w ho ht ha (by rw [fImm_eq, hf, immOf_nat])) hop

theorem faithful_disp {op : Nat} {rb ra : RegNo} {disp : Imm} (hfb : blankMajor fb = true)
    (hw : encodeWord fb i = encMS op disp.l2 rb.toNat ra.toNat disp.nat)
    (hrow : ∀ long w, fldNat w 0 6 = op → fRb w = rb → fRa w = ra → fDisp long w = disp → decodeMajor long w = .ok i)
    (hop : MajorOpcode op := by decide) : Faithful fb i := by
  rw [disp.l2_eq] at hw
  exact faithful_ms hfb hw disp.nat_lt
    (fun w ho hb ha hf => hrow _ w ho hb ha (by rw [fDisp_eq, hf, immOf_nat])) hop

/-- A size-coded load (R256). -/
theorem faithful_load {op m : Nat} {rt ra : RegNo} {disp : Imm} (hfb : blankMajor fb = true)
    (hw : encodeWord fb i = encRI op disp.l2 rt.toNat ra.toNat (disp.nat + m))
    (hd : decide (disp.nat % (2 * m) = 0) = true)
    (hrow : ∀ long w, fldNat w 0 6 = op → fRt w = rt → fRa w = ra → sizeCode (w >>> 18) = sizeCode m →
      fSzImm long w (sizeCode m) = disp → decodeMajor long w = .ok i)
    (hm : SizeBit m := by simp [SizeBit]) (hop : MajorOpcode op := by decide) : Faithful fb i := by
  rw [disp.l2_eq] at hw
  refine faithful_ri hfb hw (add_size_lt hm (of_decide_eq_true hd) disp.nat_lt) (fun w ho ht ha hf => ?_) hop
  obtain ⟨code, value⟩ := sized_read hm (of_decide_eq_true hd) hf
  exact hrow _ w ho ht ha code value

/-- A size-coded store (R256). -/
theorem faithful_store {op m : Nat} {rb ra : RegNo} {disp : Imm} (hfb : blankMajor fb = true)
    (hw : encodeWord fb i = encMS op disp.l2 rb.toNat ra.toNat (disp.nat + m))
    (hd : decide (disp.nat % (2 * m) = 0) = true)
    (hrow : ∀ long w, fldNat w 0 6 = op → fRb w = rb → fRa w = ra → sizeCode (fDispNat w) = sizeCode m →
      fSzDisp long w (sizeCode m) = disp → decodeMajor long w = .ok i)
    (hm : SizeBit m := by simp [SizeBit]) (hop : MajorOpcode op := by decide) : Faithful fb i := by
  rw [disp.l2_eq] at hw
  refine faithful_ms hfb hw (add_size_lt hm (of_decide_eq_true hd) disp.nat_lt) (fun w ho hb ha hf => ?_) hop
  obtain ⟨code, value⟩ := sized_read hm (of_decide_eq_true hd) hf
  exact hrow _ w ho hb ha code value

theorem ofNat_eq_of_eq {n e : Nat} {v : BitVec n} (h : e = v.toNat) : BitVec.ofNat n e = v := by
  rw [h, BitVec.ofNat_toNat, BitVec.setWidth_eq]

/-! ### Format LUI (R225) -/

theorem faithful_upper {op : Nat} {rt : RegNo} {imm : UpperImm} (hfb : blankMajor fb = true)
    (hw : encodeWord fb i = encUpper op rt.toNat imm)
    (hrow : ∀ long w, fldNat w 0 6 = op → fRt w = rt → fUpper long w = imm → decodeMajor long w = .ok i)
    (hop : MajorOpcode op := by decide) : Faithful fb i := by
  have low (w : Nat) : (w >>> 8) % 32 = fldNat w 8 5 := rfl
  have lt := hop.1
  cases imm with
  | short v =>
    have layout : encUpper op rt.toNat (.short v) = (pack (.ofNat 6 op) <| pack (l2Bits false) <|
        pack (.ofNat 5 v.toNat) <| pack rt <| pack (.ofNat 14 (v.toNat / 32)) 0) := by
      simp only [encUpper, pack, BitVec.toNat_ofNat, toNat_l2Bits_false]
      omega
    refine faithful_of_major false hfb hop (hw.trans layout) (by simp [bodyBits]) fun w hw ho => hrow _ w ho ?_ ?_
    · simp [hw, fRt]
    · simp only [fUpper, low, hw]
      exact congrArg UpperImm.short (ofNat_eq_of_eq (by simp [pack_zero]; omega))
  | long v =>
    have layout : encUpper op rt.toNat (.long v) = (pack (.ofNat 6 op) <| pack (l2Bits true) <|
        pack (.ofNat 5 v.toNat) <| pack rt <| pack (.ofNat 30 (v.toNat / 32)) 0) := by
      simp only [encUpper, pack, BitVec.toNat_ofNat, toNat_l2Bits_true]
      omega
    refine faithful_of_major true hfb hop (hw.trans layout) (by simp [bodyBits]) fun w hw ho => hrow _ w ho ?_ ?_
    · simp [hw, fRt]
    · simp only [fUpper, low, hw]
      exact congrArg UpperImm.long (ofNat_eq_of_eq (by simp [pack_zero]; omega))

/-! ### The register-register groups (R227 to R231) -/

theorem faithful_rr {f z rb : Nat} {rt ra : RegNo} (hfb : blankMajor fb = true)
    (hw : encodeWord fb i = encRR f z rt.toNat ra.toNat rb)
    (hrow : ∀ w, fldNat w 26 6 = f → fldNat w 23 3 = z → fldNat w 18 5 = rb → fRt w = rt → fRa w = ra →
      decRR w = .ok i)
    (hb : f < 2 ^ 6 ∧ z < 2 ^ 3 ∧ rb < 2 ^ 5 := by omega) : Faithful fb i := by
  have layout : encRR f z rt.toNat ra.toNat rb = (pack (.ofNat 6 0x02) <| pack (l2Bits false) <|
      pack ra <| pack rt <| pack (.ofNat 5 rb) <| pack (.ofNat 3 z) <| pack (.ofNat 6 f) 0) := by
    simp only [encRR, pack, BitVec.toNat_ofNat, toNat_l2Bits_false]
    omega
  refine faithful_of_major false hfb (by decide) (hw.trans layout) (by simp [bodyBits]) fun w hw ho => ?_
  rw [decodeMajor, ho]
  refine hrow w ?_ ?_ ?_ ?_ ?_ <;> simp [hw, fRt, fRa] <;> omega

theorem faithful_tlb {cmd tn : BitVec 4} {rt ra : RegNo} (hfb : blankMajor fb = true) :
    Faithful fb (.tlb cmd tn rt ra) := by
  have layout : encodeWord fb (.tlb cmd tn rt ra) = (pack (.ofNat 6 0x02) <| pack (l2Bits false) <|
      pack ra <| pack rt <| pack tn <| pack cmd <| pack (.ofNat 6 0x3F) 0) := by
    show 0x02 + 2 ^ 8 * ra.toNat + _ + _ + _ + _ = _
    simp only [pack, BitVec.toNat_ofNat, toNat_l2Bits_false]
    omega
  refine faithful_of_major false hfb (by decide) layout (by simp [bodyBits]) fun w hw ho => ?_
  rw [decodeMajor, ho]
  have funct : fldNat w 26 6 = 0x3F := by simp [hw]
  show decRR w = _
  rw [decRR, funct]
  simp [hw, fRt, fRa]

theorem faithful_rr48 {f op2 z : Nat} {rt ra rb rc : RegNo} (hfb : blankMajor fb = true)
    (hw : encodeWord fb i = encRR48 f op2 z rt.toNat ra.toNat rb.toNat rc.toNat)
    (hrow : ∀ w, fldNat w 42 6 = f → fldNat w 36 6 = op2 → fldNat w 28 3 = z → fRt w = rt → fRa w = ra →
      fRb w = rb → fRc w = rc → decRR48 w = .ok i)
    (hb : f < 2 ^ 6 ∧ op2 < 2 ^ 6 ∧ z < 2 ^ 3 := by omega) : Faithful fb i := by
  have layout : encRR48 f op2 z rt.toNat ra.toNat rb.toNat rc.toNat = (pack (.ofNat 6 0x02) <| pack (l2Bits true) <|
      pack ra <| pack rt <| pack rb <| pack rc <| pack (.ofNat 3 z) <| pack 0#5 <| pack (.ofNat 6 op2) <|
        pack (.ofNat 6 f) 0) := by
    simp only [encRR48, pack, BitVec.toNat_ofNat, toNat_l2Bits_true]
    omega
  refine faithful_of_major true hfb (by decide) (hw.trans layout) (by simp [bodyBits]) fun w hw ho => ?_
  rw [decodeMajor, ho]
  refine hrow w ?_ ?_ ?_ ?_ ?_ ?_ ?_ <;> simp [hw, fRt, fRa, fRb, fRc] <;> omega

theorem faithful_condImm {k : Nat} {rt ra rb : RegNo} {imm : BitVec 16} (hfb : blankMajor fb = true)
    (hw : encodeWord fb i = 0x02 + 2 ^ 6 + 2 ^ 8 * ra.toNat + 2 ^ 13 * rt.toNat + 2 ^ 18 * rb.toNat +
      2 ^ 23 * imm.toNat + 2 ^ 39 * k + 2 ^ 42 * 0x29)
    (hrow : ∀ w, fldNat w 39 3 = k → fRt w = rt → fRa w = ra → fRb w = rb → fld w 23 16 = imm → decCond48 w = .ok i)
    (hk : k < 2 ^ 3 := by decide) : Faithful fb i := by
  have layout : encodeWord fb i = (pack (.ofNat 6 0x02) <| pack (l2Bits true) <|
      pack ra <| pack rt <| pack rb <| pack imm <| pack (.ofNat 3 k) <| pack (.ofNat 6 0x29) 0) := by
    rw [hw]
    simp only [pack, BitVec.toNat_ofNat, toNat_l2Bits_true]
    omega
  refine faithful_of_major true hfb (by decide) layout (by simp [bodyBits]) fun w hw ho => ?_
  have funct : fldNat w 42 6 = 0x29 := by simp [hw]
  rw [decodeMajor, ho]
  show decRR48 w = _
  rw [decRR48, funct]
  refine hrow w ?_ ?_ ?_ ?_ ?_ <;> simp [hw, fRt, fRa, fRb]
  omega

theorem faithful_shift48 {f3 : Nat} {op2 : BitVec 6} {z : BitVec 3} {n : ShiftCount} {rt ra rc : RegNo}
    (hfb : blankMajor fb = true)
    (hw : encodeWord fb i = encShift48 f3 op2.toNat z.toNat rt.toNat ra.toNat rc.toNat n)
    (hrow : ∀ w, fldNat w 33 3 = f3 → fld w 36 6 = op2 → fld w 30 3 = z → fCount w = n → fRt w = rt → fRa w = ra →
      fRc w = rc → decShift48 w = .ok i)
    (hf : f3 < 2 ^ 3 := by decide) : Faithful fb i := by
  have group (w : Nat) (ho : fldNat w 0 6 = 0x02) (hf : fldNat w 42 6 = 0x2F) :
      decodeMajor true w = decShift48 w := by
    rw [decodeMajor, ho]
    show decRR48 w = _
    rw [decRR48, hf]
    rfl
  cases n with
  | reg rb =>
    have layout : encodeWord fb i = (pack (.ofNat 6 0x02) <| pack (l2Bits true) <| pack ra <| pack rt <| pack rb <|
        pack rc <| pack 0#1 <| pack 0#1 <| pack z <| pack (.ofNat 3 f3) <| pack op2 <| pack 0x2F#6 0) := by
      rw [hw]
      simp only [encShift48, pack, BitVec.toNat_ofNat, toNat_l2Bits_true]
      omega
    refine faithful_of_major true hfb (by decide) layout (by simp [bodyBits]) fun w hw ho => ?_
    rw [group w ho (by simp [hw])]
    refine hrow w ?_ ?_ ?_ ?_ ?_ ?_ ?_ <;> simp [hw, fRt, fRa, fRc, fCount, fRb]
    omega
  | imm n =>
    have layout : encodeWord fb i = (pack (.ofNat 6 0x02) <| pack (l2Bits true) <| pack ra <| pack rt <|
        pack (.ofNat 5 n.toNat) <| pack rc <| pack (.ofNat 1 (n.toNat / 32)) <| pack 1#1 <| pack z <|
          pack (.ofNat 3 f3) <| pack op2 <| pack 0x2F#6 0) := by
      rw [hw]
      simp only [encShift48, pack, BitVec.toNat_ofNat, toNat_l2Bits_true]
      omega
    refine faithful_of_major true hfb (by decide) layout (by simp [bodyBits]) fun w hw ho => ?_
    rw [group w ho (by simp [hw])]
    have count : fCount w = .imm n := by
      have selects : fldNat w 29 1 = 1 := by simp [hw]
      rw [fCount, if_pos selects]
      exact congrArg ShiftCount.imm (ofNat_eq_of_eq (by simp [hw]; omega))
    refine hrow w ?_ ?_ ?_ count ?_ ?_ ?_ <;> simp [hw, fRt, fRa, fRc]
    omega

theorem faithful_bitfield {f : Nat} {rt : RegNo} {rg : BitVec 3} {da : BitVec 16} {bw bo : BitVec 6}
    (hfb : blankMajor fb = true)
    (hw : encodeWord fb i = encBF f rt.toNat rg.toNat da.toNat bw.toNat bo.toNat)
    (hrow : ∀ w, fldNat w 44 4 = f → fRc w = rt → fld w 30 3 = rg → fDa w = da → fBw w = bw → fBo w = bo →
      decBitfield w = .ok i)
    (hf : f < 2 ^ 4 := by decide) : Faithful fb i := by
  have layout : encodeWord fb i = (pack (.ofNat 6 0x22) <| pack (l2Bits true) <| pack (.ofNat 5 bo.toNat) <|
      pack (.ofNat 5 bw.toNat) <| pack (.ofNat 5 da.toNat) <| pack rt <| pack (.ofNat 1 (bo.toNat / 32)) <|
        pack (.ofNat 1 (bw.toNat / 32)) <| pack rg <| pack (.ofNat 11 (da.toNat / 32)) <| pack (.ofNat 4 f) 0) := by
    rw [hw]
    simp only [encBF, pack, BitVec.toNat_ofNat, toNat_l2Bits_true]
    omega
  refine faithful_of_major true hfb (by decide) layout (by simp [bodyBits]) fun w hw ho => ?_
  rw [decodeMajor, ho]
  refine hrow w ?_ ?_ ?_ (ofNat_eq_of_eq ?_) (ofNat_eq_of_eq ?_) (ofNat_eq_of_eq ?_) <;> simp [hw, fRc] <;> omega

/-! ### Indexed memory and atomics (R234, R239) -/

theorem faithful_mxl {f4 fn2 : Nat} {rt ra rc : RegNo} {sc : BitVec 2} (hfb : blankMajor fb = true)
    (hw : encodeWord fb i = encMXL f4 fn2 rt.toNat ra.toNat rc.toNat sc.toNat)
    (hrow : ∀ w, fldNat w 28 4 = f4 → fldNat w 21 2 = fn2 → fRt w = rt → fRa w = ra → fRc w = rc →
      fld w 18 2 = sc → decIndexed w = .ok i)
    (hb : f4 < 2 ^ 4 ∧ fn2 < 2 ^ 2 := by decide) : Faithful fb i := by
  have layout : encMXL f4 fn2 rt.toNat ra.toNat rc.toNat sc.toNat = (pack (.ofNat 6 0x16) <| pack (l2Bits false) <|
      pack ra <| pack rt <| pack sc <| pack 0#1 <| pack (.ofNat 2 fn2) <| pack rc <| pack (.ofNat 4 f4) 0) := by
    simp only [encMXL, pack, BitVec.toNat_ofNat, toNat_l2Bits_false]
    omega
  refine faithful_of_major false hfb (by decide) (hw.trans layout) (by simp [bodyBits]) fun w hw ho => ?_
  rw [decodeMajor, ho]
  refine hrow w ?_ ?_ ?_ ?_ ?_ ?_ <;> simp [hw, fRt, fRa, fRc] <;> omega

theorem faithful_mxs {f4 fn2 : Nat} {rb ra rc : RegNo} {sc : BitVec 2} (hfb : blankMajor fb = true)
    (hw : encodeWord fb i = encMXS f4 fn2 rb.toNat ra.toNat rc.toNat sc.toNat)
    (hrow : ∀ w, fldNat w 28 4 = f4 → fldNat w 16 2 = fn2 → fRb w = rb → fRa w = ra → fRc w = rc →
      fld w 13 2 = sc → decIndexed w = .ok i)
    (hb : f4 < 2 ^ 4 ∧ fn2 < 2 ^ 2 := by decide) : Faithful fb i := by
  have layout : encMXS f4 fn2 rb.toNat ra.toNat rc.toNat sc.toNat = (pack (.ofNat 6 0x16) <| pack (l2Bits false) <|
      pack ra <| pack sc <| pack 0#1 <| pack (.ofNat 2 fn2) <| pack rb <| pack rc <| pack (.ofNat 4 f4) 0) := by
    simp only [encMXS, pack, BitVec.toNat_ofNat, toNat_l2Bits_false]
    omega
  refine faithful_of_major false hfb (by decide) (hw.trans layout) (by simp [bodyBits]) fun w hw ho => ?_
  rw [decodeMajor, ho]
  refine hrow w ?_ ?_ ?_ ?_ ?_ ?_ <;> simp [hw, fRb, fRa, fRc] <;> omega

/-- PUSH is the indexed function Ch with every Fn2: its Rt lies there. -/
theorem decIndexed_push {w : Nat} (hf : fldNat w 28 4 = 0xC) : decIndexed w = .ok (.push (fRb w) (fRt w) (fRa w)) := by
  have lt : fldNat w 16 2 < 4 := Nat.mod_lt _ (by decide)
  obtain h | h | h | h : fldNat w 16 2 = 0 ∨ fldNat w 16 2 = 1 ∨ fldNat w 16 2 = 2 ∨ fldNat w 16 2 = 3 := by omega
  all_goals
    rw [decIndexed, hf, h]
    rfl

theorem faithful_push (hfb : blankMajor fb = true) (rb rt ra : RegNo) : Faithful fb (.push rb rt ra) := by
  have layout : encodeWord fb (.push rb rt ra) = (pack (.ofNat 6 0x16) <| pack (l2Bits false) <|
      pack ra <| pack rt <| pack rb <| pack 0#5 <| pack 0xC#4 0) := by
    show 0x16 + 2 ^ 8 * ra.toNat + _ + _ + _ = _
    simp only [pack, BitVec.toNat_ofNat, toNat_l2Bits_false]
    omega
  refine faithful_of_major false hfb (by decide) layout (by simp [bodyBits]) fun w hw ho => ?_
  rw [decodeMajor, ho]
  refine (decIndexed_push (by simp [hw])).trans ?_
  simp [hw, fRb, fRt, fRa]

theorem beq_one_eq_of_toNat {w lo : Nat} {b : Bool} (h : fldNat w lo 1 = b.toNat) : (fldNat w lo 1 == 1) = b := by
  rw [h]
  cases b <;> rfl

theorem faithful_amo {op f4 : Nat} {rt ra b : RegNo} {z : BitVec 3} {acq rel : Bool} (hfb : blankMajor fb = true)
    (hw : encodeWord fb i = encAmo op f4 rt.toNat ra.toNat b.toNat z.toNat acq rel)
    (hrow : ∀ w, fldNat w 0 6 = op → fldNat w 28 4 = f4 → fRt w = rt → fRa w = ra → fRb w = b → fSz w = z →
      (fldNat w 27 1 == 1) = acq → (fldNat w 26 1 == 1) = rel → decodeMajor false w = .ok i)
    (hf : f4 < 2 ^ 4 := by decide) (hop : MajorOpcode op := by decide) : Faithful fb i := by
  have lt := hop.1
  have bit (b : Bool) : (BitVec.ofNat 1 b.toNat).toNat = b.toNat := by cases b <;> rfl
  have layout : encAmo op f4 rt.toNat ra.toNat b.toNat z.toNat acq rel = (pack (.ofNat 6 op) <| pack (l2Bits false) <|
      pack ra <| pack rt <| pack b <| pack z <| pack (.ofNat 1 rel.toNat) <| pack (.ofNat 1 acq.toNat) <|
        pack (.ofNat 4 f4) 0) := by
    simp only [encAmo, pack, bit, BitVec.toNat_ofNat, toNat_l2Bits_false]
    omega
  refine faithful_of_major false hfb hop (hw.trans layout) (by simp [bodyBits]) fun w hw ho =>
    hrow w ho ?_ ?_ ?_ ?_ ?_ (beq_one_eq_of_toNat ?_) (beq_one_eq_of_toNat ?_)
  · simp [hw]
    omega
  all_goals simp [hw, fRt, fRa, fRb, fSz, bit, -BitVec.toNat_ofNat]

/-! ### Branches and jumps (R233, R236) -/

/-- The branch displacement from its two parts. -/
theorem fBr_eq {w : Nat} {d : BitVec 11} (high : fldNat w 23 9 = d.toNat / 4) (low : fldNat w 16 2 = d.toNat % 4) :
    fBr w = d :=
  ofNat_eq_of_eq (by omega)

theorem encBD_eq_pack {op c : Nat} (ra rb : RegNo) (d : BitVec 11) (hop : op < 2 ^ 6) (hc : c < 2 ^ 3) :
    encBD op c ra.toNat rb.toNat d.toNat = (pack (.ofNat 6 op) <| pack (l2Bits false) <| pack ra <|
      pack (.ofNat 3 c) <| pack (.ofNat 2 d.toNat) <| pack rb <| pack (.ofNat 9 (d.toNat / 4)) 0) := by
  simp only [encBD, pack, BitVec.toNat_ofNat, toNat_l2Bits_false]
  omega

theorem faithful_bcc {c : Nat} {ra rb : RegNo} {d : BitVec 11} (hfb : blankMajor fb = true)
    (hw : encodeWord fb i = encBD 0x30 c ra.toNat rb.toNat d.toNat)
    (hrow : ∀ w, fldNat w 13 3 = c → fRa w = ra → fRb w = rb → fBr w = d → decBcc w = .ok i)
    (hc : c < 2 ^ 3 := by decide) : Faithful fb i := by
  rw [encBD_eq_pack ra rb d (by decide) hc] at hw
  refine faithful_of_major false hfb (by decide) hw (by simp [bodyBits]) fun w hw ho => ?_
  rw [decodeMajor, ho]
  refine hrow w ?_ ?_ ?_ (fBr_eq ?_ ?_) <;> simp [hw, fRa, fRb] <;> omega

theorem faithful_fbcc {c : Nat} {ra rb : RegNo} {d : BitVec 11}
    (hw : encodeWord fb i = encBD fb.toNat c ra.toNat rb.toNat d.toNat)
    (hrow : ∀ w, fldNat w 13 3 = c → fRa w = ra → fRb w = rb → fBr w = d → decFbcc w = .ok i)
    (hc : c < 2 ^ 3 := by decide) : Faithful fb i := by
  rw [encBD_eq_pack ra rb d fb.isLt hc, BitVec.ofNat_toNat, BitVec.setWidth_eq] at hw
  refine faithful_of_long false hw (by simp [bodyBits]) ?_
  rw [decodeWord, if_pos (by rw [hw, fld_pack])]
  refine hrow _ ?_ ?_ ?_ (fBr_eq ?_ ?_) <;> simp [hw, fRa, fRb] <;> omega

theorem faithful_bb {c : Nat} {ra : RegNo} {bit : BitVec 6} {d : BitVec 11} (hfb : blankMajor fb = true)
    (hw : encodeWord fb i = encBB c ra.toNat bit.toNat d.toNat)
    (hrow : ∀ w, fldNat w 13 2 = c → fRa w = ra → fBit w = bit → fBr w = d → decBb w = .ok i)
    (hc : c < 2 ^ 2 := by decide) : Faithful fb i := by
  have layout : encBB c ra.toNat bit.toNat d.toNat = (pack (.ofNat 6 0x26) <| pack (l2Bits false) <| pack ra <|
      pack (.ofNat 2 c) <| pack (.ofNat 1 bit.toNat) <| pack (.ofNat 2 d.toNat) <| pack (.ofNat 5 (bit.toNat / 2)) <|
        pack (.ofNat 9 (d.toNat / 4)) 0) := by
    simp only [encBB, pack, BitVec.toNat_ofNat, toNat_l2Bits_false]
    omega
  refine faithful_of_major false hfb (by decide) (hw.trans layout) (by simp [bodyBits]) fun w hw ho => ?_
  rw [decodeMajor, ho]
  refine hrow w ?_ ?_ (ofNat_eq_of_eq ?_) (fBr_eq ?_ ?_) <;> simp [hw, fRa] <;> omega

theorem faithful_be {op : Nat} {ra : RegNo} {imm : BitVec 8} {d : BitVec 11} (hfb : blankMajor fb = true)
    (hw : encodeWord fb i = encBE op ra.toNat imm.toNat d.toNat)
    (hrow : ∀ w, fldNat w 0 6 = op → fRa w = ra → fBImm w = imm → fBr w = d → decodeMajor false w = .ok i)
    (hop : MajorOpcode op := by decide) : Faithful fb i := by
  have lt := hop.1
  have layout : encBE op ra.toNat imm.toNat d.toNat = (pack (.ofNat 6 op) <| pack (l2Bits false) <| pack ra <|
      pack (.ofNat 3 imm.toNat) <| pack (.ofNat 2 d.toNat) <| pack (.ofNat 5 (imm.toNat / 8)) <|
        pack (.ofNat 9 (d.toNat / 4)) 0) := by
    simp only [encBE, pack, BitVec.toNat_ofNat, toNat_l2Bits_false]
    omega
  refine faithful_of_major false hfb hop (hw.trans layout) (by simp [bodyBits]) fun w hw ho =>
    hrow w ho ?_ (ofNat_eq_of_eq ?_) (fBr_eq ?_ ?_) <;> simp [hw, fRa] <;> omega

theorem faithful_jump {op : Nat} {t : JumpTarget} (hfb : blankMajor fb = true) (hw : encodeWord fb i = encJC op t)
    (hrow : ∀ long w, fldNat w 0 6 = op → fJump long w = t → decodeMajor long w = .ok i)
    (hop : MajorOpcode op := by decide) : Faithful fb i := by
  have lt := hop.1
  cases t with
  | near a =>
    have layout : encJC op (.near a) = (pack (.ofNat 6 op) <| pack (l2Bits false) <| pack a 0) := by
      simp only [encJC, pack, BitVec.toNat_ofNat, toNat_l2Bits_false]
      omega
    exact faithful_of_major false hfb hop (hw.trans layout) (by simp [bodyBits]) fun w hw ho =>
      hrow _ w ho (by simp [hw, fJump])
  | far seg a =>
    have layout : encJC op (.far seg a) = (pack (.ofNat 6 op) <| pack (l2Bits true) <| pack a <| pack seg 0) := by
      simp only [encJC, pack, BitVec.toNat_ofNat, toNat_l2Bits_true]
      omega
    exact faithful_of_major true hfb hop (hw.trans layout) (by simp [bodyBits]) fun w hw ho =>
      hrow _ w ho (by simp [hw, fJump])

theorem faithful_jal (hfb : blankMajor fb = true) (rt ra : RegNo) (t : LinkTarget) : Faithful fb (.jal rt ra t) := by
  have row {long : Bool} {w : Nat} (ho : fldNat w 0 6 = 0x18) :
      decodeMajor long w = .ok (.jal (fRt w) (fRa w) (fLink long w)) := by
    rw [decodeMajor, ho]
    rfl
  cases t with
  | near imm =>
    have layout : encodeWord fb (.jal rt ra (.near imm)) = (pack (.ofNat 6 0x18) <| pack (l2Bits false) <|
        pack ra <| pack rt <| pack imm 0) := by
      show encJal rt.toNat ra.toNat (.near imm) = _
      simp only [encJal, pack, BitVec.toNat_ofNat, toNat_l2Bits_false]
      omega
    exact faithful_of_major false hfb (by decide) layout (by simp [bodyBits]) fun w hw ho =>
      (row ho).trans (by simp [hw, fRt, fRa, fLink])
  | far seg imm =>
    have layout : encodeWord fb (.jal rt ra (.far seg imm)) = (pack (.ofNat 6 0x18) <| pack (l2Bits true) <|
        pack ra <| pack rt <| pack imm <| pack seg 0) := by
      show encJal rt.toNat ra.toNat (.far seg imm) = _
      simp only [encJal, pack, BitVec.toNat_ofNat, toNat_l2Bits_true]
      omega
    exact faithful_of_major true hfb (by decide) layout (by simp [bodyBits]) fun w hw ho =>
      (row ho).trans (by simp [hw, fRt, fRa, fLink])

theorem faithful_ret (hfb : blankMajor fb = true) (lr rt ra : RegNo) (imm : BitVec 9) :
    Faithful fb (.ret lr rt ra imm) := by
  have layout : encodeWord fb (.ret lr rt ra imm) = (pack (.ofNat 6 0x29) <| pack (l2Bits false) <|
      pack ra <| pack rt <| pack lr <| pack imm 0) := by
    show 0x29 + 2 ^ 8 * ra.toNat + _ + _ + _ = _
    simp only [pack, BitVec.toNat_ofNat, toNat_l2Bits_false]
    omega
  refine faithful_of_major false hfb (by decide) layout (by simp [bodyBits]) fun w hw ho => ?_
  rw [decodeMajor, ho]
  show Except.ok _ = _
  simp [hw, fRt, fRa, fRb]

/-! ### System (R235, R237) -/

theorem faithful_brk {long : Bool} {c k : Nat} {lvl : BitVec 4} {skip : BitVec 5} {user : BitVec 6}
    (hfb : blankMajor fb = true)
    (hw : encodeWord fb i = encBrk user.toNat skip.toNat lvl.toNat k c (l2Of long))
    (hrow : ∀ w, fldNat w 16 1 = k → fldNat w 8 8 = c → fld w 17 4 = lvl → fld w 21 5 = skip → fld w 26 6 = user →
      decBrk long w = .ok i)
    (hb : c < 2 ^ 8 ∧ k < 2 ^ 1 := by omega) : Faithful fb i := by
  have l2 := l2Of_lt long
  have layout : encBrk user.toNat skip.toNat lvl.toNat k c (l2Of long) = (pack (.ofNat 6 0) <| pack (l2Bits long) <|
      pack (.ofNat 8 c) <| pack (.ofNat 1 k) <| pack lvl <| pack skip <| pack user 0) := by
    rw [← ofNat_l2Of]
    simp only [encBrk, pack, BitVec.toNat_ofNat]
    omega
  refine faithful_of_major long hfb (by decide) (hw.trans layout) ?_ fun w hw ho => ?_
  · cases long <;> simp [bodyBits]
  · rw [decodeMajor, ho]
    refine hrow w ?_ ?_ ?_ ?_ ?_ <;> simp [hw] <;> omega

theorem faithful_csr {op2 : Nat} {ol : BitVec 2} {regno : BitVec 10} {rt ra : RegNo} (hfb : blankMajor fb = true)
    (hw : encodeWord fb i = encCsr op2 ol.toNat regno.toNat rt.toNat ra.toNat)
    (hrow : ∀ w, fldNat w 30 2 = op2 → fld w 28 2 = ol → fld w 18 10 = regno → fRt w = rt → fRa w = ra →
      decCsr w = .ok i)
    (hb : op2 < 2 ^ 2 := by decide) : Faithful fb i := by
  have layout : encCsr op2 ol.toNat regno.toNat rt.toNat ra.toNat = (pack (.ofNat 6 0x05) <| pack (l2Bits false) <|
      pack ra <| pack rt <| pack regno <| pack ol <| pack (.ofNat 2 op2) 0) := by
    simp only [encCsr, pack, BitVec.toNat_ofNat, toNat_l2Bits_false]
    omega
  refine faithful_of_major false hfb (by decide) (hw.trans layout) (by simp [bodyBits]) fun w hw ho => ?_
  rw [decodeMajor, ho]
  refine hrow w ?_ ?_ ?_ ?_ ?_ <;> simp [hw, fRt, fRa]
  omega

theorem faithful_rex (hfb : blankMajor fb = true) (im : BitVec 3) (pl : BitVec 8) (tgt : BitVec 2) (ra : RegNo) :
    Faithful fb (.rex im pl tgt ra) := by
  have layout : encodeWord fb (.rex im pl tgt ra) = (pack (.ofNat 6 0x0D) <| pack (l2Bits false) <|
      pack ra <| pack tgt <| pack 0#3 <| pack pl <| pack im 0) := by
    show 0x0D + 2 ^ 8 * ra.toNat + _ + _ + _ = _
    simp only [pack, BitVec.toNat_ofNat, toNat_l2Bits_false]
    omega
  refine faithful_of_major false hfb (by decide) layout (by simp [bodyBits]) fun w hw ho => ?_
  rw [decodeMajor, ho]
  show Except.ok _ = _
  simp [hw, fRa]

/-! ### Floating point (R241) -/

theorem decodeMajor_float {long : Bool} {w f : Nat} (ho : fldNat w 0 6 = 0x0F) (hf : funct6 long w = f) :
    decodeMajor long w = decFloat long w f := by
  rw [decodeMajor, ho, ← hf]
  rfl

theorem faithful_fp2 {f : Nat} {rt ra rb : RegNo} {form : FpForm} (hfb : blankMajor fb = true)
    (hw : encodeWord fb i = encF2 f rt.toNat ra.toNat rb.toNat form)
    (hrow : ∀ long w, fRt w = rt → fRa w = ra → fRb w = rb → fFp long w = form → decFloat long w f = .ok i)
    (hf : f < 2 ^ 6 := by decide) : Faithful fb i := by
  cases form with
  | short rm =>
    have layout : encF2 f rt.toNat ra.toNat rb.toNat (.short rm) = (pack (.ofNat 6 0x0F) <| pack (l2Bits false) <|
        pack ra <| pack rt <| pack rb <| pack rm <| pack (.ofNat 6 f) 0) := by
      simp only [encF2, pack, BitVec.toNat_ofNat, toNat_l2Bits_false]
      omega
    refine faithful_of_major false hfb (by decide) (hw.trans layout) (by simp [bodyBits]) fun w hw ho => ?_
    rw [decodeMajor_float (f := f) ho (by simp [hw, funct6]; omega)]
    refine hrow _ w ?_ ?_ ?_ ?_ <;> simp [hw, fRt, fRa, fRb, fFp]
  | long prc rm =>
    have layout : encF2 f rt.toNat ra.toNat rb.toNat (.long prc rm) = (pack (.ofNat 6 0x0F) <| pack (l2Bits true) <|
        pack ra <| pack rt <| pack rb <| pack 0#5 <| pack rm <| pack prc <| pack 0#7 <| pack (.ofNat 6 f) 0) := by
      simp only [encF2, pack, BitVec.toNat_ofNat, toNat_l2Bits_true]
      omega
    refine faithful_of_major true hfb (by decide) (hw.trans layout) (by simp [bodyBits]) fun w hw ho => ?_
    rw [decodeMajor_float (f := f) ho (by simp [hw, funct6]; omega)]
    refine hrow _ w ?_ ?_ ?_ ?_ <;> simp [hw, fRt, fRa, fRb, fFp]

theorem faithful_fp1 {f : Nat} {rt ra : RegNo} {m : Bool} {prc : BitVec 4} {rm : BitVec 3} {long : Bool}
    (hfb : blankMajor fb = true)
    (hw : encodeWord fb i = encF1 f rt.toNat ra.toNat m.toNat prc.toNat rm.toNat long)
    (hrow : ∀ w, fRt w = rt → fRa w = ra → (fldNat w 22 1 == 1) = m → fPrc long w = prc → fRm long w = rm →
      decFloat long w f = .ok i)
    (hf : f < 2 ^ 6 := by decide) : Faithful fb i := by
  have bit : (BitVec.ofNat 1 m.toNat).toNat = m.toNat := by cases m <;> rfl
  cases long with
  | false =>
    have layout : encF1 f rt.toNat ra.toNat m.toNat prc.toNat rm.toNat false = (pack (.ofNat 6 0x0F) <|
        pack (l2Bits false) <| pack ra <| pack rt <| pack prc <| pack (.ofNat 1 m.toNat) <| pack rm <|
          pack (.ofNat 6 f) 0) := by
      simp only [encF1, pack, bit, BitVec.toNat_ofNat, toNat_l2Bits_false]
      simp
      omega
    refine faithful_of_major false hfb (by decide) (hw.trans layout) (by simp [bodyBits]) fun w hw ho => ?_
    rw [decodeMajor_float (f := f) ho (by simp [hw, funct6]; omega)]
    refine hrow w ?_ ?_ (beq_one_eq_of_toNat ?_) ?_ ?_ <;> simp [hw, fRt, fRa, fPrc, fRm, bit, -BitVec.toNat_ofNat]
  | true =>
    have layout : encF1 f rt.toNat ra.toNat m.toNat prc.toNat rm.toNat true = (pack (.ofNat 6 0x0F) <|
        pack (l2Bits true) <| pack ra <| pack rt <| pack 0#4 <| pack (.ofNat 1 m.toNat) <| pack 0#5 <| pack rm <|
          pack prc <| pack 0#7 <| pack (.ofNat 6 f) 0) := by
      simp only [encF1, pack, bit, BitVec.toNat_ofNat, toNat_l2Bits_true]
      simp
      omega
    refine faithful_of_major true hfb (by decide) (hw.trans layout) (by simp [bodyBits]) fun w hw ho => ?_
    rw [decodeMajor_float (f := f) ho (by simp [hw, funct6]; omega)]
    refine hrow w ?_ ?_ (beq_one_eq_of_toNat ?_) ?_ ?_ <;> simp [hw, fRt, fRa, fPrc, fRm, bit, -BitVec.toNat_ofNat]

theorem faithful_flag {f : Nat} {ra : RegNo} {imm : BitVec 6} {form : FlagForm} (hfb : blankMajor fb = true)
    (hw : encodeWord fb i = encFF f ra.toNat imm.toNat form)
    (hrow : ∀ long w, fRa w = ra → fld w 18 6 = imm → fFlag long w = form → decFloat long w f = .ok i)
    (hf : f < 2 ^ 6 := by decide) : Faithful fb i := by
  cases form with
  | short =>
    have layout : encFF f ra.toNat imm.toNat .short = (pack (.ofNat 6 0x0F) <| pack (l2Bits false) <|
        pack ra <| pack 0#5 <| pack imm <| pack 0#2 <| pack (.ofNat 6 f) 0) := by
      simp only [encFF, pack, BitVec.toNat_ofNat, toNat_l2Bits_false]
      omega
    refine faithful_of_major false hfb (by decide) (hw.trans layout) (by simp [bodyBits]) fun w hw ho => ?_
    rw [decodeMajor_float (f := f) ho (by simp [hw, funct6]; omega)]
    refine hrow _ w ?_ ?_ ?_ <;> simp [hw, fRa, fFlag]
  | long prc =>
    have layout : encFF f ra.toNat imm.toNat (.long prc) = (pack (.ofNat 6 0x0F) <| pack (l2Bits true) <|
        pack ra <| pack 0#5 <| pack imm <| pack 0#7 <| pack prc <| pack 0#7 <| pack (.ofNat 6 f) 0) := by
      simp only [encFF, pack, BitVec.toNat_ofNat, toNat_l2Bits_true]
      omega
    refine faithful_of_major true hfb (by decide) (hw.trans layout) (by simp [bodyBits]) fun w hw ho => ?_
    rw [decodeMajor_float (f := f) ho (by simp [hw, funct6]; omega)]
    refine hrow _ w ?_ ?_ ?_ <;> simp [hw, fRa, fFlag]

/-! ### Vectors (R257, 48_vector R878, R893 to R899) -/

theorem decodeMajor_vector {fp long : Bool} {w f : Nat} (ho : fldNat w 0 6 = vecOp fp) (hf : funct6 long w = f) :
    decodeMajor long w = decVector fp long w f := by
  rw [decodeMajor, ho, ← hf]
  cases fp <;> rfl

theorem vecOp_major (fp : Bool) : MajorOpcode (vecOp fp) := by cases fp <;> decide

theorem faithful_vector {fp : Bool} {f : Nat} {m : BitVec 3} {t a b : RegNo} {len : VecLen} (hfb : blankMajor fb = true)
    (hw : encodeWord fb i = encV fp f m.toNat t.toNat a.toNat b.toNat len)
    (hrow : ∀ long w, fLen long w = len → fVm long w = m → fRt w = t → fRa w = a → fRb w = b →
      decVector fp long w f = .ok i)
    (hf : f < 2 ^ 6 := by decide) : Faithful fb i := by
  have lt := (vecOp_major fp).1
  cases len with
  | short =>
    have layout : encV fp f m.toNat t.toNat a.toNat b.toNat .short = (pack (.ofNat 6 (vecOp fp)) <|
        pack (l2Bits false) <| pack a <| pack t <| pack b <| pack m <| pack (.ofNat 6 f) 0) := by
      simp only [encV, pack, BitVec.toNat_ofNat, toNat_l2Bits_false]
      omega
    refine faithful_of_major false hfb (vecOp_major fp) (hw.trans layout) (by simp [bodyBits]) fun w hw ho => ?_
    rw [decodeMajor_vector (f := f) ho (by simp [hw, funct6]; omega)]
    refine hrow _ w ?_ ?_ ?_ ?_ ?_ <;> simp [hw, fLen, fVm, fRt, fRa, fRb]
  | long prc rm =>
    have layout : encV fp f m.toNat t.toNat a.toNat b.toNat (.long prc rm) = (pack (.ofNat 6 (vecOp fp)) <|
        pack (l2Bits true) <| pack a <| pack t <| pack b <| pack rm <| pack prc <| pack 0#9 <| pack m <|
          pack (.ofNat 6 f) 0) := by
      simp only [encV, pack, BitVec.toNat_ofNat, toNat_l2Bits_true]
      omega
    refine faithful_of_major true hfb (vecOp_major fp) (hw.trans layout) (by simp [bodyBits]) fun w hw ho => ?_
    rw [decodeMajor_vector (f := f) ho (by simp [hw, funct6]; omega)]
    refine hrow _ w ?_ ?_ ?_ ?_ ?_ <;> simp [hw, fLen, fVm, fRt, fRa, fRb]

theorem faithful_vecShift {fp : Bool} {f : Nat} {m : BitVec 3} {t a b : RegNo} {len : ShiftLen}
    (hfb : blankMajor fb = true)
    (hw : encodeWord fb i = encVSh fp f m.toNat t.toNat a.toNat b.toNat len)
    (hrow : ∀ long w, fShLen long w = len → fVm long w = m → fRt w = t → fRa w = a → fRb w = b →
      decVector fp long w f = .ok i)
    (hf : f < 2 ^ 6 := by decide) : Faithful fb i := by
  have lt := (vecOp_major fp).1
  cases len with
  | short =>
    have layout : encVSh fp f m.toNat t.toNat a.toNat b.toNat .short = (pack (.ofNat 6 (vecOp fp)) <|
        pack (l2Bits false) <| pack a <| pack t <| pack b <| pack m <| pack (.ofNat 6 f) 0) := by
      simp only [encVSh, pack, BitVec.toNat_ofNat, toNat_l2Bits_false]
      omega
    refine faithful_of_major false hfb (vecOp_major fp) (hw.trans layout) (by simp [bodyBits]) fun w hw ho => ?_
    rw [decodeMajor_vector (f := f) ho (by simp [hw, funct6]; omega)]
    refine hrow _ w ?_ ?_ ?_ ?_ ?_ <;> simp [hw, fShLen, fVm, fRt, fRa, fRb]
  | long s2 prc rm =>
    have layout : encVSh fp f m.toNat t.toNat a.toNat b.toNat (.long s2 prc rm) = (pack (.ofNat 6 (vecOp fp)) <|
        pack (l2Bits true) <| pack a <| pack t <| pack b <| pack rm <| pack prc <| pack s2 <| pack 0#7 <| pack m <|
          pack (.ofNat 6 f) 0) := by
      simp only [encVSh, pack, BitVec.toNat_ofNat, toNat_l2Bits_true]
      omega
    refine faithful_of_major true hfb (vecOp_major fp) (hw.trans layout) (by simp [bodyBits]) fun w hw ho => ?_
    rw [decodeMajor_vector (f := f) ho (by simp [hw, funct6]; omega)]
    refine hrow _ w ?_ ?_ ?_ ?_ ?_ <;> simp [hw, fShLen, fVm, fRt, fRa, fRb]

/-- The low three bits of a five-bit place (48_vector R893, R895). -/
theorem fld3_eq {w lo : Nat} {m : BitVec 3} (h : fldNat w lo 5 % 8 = m.toNat) : fld w lo 3 = m :=
  fld_eq_of_fldNat ((fldNat_low w lo 3 2).trans h)

/-- A five-bit place that holds a three-bit number reads as that number. -/
theorem fld3_of_fldNat {w lo : Nat} {m : BitVec 3} (h : fldNat w lo 5 = m.toNat) : fld w lo 3 = m :=
  fld3_eq (by omega)

/-- A compare: the condition's top bit chooses between two functions (48_vector R893). -/
theorem faithful_compare {fp : Bool} {f g : Nat} {m cn mt : BitVec 3} {a b : RegNo} {len : VecLen}
    (hfb : blankMajor fb = true)
    (hw : encodeWord fb i = encV fp (cmpFunct cn.toNat f g) m.toNat (cmpPlace cn.toNat mt.toNat) a.toNat b.toNat len)
    (hlow : ∀ long w, fLen long w = len → fVm long w = m → fCn 0 w = cn → fld w 13 3 = mt → fRa w = a → fRb w = b →
      decVector fp long w f = .ok i)
    (hhigh : ∀ long w, fLen long w = len → fVm long w = m → fCn 1 w = cn → fld w 13 3 = mt → fRa w = a → fRb w = b →
      decVector fp long w g = .ok i)
    (hb : f < 2 ^ 6 ∧ g < 2 ^ 6 := by decide) : Faithful fb i := by
  have place : cmpPlace cn.toNat mt.toNat = (BitVec.ofNat 5 (cmpPlace cn.toNat mt.toNat)).toNat := by
    rw [cmpPlace, BitVec.toNat_ofNat]
    omega
  have target {w : Nat} (h : fRt w = .ofNat 5 (cmpPlace cn.toNat mt.toNat)) :
      fldNat w 13 5 = cn.toNat % 4 * 8 + mt.toNat :=
    (congrArg BitVec.toNat h).trans place.symm
  have mask {w : Nat} (h : fRt w = .ofNat 5 (cmpPlace cn.toNat mt.toNat)) : fld w 13 3 = mt :=
    fld3_eq (by rw [target h]; omega)
  have cond {w : Nat} (h : fRt w = .ofNat 5 (cmpPlace cn.toNat mt.toNat)) : fldNat w 16 2 = cn.toNat % 4 := by
    rw [fldNat_high w 13 3 2, target h]
    omega
  rw [place] at hw
  by_cases low : cn.toNat / 4 = 0
  · rw [cmpFunct, if_pos low] at hw
    exact faithful_vector hfb hw (fun long w hl hm ht ha hb => hlow long w hl hm
      (ofNat_eq_of_eq (by rw [cond ht]; omega)) (mask ht) ha hb) hb.1
  · rw [cmpFunct, if_neg low] at hw
    exact faithful_vector hfb hw (fun long w hl hm ht ha hb => hhigh long w hl hm
      (ofNat_eq_of_eq (by rw [cond ht]; omega)) (mask ht) ha hb) hb.2

/-- No long word reads as the short form. -/
theorem long_eq_false_of_fLen {long : Bool} {w : Nat} (h : fLen long w = .short) : long = false := by
  cases long
  · rfl
  · nomatch h

theorem faithful_mask {fp : Bool} {k t a b : Nat} (hfb : blankMajor fb = true)
    (hw : encodeWord fb i = encV fp 0x30 k t a b .short)
    (hrow : ∀ w, fldNat w 23 3 = k → fldNat w 13 5 = t → fldNat w 8 5 = a → fldNat w 18 5 = b → decMask fp w = .ok i)
    (hb : k < 2 ^ 3 ∧ t < 2 ^ 5 ∧ a < 2 ^ 5 ∧ b < 2 ^ 5 := by omega) : Faithful fb i := by
  obtain ⟨ltk, ltt, lta, ltb⟩ := hb
  have same {n v : Nat} (h : v < 2 ^ n) : (BitVec.ofNat n v).toNat = v := by rw [BitVec.toNat_ofNat, Nat.mod_eq_of_lt h]
  rw [← same ltk, ← same ltt, ← same lta, ← same ltb] at hw
  refine faithful_vector hfb hw fun long w hl hm ht ha hb => ?_
  obtain rfl := long_eq_false_of_fLen hl
  exact hrow w ((congrArg BitVec.toNat hm).trans (same ltk)) ((congrArg BitVec.toNat ht).trans (same ltt))
    ((congrArg BitVec.toNat ha).trans (same lta)) ((congrArg BitVec.toNat hb).trans (same ltb))

/-! ### The compressed table (46_compressed R700) -/

theorem faithful_of_compressed {w : Nat} (hw : encodeWord fb i = w) (hl : fldNat w 6 2 = 2 ∨ fldNat w 6 2 = 3)
    (hfit : w >>> 16 = 0) (hdec : decodeNat fb w = .ok i) : Faithful fb i := by
  subst hw
  rw [Nat.shiftRight_eq_div_pow, Nat.div_eq_zero_iff_lt (by decide)] at hfit
  refine ⟨?_, hdec⟩
  rw [lengthOf]
  obtain h | h := hl <;> rw [h] <;> exact hfit

theorem decodeNat_of_l2_two {w : Nat} (hl : fldNat w 6 2 = 2) : decodeNat fb w = decodeC2 w := by
  rw [decodeNat, hl]
  rfl

theorem decodeNat_of_l2_three {w : Nat} (hl : fldNat w 6 2 = 3) : decodeNat fb w = decodeC3 w := by
  rw [decodeNat, hl]
  rfl

/-- A base pattern: a row number above an L2 field of 2 or 3. -/
abbrev CompressedBase (base : Nat) : Prop :=
  base = 64 * (base / 64 % 4) + 4096 * (base / 4096) ∧ (base / 64 % 4 = 2 ∨ base / 64 % 4 = 3) ∧ base < 2 ^ 16

theorem faithful_c {base : Nat} {f5 : BitVec 5} {g5 : RegNo} (hw : encodeWord fb i = encC base f5.toNat g5.toNat)
    (hrow : ∀ w, fldNat w 6 2 = base / 64 % 4 → fldNat w 12 4 = base / 4096 → cF5 w = f5 → cG5 w = g5 →
      decodeNat fb w = .ok i)
    (hb : CompressedBase base := by decide) : Faithful fb i := by
  obtain ⟨parts, l2, lt⟩ := hb
  have layout : encC base f5.toNat g5.toNat = (pack g5 <| pack (.ofNat 1 f5.toNat) <| pack (.ofNat 2 (base / 64)) <|
      pack (.ofNat 4 (f5.toNat / 2)) <| pack (.ofNat 4 (base / 4096)) 0) := by
    simp only [encC, pack, BitVec.toNat_ofNat]
    omega
  refine faithful_of_compressed (hw.trans layout) (by simpa using l2) (by simp)
    (hrow _ (by simp) ?_ (ofNat_eq_of_eq ?_) ?_) <;> simp [cG5] <;> omega

theorem faithful_c7 {base : Nat} {d : BitVec 7} {g5 : RegNo} (hw : encodeWord fb i = encC7 base d.toNat g5.toNat)
    (hrow : ∀ w, fldNat w 14 2 = base / 2 ^ 14 → cG5 w = g5 → cD7 w = d → decodeC2 w = .ok i)
    (hb : base = 64 * 2 + 2 ^ 14 * (base / 2 ^ 14) ∧ base < 2 ^ 16 := by decide) : Faithful fb i := by
  obtain ⟨parts, lt⟩ := hb
  have layout : encC7 base d.toNat g5.toNat = (pack g5 <| pack (.ofNat 1 d.toNat) <| pack 2#2 <|
      pack (.ofNat 6 (d.toNat / 2)) <| pack (.ofNat 2 (base / 2 ^ 14)) 0) := by
    simp only [encC7, pack, BitVec.toNat_ofNat]
    omega
  refine faithful_of_compressed (hw.trans layout) (by simp) (by simp)
    ((decodeNat_of_l2_two (by simp)).trans (hrow _ ?_ ?_ (ofNat_eq_of_eq ?_))) <;> simp [cG5] <;> omega

theorem faithful_c10 {base : Nat} {v : BitVec 10} (hw : encodeWord fb i = encC base (v.toNat / 32) (v.toNat % 32))
    (hrow : ∀ w, fldNat w 6 2 = base / 64 % 4 → fldNat w 12 4 = base / 4096 → cD10 w = v → decodeNat fb w = .ok i)
    (hb : CompressedBase base := by decide) : Faithful fb i := by
  have high : v.toNat / 32 = (BitVec.ofNat 5 (v.toNat / 32)).toNat := by
    rw [BitVec.toNat_ofNat]
    omega
  have low : v.toNat % 32 = (BitVec.ofNat 5 v.toNat).toNat := rfl
  rw [high, low] at hw
  refine faithful_c hw (fun w hl hrow' hf hg => hrow w hl hrow' (ofNat_eq_of_eq ?_)) hb
  have five : fldNat w 8 4 * 2 + fldNat w 5 1 = v.toNat / 32 := by
    have := congrArg BitVec.toNat hf
    rw [cF5, ← high, BitVec.toNat_ofNat] at this
    have l4 : fldNat w 8 4 < 2 ^ 4 := Nat.mod_lt _ (by decide)
    have l1 : fldNat w 5 1 < 2 ^ 1 := Nat.mod_lt _ (by decide)
    omega
  have gee : fldNat w 0 5 = v.toNat % 32 := congrArg BitVec.toNat hg
  omega

theorem faithful_cd {base : Nat} {r q : BitVec 3} {d : BitVec 4}
    (hw : encodeWord fb i = encCd base r.toNat q.toNat d.toNat)
    (hrow : ∀ w, fldNat w 6 2 = base / 64 % 4 → fldNat w 12 4 = base / 4096 → cR3 w = r → cQ3 w = q →
      cD4 w = d → decodeNat fb w = .ok i)
    (hb : CompressedBase base := by decide) : Faithful fb i := by
  obtain ⟨parts, l2, lt⟩ := hb
  have layout : encCd base r.toNat q.toNat d.toNat = (pack q <| pack (.ofNat 2 d.toNat) <| pack (.ofNat 1 r.toNat) <|
      pack (.ofNat 2 (base / 64)) <| pack (.ofNat 2 (r.toNat / 2)) <| pack (.ofNat 2 (d.toNat / 4)) <|
        pack (.ofNat 4 (base / 4096)) 0) := by
    simp only [encCd, pack, BitVec.toNat_ofNat]
    omega
  refine faithful_of_compressed (hw.trans layout) (by simpa using l2) (by simp)
    (hrow _ (by simp) ?_ (ofNat_eq_of_eq ?_) ?_ (ofNat_eq_of_eq ?_)) <;> simp [cQ3] <;> omega

/-- The rows of Op4 = 4 with an immediate: the row number k lies above the primed register. -/
theorem faithful_c4 (k : Nat) {q : BitVec 3} {f5 : BitVec 5}
    (hw : encodeWord fb i = encC (0x4080 + 8 * k) f5.toNat q.toNat)
    (hrow : ∀ w, fldNat w 3 2 = k → cQ3 w = q → cF5 w = f5 → decC4 w = .ok i)
    (hk : k < 2 ^ 2 := by decide) : Faithful fb i := by
  have layout : encC (0x4080 + 8 * k) f5.toNat q.toNat = (pack q <| pack (.ofNat 2 k) <| pack (.ofNat 1 f5.toNat) <|
      pack 2#2 <| pack (.ofNat 4 (f5.toNat / 2)) <| pack 4#4 0) := by
    simp only [encC, pack, BitVec.toNat_ofNat]
    omega
  have row (w : Nat) (hl : fldNat w 6 2 = 2) (ho : fldNat w 12 4 = 4) : decodeNat fb w = decC4 w := by
    rw [decodeNat_of_l2_two hl, decodeC2, ho]
    rfl
  refine faithful_of_compressed (hw.trans layout) (by simp) (by simp)
    ((row _ (by simp) (by simp)).trans (hrow _ ?_ ?_ (ofNat_eq_of_eq ?_))) <;> simp [cQ3] <;> omega

/-- The rows of Op4 = 4 with two primed registers: the row number k lies above them. -/
theorem faithful_c4r (k : Nat) {r q : BitVec 3}
    (hw : encodeWord fb i = encCd (0x4098 + 1024 * k) r.toNat q.toNat 0)
    (hrow : ∀ w, fldNat w 10 2 = k → cR3 w = r → cQ3 w = q → decC4r w = .ok i)
    (hk : k < 2 ^ 2 := by decide) : Faithful fb i := by
  have layout : encCd (0x4098 + 1024 * k) r.toNat q.toNat 0 = (pack q <| pack 3#2 <| pack (.ofNat 1 r.toNat) <|
      pack 2#2 <| pack (.ofNat 2 (r.toNat / 2)) <| pack (.ofNat 2 k) <| pack 4#4 0) := by
    simp only [encCd, pack, BitVec.toNat_ofNat]
    omega
  have row (w : Nat) (hl : fldNat w 6 2 = 2) (ho : fldNat w 12 4 = 4) (hr : fldNat w 3 2 = 3) :
      decodeNat fb w = decC4r w := by
    rw [decodeNat_of_l2_two hl, decodeC2, ho]
    show decC4 w = _
    rw [decC4, hr]
    rfl
  refine faithful_of_compressed (hw.trans layout) (by simp) (by simp)
    ((row _ (by simp) (by simp) (by simp)).trans (hrow _ ?_ (ofNat_eq_of_eq ?_) ?_)) <;> simp [cQ3] <;> omega

end formats

section rows

variable {w : Nat}

/-! ## The maps inside the maps (R243 to R256) -/

theorem decodeMajor_load20 {long : Bool} (h : fldNat w 0 6 = 0x20) : decodeMajor long w = decLoad20 long w := by
  rw [decodeMajor, h]; rfl

theorem decodeMajor_load21 {long : Bool} (h : fldNat w 0 6 = 0x21) : decodeMajor long w = decLoad21 long w := by
  rw [decodeMajor, h]; rfl

theorem decodeMajor_load1B {long : Bool} (h : fldNat w 0 6 = 0x1B) : decodeMajor long w = decLoad1B long w := by
  rw [decodeMajor, h]; rfl

theorem decodeMajor_load3B {long : Bool} (h : fldNat w 0 6 = 0x3B) : decodeMajor long w = decLoad3B long w := by
  rw [decodeMajor, h]; rfl

theorem decodeMajor_load11 {long : Bool} (h : fldNat w 0 6 = 0x11) : decodeMajor long w = decLoad11 long w := by
  rw [decodeMajor, h]; rfl

theorem decodeMajor_store24 {long : Bool} (h : fldNat w 0 6 = 0x24) : decodeMajor long w = decStore24 long w := by
  rw [decodeMajor, h]; rfl

theorem decodeMajor_store2B {long : Bool} (h : fldNat w 0 6 = 0x2B) : decodeMajor long w = decStore2B long w := by
  rw [decodeMajor, h]; rfl

theorem decodeMajor_amoReg (h : fldNat w 0 6 = 0x2F) : decodeMajor false w = decAmoReg w := by
  rw [decodeMajor, h]; rfl

theorem decodeMajor_amoImm (h : fldNat w 0 6 = 0x3F) : decodeMajor false w = decAmoImm w := by
  rw [decodeMajor, h]; rfl

theorem decRR_bcd (h : fldNat w 26 6 = 0x00) : decRR w = decBcd w := by rw [decRR, h]; rfl

theorem decRR_single (h : fldNat w 26 6 = 0x01) : decRR w = decSingle w := by rw [decRR, h]; rfl

theorem decRR_bmm (h : fldNat w 26 6 = 0x03) : decRR w = decBmm w := by rw [decRR, h]; rfl

theorem decRR_shiftReg (h : fldNat w 26 6 = 0x2F) : decRR w = decShiftReg w := by rw [decRR, h]; rfl

theorem decRR_vmov (h : fldNat w 26 6 = 0x33) : decRR w = decVmov w := by rw [decRR, h]; rfl

theorem decRR48_cond (h : fldNat w 42 6 = 0x29) : decRR48 w = decCond48 w := by rw [decRR48, h]; rfl

/-! ## Rows that read a field in two parts, and rows that share a word (R230, R240, R264) -/

/-- The function code of a shift by an immediate holds the count's top bit. -/
theorem decRR_shiftImm {n : BitVec 6} (hf : fldNat w 26 6 = 0x0F + 16 * (n.toNat / 32)) :
    decRR w = decShiftImm (32 * (n.toNat / 32)) w := by
  obtain h | h : n.toNat / 32 = 0 ∨ n.toNat / 32 = 1 := by omega
  all_goals
    rw [decRR, hf, h]
    rfl

theorem shiftCount_eq {n : BitVec 6} (hb : fldNat w 18 5 = n.toNat % 32) :
    BitVec.ofNat 6 (32 * (n.toNat / 32) + fldNat w 18 5) = n :=
  ofNat_eq_of_eq (by omega)

/-- The function code of MOV holds the top bit of the register set. -/
theorem decRR_mov {rs : BitVec 6} (hf : fldNat w 26 6 = 0x22 + rs.toNat / 32) (hb : fldNat w 18 5 = rs.toNat % 32) :
    decRR w = .ok (.mov (fSz w) rs (fRt w) (fRa w)) := by
  obtain h | h : rs.toNat / 32 = 0 ∨ rs.toNat / 32 = 1 := by omega
  · have set : BitVec.ofNat 6 (fldNat w 18 5) = rs := ofNat_eq_of_eq (by omega)
    rw [decRR, hf, h, ← set]
    rfl
  · have set : BitVec.ofNat 6 (32 + fldNat w 18 5) = rs := ofNat_eq_of_eq (by omega)
    rw [decRR, hf, h, ← set]
    rfl

/-- The level of RTI lies at 23:18. -/
theorem rtiLevel_eq {sema : BitVec 6} (hz : fldNat w 23 3 = sema.toNat / 32) (hb : fldNat w 18 5 = sema.toNat % 32) :
    fld w 18 6 = sema :=
  fld_eq_of_fldNat (by rw [fldNat_append w 18 5 1, fldNat_low w 23 1 2, hz, hb]; omega)

/-- The buffer number of EXEC lies at 13:8. -/
theorem execNumber_eq {n : BitVec 6} (ht : fldNat w 13 5 = n.toNat / 32) (ha : fldNat w 8 5 = n.toNat % 32) :
    fld w 8 6 = n :=
  fld_eq_of_fldNat (by rw [fldNat_append w 8 5 1, fldNat_low w 13 1 4, ht, ha]; omega)

/-- The fields that CLI has as zero. -/
theorem seiBits_eq (w : Nat) :
    fldNat w 8 14 = (fRa w).toNat + 2 ^ 5 * ((fRt w).toNat + 2 ^ 5 * fldNat w 18 4) := by
  rw [fldNat_append w 8 5 9, fldNat_append w 13 5 4]
  rfl

theorem decSei_sei {m : BitVec 4} (hb : fldNat w 18 5 = m.toNat) (h : ¬ (fRt w = 0 ∧ fRa w = 0 ∧ m = 0)) :
    decSei w = .ok (.sei (fRt w) (fRa w) m) := by
  have mask : fldNat w 18 4 = m.toNat := by rw [fldNat_low w 18 4 1, hb]; omega
  rw [decSei, if_neg, fld_eq_of_fldNat mask]
  rw [seiBits_eq, mask]
  intro zero
  exact h ⟨BitVec.eq_of_toNat_eq (by simp; omega), BitVec.eq_of_toNat_eq (by simp; omega),
    BitVec.eq_of_toNat_eq (by simp; omega)⟩

theorem decSei_cli (ht : fRt w = 0) (ha : fRa w = 0) (hb : fldNat w 18 5 = 0) : decSei w = .ok .cli :=
  if_pos (by rw [seiBits_eq, ht, ha, fldNat_low w 18 4 1, hb]; rfl)

/-- The bits that PFI fixes are those of BRK's cause, level and skip, and the bit of its register form. -/
theorem brkBits_eq (w : Nat) : fldNat w 8 18 =
    fldNat w 8 8 + 2 ^ 8 * (fldNat w 16 1 + 2 * ((fld w 17 4).toNat + 2 ^ 4 * (fld w 21 5).toNat)) := by
  rw [fldNat_append w 8 8 10, fldNat_append w 16 1 9, fldNat_append w 17 4 5]
  rfl

theorem decBrk_pfi (hk : fldNat w 16 1 = 0) (hc : fldNat w 8 8 = 255) (hl : fld w 17 4 = 0) (hs : fld w 21 5 = 2) :
    decBrk false w = .ok (.pfi (fld w 26 6)) := by
  rw [decBrk, hk, if_neg (by decide), if_pos ⟨rfl, by rw [brkBits_eq, hk, hc, hl, hs]; rfl⟩]

theorem decBrk_brk {long : Bool} {c : BitVec 8} (hk : fldNat w 16 1 = 0) (hc : fldNat w 8 8 = c.toNat)
    (h : ¬ (long = false ∧ fld w 21 5 = 2 ∧ fld w 17 4 = 0 ∧ c = 255)) :
    decBrk long w = .ok (.brk (fld w 26 6) (fld w 21 5) (fld w 17 4) c long) := by
  rw [decBrk, hk, if_neg (by decide), if_neg, fld_eq_of_fldNat hc]
  rw [brkBits_eq, hk, hc]
  rintro ⟨short, bits⟩
  exact h ⟨short, BitVec.eq_of_toNat_eq (by simp; omega), BitVec.eq_of_toNat_eq (by simp; omega),
    BitVec.eq_of_toNat_eq (by simp; omega)⟩

theorem decBrk_brkReg {long : Bool} {ra : RegNo} (hk : fldNat w 16 1 = 1) (hc : fldNat w 8 8 = ra.toNat) :
    decBrk long w = .ok (.brkReg (fld w 26 6) (fld w 21 5) (fld w 17 4) ra long) := by
  have reg : fRa w = ra := fld_eq_of_fldNat (by rw [fldNat_low w 8 5 3, hc]; omega)
  rw [decBrk, if_pos hk, reg]

/-- The rows 8 to 11 of the compressed table are BEQZ: the displacement reaches into the row number. -/
theorem decodeC2_beqz (h : fldNat w 14 2 = 2) : decodeC2 w = .ok (.beqz16 (cG5 w) (cD7 w)) := by
  have row : fldNat w 12 4 = fldNat w 12 2 + 8 := by rw [fldNat_append w 12 2 2, h]; rfl
  have lt : fldNat w 12 2 < 4 := Nat.mod_lt _ (by decide)
  obtain h | h | h | h : fldNat w 12 2 = 0 ∨ fldNat w 12 2 = 1 ∨ fldNat w 12 2 = 2 ∨ fldNat w 12 2 = 3 := by omega
  all_goals
    rw [decodeC2, row, h]
    rfl

/-- The rows 12 to 15 are BNEZ. -/
theorem decodeC2_bnez (h : fldNat w 14 2 = 3) : decodeC2 w = .ok (.bnez16 (cG5 w) (cD7 w)) := by
  have row : fldNat w 12 4 = fldNat w 12 2 + 12 := by rw [fldNat_append w 12 2 2, h]; rfl
  have lt : fldNat w 12 2 < 4 := Nat.mod_lt _ (by decide)
  obtain h | h | h | h : fldNat w 12 2 = 0 ∨ fldNat w 12 2 = 1 ∨ fldNat w 12 2 = 2 ∨ fldNat w 12 2 = 3 := by omega
  all_goals
    rw [decodeC2, row, h]
    rfl

end rows

/-! ## Every well-formed instruction -/

/-- EXEC: its buffer number lies in the places of Ra and Rt. -/
theorem faithful_execBuf {fb : BitVec 6} (hfb : blankMajor fb = true) (n : BitVec 6) : Faithful fb (.execBuf n) := by
  have top : (BitVec.ofNat 5 (n.toNat / 32)).toNat = n.toNat / 32 := by rw [BitVec.toNat_ofNat]; omega
  have word : encodeWord fb (.execBuf n) =
      encRR 0x01 0 (BitVec.ofNat 5 (n.toNat / 32)).toNat (BitVec.ofNat 5 n.toNat).toNat 0x13 := by rw [top]; rfl
  refine faithful_rr hfb word fun w hf _ hb ht ha => ?_
  rw [decRR_single hf, decSingle, hb, ← execNumber_eq ((congrArg BitVec.toNat ht).trans top) (congrArg BitVec.toNat ha)]
  rfl

theorem faithful_nop {fb : BitVec 6} (hfb : blankMajor fb = true) (long : Bool) : Faithful fb (.nop long) := by
  have word : encodeWord fb (.nop long) = pack (.ofNat 6 0x3D) (pack (l2Bits long) 0) := by cases long <;> rfl
  refine faithful_of_major long hfb (by decide) word (by simp) fun w _ ho => ?_
  rw [decodeMajor, ho]
  rfl

/-- ADDISP is the word of the compressed ADDI with r31 (R242). -/
theorem faithful_addisp {fb : BitVec 6} (amt : BitVec 5) : Faithful fb (.addisp amt) := by
  have word : encC 0x009F amt.toNat 0 = encC 0x0080 amt.toNat (31#5).toNat := by rw [encC, encC]; rfl
  refine faithful_c word fun w hl ho hf hg => ?_
  rw [decodeNat_of_l2_two hl, decodeC2, ho, ← hf]
  exact if_pos hg

/-- Format by format: each case names the format's lemma, and finds its row in the map. -/
theorem faithful_of_wellFormed {fb : BitVec 6} {i : Instr} (hfb : blankMajor fb = true) (hwf : i.wellFormed = true) :
    Faithful fb i := by
  cases i
  case addi | slti | sltui | andi | xori | seqi | sgtui | sgti | mulfi | modi | mului | muli | divui | divi | lb | lbu |
      lwr | pushc | inc | cache | lv =>
    exact faithful_imm hfb rfl fun _ _ hop _ _ _ => by subst_vars; rw [decodeMajor, hop]; rfl
  case ldi =>
    exact faithful_imm (ra := 0) hfb rfl fun _ _ hop _ ha _ => by
      subst_vars; rw [decodeMajor, hop]; exact if_pos (congrArg BitVec.toNat ha)
  case ori =>
    exact faithful_imm hfb rfl fun _ _ hop _ _ _ => by
      subst_vars; rw [decodeMajor, hop]; exact if_neg fun h => of_decide_eq_true hwf (fld_eq_of_fldNat h)
  case chki =>
    exact faithful_ri (long := false) hfb rfl (BitVec.isLt _) fun _ hop _ _ h => by
      rw [decodeMajor, hop]; subst_vars; exact congrArg (fun imm => Except.ok (Instr.chki _ _ imm)) (ofNat_eq_of_eq h)
  case cas =>
    exact faithful_ri (long := false) hfb rfl (BitVec.isLt _) fun _ hop _ _ h => by
      rw [decodeMajor, hop]; subst_vars; exact congrArg (fun imm => Except.ok (Instr.cas _ _ imm)) (ofNat_eq_of_eq h)
  case sb | swc | sv =>
    exact faithful_disp hfb rfl fun _ _ hop _ _ _ => by subst_vars; rw [decodeMajor, hop]; rfl
  case lui | auipc =>
    exact faithful_upper hfb rfl fun _ _ hop _ _ => by subst_vars; rw [decodeMajor, hop]; rfl
  -- size-coded accesses
  case lc | lh | lw | ld =>
    exact faithful_load hfb rfl hwf fun _ _ hop _ _ hk _ => by
      subst_vars; rw [decodeMajor_load20 hop, decLoad20, hk]; rfl
  case lcu | lhu =>
    exact faithful_load hfb rfl hwf fun _ _ hop _ _ hk _ => by
      subst_vars; rw [decodeMajor_load21 hop, decLoad21, hk]; rfl
  case lfs | lfd | lfq =>
    exact faithful_load hfb rfl hwf fun _ _ hop _ _ hk _ => by
      subst_vars; rw [decodeMajor_load1B hop, decLoad1B, hk]; rfl
  case lvc | lvh | lvw =>
    exact faithful_load hfb rfl hwf fun _ _ hop _ _ hk _ => by
      subst_vars; rw [decodeMajor_load3B hop, decLoad3B, hk]; rfl
  case lvcu | lvhu =>
    exact faithful_load hfb rfl hwf fun _ _ hop _ _ hk _ => by
      subst_vars; rw [decodeMajor_load11 hop, decLoad11, hk]; rfl
  case sc | sh | sw =>
    exact faithful_store hfb rfl hwf fun _ _ hop _ _ hk _ => by
      subst_vars; rw [decodeMajor_store24 hop, decStore24, hk]; rfl
  case sfs | sfd | sfq =>
    exact faithful_store hfb rfl hwf fun _ _ hop _ _ hk _ => by
      subst_vars; rw [decodeMajor_store2B hop, decStore2B, hk]; rfl
  -- the register-register group
  case add | sub | slt | sltu | and | or | xor | seq | modu | modsu | mod | ptrdif | muluh | mulsuh | mulh | sle |
      sleu | mulf | min | max | mulu | mulsu | mul | fxmul | divu | divsu | div =>
    exact faithful_rr hfb rfl fun _ hf hz hb _ _ => by
      obtain rfl := fld_eq_of_fldNat hz; obtain rfl := fld_eq_of_fldNat hb; subst_vars; rw [decRR, hf]; rfl
  case nand | nor | xnor | chk | wait =>
    exact faithful_rr hfb rfl fun _ hf _ hb _ _ => by
      obtain rfl := fld_eq_of_fldNat hb; subst_vars; rw [decRR, hf]; rfl
  case bcdadd | bcdsub | bcdmul =>
    exact faithful_rr hfb rfl fun _ hf hz hb _ _ => by
      obtain rfl := fld_eq_of_fldNat hb; subst_vars; rw [decRR_bcd hf, decBcd, hz]; rfl
  case mor | mxor | mort | mxort =>
    exact faithful_rr hfb rfl fun _ hf hz hb _ _ => by
      obtain rfl := fld_eq_of_fldNat hb; subst_vars; rw [decRR_bmm hf, decBmm, fldNat_low _ 23 2 1, hz]; rfl
  case shl | shr | asl | asr | rol | ror =>
    exact faithful_rr hfb rfl fun _ hf hz hb _ _ => by
      obtain rfl := fld_eq_of_fldNat hb; subst_vars; rw [decRR_shiftReg hf, decShiftReg, hz]; rfl
  case shlImm | shrImm | aslImm | asrImm | rolImm | rorImm =>
    exact faithful_rr hfb rfl fun _ hf hz hb _ _ => by
      subst_vars; rw [decRR_shiftImm hf]; simp only [decShiftImm, hz, shiftCount_eq hb]
  case mov =>
    exact faithful_rr hfb rfl fun _ hf hz hb _ _ => by
      obtain rfl := fld_eq_of_fldNat hz; subst_vars; exact decRR_mov hf hb
  case cntlz | cntlo | cntpop | abs | not | redor | neg =>
    exact faithful_rr hfb rfl fun _ hf hz hb _ _ => by
      obtain rfl := fld_eq_of_fldNat hz; subst_vars; rw [decRR_single hf, decSingle, hb]; rfl
  case com | zxh | zxc | zxb | sxh | sxc | sxb | wtme =>
    exact faithful_rr hfb rfl fun _ hf _ hb _ _ => by
      subst_vars; rw [decRR_single hf, decSingle, hb]; rfl
  case setwb =>
    exact faithful_rr (rt := 0) hfb rfl fun _ hf _ hb _ _ => by
      subst_vars; rw [decRR_single hf, decSingle, hb]; rfl
  case memdb | memsb | sync | chainoff | chainon =>
    exact faithful_rr (rt := 0) (ra := 0) hfb rfl fun _ hf _ hb _ _ => by
      rw [decRR_single hf, decSingle, hb]; rfl
  case execBuf n => exact faithful_execBuf hfb n
  case sei =>
    exact faithful_rr hfb rfl fun _ hf _ hb _ _ => by
      subst_vars; rw [decRR, hf]; exact decSei_sei hb (of_decide_eq_true hwf)
  case cli =>
    exact faithful_rr (rt := 0) (ra := 0) hfb rfl fun _ hf _ hb ht ha => by
      rw [decRR, hf]; exact decSei_cli ht ha hb
  case rti =>
    exact faithful_rr (rt := 0) hfb rfl fun _ hf hz hb _ _ => by
      subst_vars; rw [decRR, hf, ← rtiLevel_eq hz hb]; rfl
  case vmovTo | vmovFrom =>
    exact faithful_rr hfb rfl fun _ hf _ hb _ _ => by
      subst_vars; rw [decRR_vmov hf, decVmov, hb]; rfl
  case tlb => exact faithful_tlb hfb
  case addv long =>
    cases long
    · exact faithful_rr hfb rfl fun _ hf _ hb _ _ => by
        obtain rfl := fld_eq_of_fldNat hb; subst_vars; rw [decRR, hf]; rfl
    · exact faithful_rr48 (rc := 0) hfb rfl fun _ hf _ _ _ _ _ _ => by subst_vars; rw [decRR48, hf]; rfl
  -- the 48-bit register-register group
  case rtop | or3 | min3 | max3 =>
    exact faithful_rr48 hfb rfl fun _ hf _ hz _ _ _ _ => by
      obtain rfl := fld_eq_of_fldNat hz; subst_vars; rw [decRR48, hf]; rfl
  case xorOp =>
    exact faithful_rr48 hfb rfl fun _ hf ho hz _ _ _ _ => by
      obtain rfl := fld_eq_of_fldNat hz; obtain rfl := fld_eq_of_fldNat ho; subst_vars; rw [decRR48, hf]; rfl
  case add3 | mux | cmovez | maj =>
    exact faithful_rr48 hfb rfl fun _ hf _ _ _ _ _ _ => by subst_vars; rw [decRR48, hf]; rfl
  case subv =>
    exact faithful_rr48 (rc := 0) hfb rfl fun _ hf _ _ _ _ _ _ => by subst_vars; rw [decRR48, hf]; rfl
  case cmovnz | caddnz =>
    exact faithful_rr48 hfb rfl fun _ hf ho _ _ _ _ _ => by
      subst_vars; rw [decRR48_cond hf, decCond48, fldNat_high _ 36 3 3, ho]; rfl
  case cmovnzi | caddnzi =>
    exact faithful_condImm hfb rfl fun _ hk _ _ _ _ => by subst_vars; rw [decCond48, hk]; rfl
  case shlOp | shrOp | aslOp | asrOp | rolOp | rorOp =>
    exact faithful_shift48 hfb rfl fun _ hf _ _ _ _ _ _ => by subst_vars; rw [decShift48, hf]; rfl
  case bfclr | bfchg | bfins | bfinsi | bfext | bfextu | bfffo =>
    exact faithful_bitfield hfb rfl fun _ hf _ _ _ _ _ => by subst_vars; rw [decBitfield, hf]; rfl
  case nop long => exact faithful_nop hfb long
  -- indexed memory, atomics
  case lvbx | lvbux | lvcx | lvcux | lvhx | lvhux | lvwx | lcx | lcux | lbux | lhx | lhux | lwx | lbx | lwrx | leax |
      lvx | lvws | lfsx | lfdx | cachex | lfqx =>
    exact faithful_mxl hfb rfl fun _ hf hn _ _ _ _ => by subst_vars; rw [decIndexed, hf, hn]; rfl
  case sbx | shx | swx | swcx | scx | casx | svws | incx | sfsx | sfdx | sfqx | svx =>
    exact faithful_mxs hfb rfl fun _ hf hn _ _ _ _ => by subst_vars; rw [decIndexed, hf, hn]; rfl
  case push => exact faithful_push hfb _ _ _
  case amoSwap | amoAdd | amoAnd | amoOr | amoXor | amoShl | amoShr | amoMin | amoMax | amoMinu | amoMaxu =>
    exact faithful_amo hfb rfl fun _ hop hf _ _ _ _ _ _ => by
      subst_vars; rw [decodeMajor_amoReg hop, decAmoReg, hf]; rfl
  case amoSwapImm | amoAddImm | amoAndImm | amoOrImm | amoXorImm | amoShlImm | amoShrImm | amoMinImm | amoMaxImm |
      amoMinuImm | amoMaxuImm =>
    exact faithful_amo hfb rfl fun _ hop hf _ _ _ _ _ _ => by
      subst_vars; rw [decodeMajor_amoImm hop, decAmoImm, hf]; rfl
  -- flow control
  case beq | bne | blt | bge | band | bor | bltu | bgeu =>
    exact faithful_bcc hfb rfl fun _ hc _ _ _ => by subst_vars; rw [decBcc, hc]; rfl
  case fbeq | fbne | fblt | fbge | fbun =>
    exact faithful_fbcc rfl fun _ hc _ _ _ => by subst_vars; rw [decFbcc, hc]; rfl
  case bbs | bbc =>
    exact faithful_bb hfb rfl fun _ hc _ _ _ => by subst_vars; rw [decBb, hc]; rfl
  case beqi | bnei =>
    exact faithful_be hfb rfl fun _ hop _ _ _ => by subst_vars; rw [decodeMajor, hop]; rfl
  case jmp | call =>
    exact faithful_jump hfb rfl fun _ _ hop _ => by subst_vars; rw [decodeMajor, hop]; rfl
  case jal => exact faithful_jal hfb _ _ _
  case ret => exact faithful_ret hfb _ _ _ _
  -- system
  case brk =>
    exact faithful_brk hfb rfl fun _ hk hc _ _ _ => by
      subst_vars; exact decBrk_brk hk hc (of_decide_eq_true hwf)
  case brkReg =>
    exact faithful_brk hfb rfl fun _ hk hc _ _ _ => by subst_vars; exact decBrk_brkReg hk hc
  case pfi =>
    exact faithful_brk (long := false) (lvl := 0) (skip := 2) hfb rfl fun _ hk hc hl hs _ => by
      subst_vars; exact decBrk_pfi hk hc hl hs
  case csrrd | csrrw | csrrs | csrrc =>
    exact faithful_csr hfb rfl fun _ ho _ _ _ _ => by subst_vars; rw [decCsr, ho]; rfl
  case rex => exact faithful_rex hfb _ _ _ _
  -- the compressed table
  case nop16 => exact faithful_of_compressed (w := 0x0080) rfl (.inl rfl) rfl rfl
  case pfi16 => exact faithful_of_compressed (w := 0x1FA0) rfl (.inl rfl) rfl rfl
  case addisp amt => exact faithful_addisp amt
  case addi16 =>
    obtain ⟨notSp, notNop⟩ := of_decide_eq_true hwf
    exact faithful_c rfl fun _ hl ho _ _ => by
      subst_vars; rw [decodeNat_of_l2_two hl, decodeC2, ho]; show decC0 _ = _; rw [decC0, if_neg notSp, if_neg notNop]
  case ldi16 =>
    exact faithful_c rfl fun _ hl ho _ _ => by
      subst_vars; rw [decodeNat_of_l2_two hl, decodeC2, ho]; exact if_neg (of_decide_eq_true hwf)
  case brk16 =>
    exact faithful_c (g5 := 0) rfl fun _ hl ho _ hg => by
      subst_vars; rw [decodeNat_of_l2_two hl, decodeC2, ho]
      exact (if_pos hg).trans (if_neg (of_decide_eq_true hwf))
  case andi16 =>
    exact faithful_c rfl fun _ hl ho _ _ => by
      subst_vars; rw [decodeNat_of_l2_two hl, decodeC2, ho]; exact if_neg (of_decide_eq_true hwf)
  case ret16 =>
    exact faithful_c (g5 := 0) rfl fun _ hl ho _ hg => by
      subst_vars; rw [decodeNat_of_l2_two hl, decodeC2, ho]; exact if_pos hg
  case shli16 =>
    exact faithful_c rfl fun _ hl ho _ _ => by subst_vars; rw [decodeNat_of_l2_two hl, decodeC2, ho]; rfl
  case shri16 => exact faithful_c4 0 rfl fun _ hk _ _ => by subst_vars; rw [decC4, hk]; rfl
  case asri16 => exact faithful_c4 1 rfl fun _ hk _ _ => by subst_vars; rw [decC4, hk]; rfl
  case ori16 => exact faithful_c4 2 rfl fun _ hk _ _ => by subst_vars; rw [decC4, hk]; rfl
  case sub16 => exact faithful_c4r 0 rfl fun _ hk _ _ => by subst_vars; rw [decC4r, hk]; rfl
  case and16 => exact faithful_c4r 1 rfl fun _ hk _ _ => by subst_vars; rw [decC4r, hk]; rfl
  case or16 => exact faithful_c4r 2 rfl fun _ hk _ _ => by subst_vars; rw [decC4r, hk]; rfl
  case xor16 => exact faithful_c4r 3 rfl fun _ hk _ _ => by subst_vars; rw [decC4r, hk]; rfl
  case call16 | bra16 =>
    exact faithful_c10 rfl fun _ hl ho _ => by subst_vars; rw [decodeNat_of_l2_two hl, decodeC2, ho]; rfl
  case beqz16 => exact faithful_c7 rfl fun _ hk _ _ => by subst_vars; exact decodeC2_beqz hk
  case bnez16 => exact faithful_c7 rfl fun _ hk _ _ => by subst_vars; exact decodeC2_bnez hk
  case mov16 | add16 | jalr16 | lhSp | lwSp | lhFp | lwFp | shSp | swSp | shFp | swFp =>
    exact faithful_c rfl fun _ hl ho _ _ => by subst_vars; rw [decodeNat_of_l2_three hl, decodeC3, ho]; rfl
  case push16 =>
    exact faithful_c (f5 := 0) rfl fun _ hl ho hf _ => by
      subst_vars; rw [decodeNat_of_l2_three hl, decodeC3, ho]; exact if_pos hf
  case lhPr | lwPr | shPr | swPr =>
    exact faithful_cd rfl fun _ hl ho _ _ _ => by
      subst_vars; rw [decodeNat_of_l2_three hl, decodeC3, ho]; rfl
  -- floating point
  case fadd | fsub | fcmp | fmul | fdiv | fslt | fsge | fsle | fsgt | fseq | fsne | fsun =>
    exact faithful_fp2 hfb rfl fun _ _ _ _ _ _ => by subst_vars; rfl
  case fmov | ftoi | fneg | fabs | fsign | fnabs | fcvtsd | fsqrt =>
    exact faithful_fp1 (m := false) hfb rfl fun _ _ _ _ _ _ => by subst_vars; rfl
  case itof =>
    exact faithful_fp1 hfb rfl fun _ _ _ _ _ _ => by subst_vars; rfl
  case ftx | fcx | fex | fdx =>
    exact faithful_flag hfb rfl fun _ _ _ _ _ => by subst_vars; rfl
  case fsync =>
    exact faithful_flag (ra := 0) (imm := 0) hfb rfl fun _ _ _ _ _ => by subst_vars; rfl
  -- vectors
  case vadd | vsub | vand | vor | vxor | vshlv | vshrv | vadds | vsubs | vands | vors | vxors | veins | vex | vmuls |
      vdivs | vmul | vdiv =>
    exact faithful_vector hfb rfl fun _ _ _ _ _ _ _ => by subst_vars; rfl
  case vcmprss | vcidx | vscan | vabs | vbits2v | v2bits | vflt2int | vint2flt | vsign | vcntpop =>
    exact faithful_vector (b := 0) hfb rfl fun _ _ _ _ _ _ _ => by subst_vars; rfl
  case vxchg =>
    exact faithful_vector (t := 0) hfb rfl fun _ _ _ _ _ _ _ => by subst_vars; rfl
  case vsubrs =>
    exact faithful_vector hfb rfl fun _ _ _ _ _ _ _ => by
      subst_vars; exact if_neg fun h => of_decide_eq_true hwf (fld_eq_of_fldNat h)
  case vneg =>
    exact faithful_vector (b := 0) hfb rfl fun _ _ _ _ _ _ hb => by
      subst_vars; exact if_pos (congrArg BitVec.toNat hb)
  case vshl | vshr | vasr =>
    exact faithful_vecShift hfb rfl fun _ _ _ _ _ _ _ => by subst_vars; rfl
  case vsxx | vsxxs | vsxxu | vsxxsu =>
    exact faithful_compare hfb rfl (fun _ _ _ _ _ _ _ _ => by subst_vars; rfl)
      fun _ _ _ _ _ _ _ _ => by subst_vars; rfl
  case vmand | vmor | vmxor | vmxnor =>
    exact faithful_mask hfb rfl fun _ hk ht ha hb => by
      obtain rfl := fld3_of_fldNat ht; obtain rfl := fld3_of_fldNat ha; obtain rfl := fld3_of_fldNat hb
      rw [decMask, hk]; rfl
  case vmpop | vmfirst | vmlast =>
    exact faithful_mask hfb rfl fun _ hk ht ha _ => by
      obtain rfl := fld_eq_of_fldNat ht; obtain rfl := fld3_of_fldNat ha; rw [decMask, hk]; rfl
  case vmfill =>
    exact faithful_mask hfb rfl fun _ hk ht ha _ => by
      obtain rfl := fld3_of_fldNat ht; obtain rfl := fld_eq_of_fldNat ha; rw [decMask, hk]; rfl
  case vsync =>
    exact faithful_vector (m := 0) (t := 0) (a := 0) (b := 0) (len := .short) hfb rfl fun long _ hl _ _ _ _ => by
      obtain rfl := long_eq_false_of_fLen hl; rfl

/-- Settles O1: the encoding of every well-formed instruction is faithful. -/
theorem encodedInstructionDecodesToItself : Obligations.EncodedInstructionDecodesToItself :=
  fun _ _ rest hfb hwf => (faithful_of_wellFormed hfb hwf).decode_encode rest
/-! ## What the decoder answers is well formed (30_encoding R221, R242, R256, R264)

Map by map: an error, a row without a side condition, or one of the rows below. -/

/-- The answer is an error or a well-formed instruction. -/
def okWellFormed : Decoded → Bool
  | .ok i => i.wellFormed
  | .error _ => true

theorem wellFormed_of_okWellFormed {d : Decoded} {i : Instr} (h : okWellFormed d = true) (hd : d = .ok i) :
    i.wellFormed = true := by
  subst hd
  exact h

theorem okWellFormed_ite {d e : Decoded} (c : Prop) [Decidable c] (hd : okWellFormed d = true)
    (he : okWellFormed e = true) : okWellFormed (if c then d else e) = true := by
  split
  · exact hd
  · exact he

section maps

variable (fb : BitVec 6) (fp long : Bool) (w f : Nat)

/-- A size-coded displacement is a multiple of its size (R256). -/
theorem sizedImm_multiple {k : Nat} (hk : k ≤ 14) : (sizedImm long f k).nat % 2 ^ k = 0 := by
  have cut (n : Nat) (hn : k ≤ n) : f / 2 ^ k * 2 ^ k % 2 ^ n % 2 ^ k = 0 := by
    rw [Nat.mod_mod_of_dvd _ (Nat.pow_dvd_pow 2 hn), Nat.mul_mod_left]
  cases long
  · exact cut 14 hk
  · exact cut 30 (by omega)

theorem okWellFormed_decLoad20 : okWellFormed (decLoad20 long w) = true := by
  unfold decLoad20
  split
  case h_5 => rfl
  all_goals exact decide_eq_true (sizedImm_multiple _ _ (by decide))

theorem okWellFormed_decLoad21 : okWellFormed (decLoad21 long w) = true := by
  unfold decLoad21
  split
  case h_3 => rfl
  all_goals exact decide_eq_true (sizedImm_multiple _ _ (by decide))

theorem okWellFormed_decLoad1B : okWellFormed (decLoad1B long w) = true := by
  unfold decLoad1B
  split
  case h_4 => rfl
  all_goals exact decide_eq_true (sizedImm_multiple _ _ (by decide))

theorem okWellFormed_decLoad3B : okWellFormed (decLoad3B long w) = true := by
  unfold decLoad3B
  split
  case h_4 => rfl
  all_goals exact decide_eq_true (sizedImm_multiple _ _ (by decide))

theorem okWellFormed_decLoad11 : okWellFormed (decLoad11 long w) = true := by
  unfold decLoad11
  split
  case h_3 => rfl
  all_goals exact decide_eq_true (sizedImm_multiple _ _ (by decide))

theorem okWellFormed_decStore24 : okWellFormed (decStore24 long w) = true := by
  unfold decStore24
  split
  case h_4 => rfl
  all_goals exact decide_eq_true (sizedImm_multiple _ _ (by decide))

theorem okWellFormed_decStore2B : okWellFormed (decStore2B long w) = true := by
  unfold decStore2B
  split
  case h_4 => rfl
  all_goals exact decide_eq_true (sizedImm_multiple _ _ (by decide))

/-- A word that reads as BRK is not the word of PFI. -/
theorem okWellFormed_decBrk : okWellFormed (decBrk long w) = true := by
  unfold decBrk
  split
  · rfl
  · next noRegister =>
    have zero : fldNat w 16 1 = 0 := by
      have lt : fldNat w 16 1 < 2 ^ 1 := Nat.mod_lt _ (by decide)
      omega
    split
    · rfl
    · next notPfi =>
      refine decide_eq_true ?_
      rintro ⟨short, skip, lvl, cause⟩
      refine notPfi ⟨short, ?_⟩
      rw [brkBits_eq, zero, skip, lvl, fldNat_eq_toNat w 8 8, cause]
      rfl

/-- A word that reads as SEI is not the word of CLI. -/
theorem okWellFormed_decSei : okWellFormed (decSei w) = true := by
  unfold decSei
  split
  · rfl
  · next notCli =>
    refine decide_eq_true ?_
    rintro ⟨rt, ra, m⟩
    refine notCli ?_
    rw [seiBits_eq, rt, ra, fldNat_eq_toNat w 18 4, m]
    rfl

theorem okWellFormed_decOri : okWellFormed (decOri long w) = true := by
  unfold decOri
  split
  · rfl
  · next other => exact decide_eq_true fun zero => other (congrArg BitVec.toNat zero)

theorem okWellFormed_decVsubrs : okWellFormed (decVsubrs fp long w) = true := by
  unfold decVsubrs
  split
  · rfl
  · next other => exact decide_eq_true fun zero => other (congrArg BitVec.toNat zero)

theorem okWellFormed_decC0 : okWellFormed (decC0 w) = true := by
  unfold decC0
  split
  · rfl
  · next notSp =>
    split
    · rfl
    · next notNop => exact decide_eq_true ⟨notSp, notNop⟩

theorem okWellFormed_decC1 : okWellFormed (decC1 w) = true := by
  unfold decC1
  split
  · split
    · rfl
    · next notPfi => exact decide_eq_true notPfi
  · next other => exact decide_eq_true other

theorem okWellFormed_decC2 : okWellFormed (decC2 w) = true := by
  unfold decC2
  split
  · rfl
  · next other => exact decide_eq_true other

/-! ### The maps whose rows have no side condition, and those made of other maps -/

theorem okWellFormed_decSingle : okWellFormed (decSingle w) = true := by unfold decSingle; split <;> rfl

theorem okWellFormed_decBcd : okWellFormed (decBcd w) = true := by unfold decBcd; split <;> rfl

theorem okWellFormed_decBmm : okWellFormed (decBmm w) = true := by unfold decBmm; split <;> rfl

theorem okWellFormed_decShiftReg : okWellFormed (decShiftReg w) = true := by unfold decShiftReg; split <;> rfl

theorem okWellFormed_decShiftImm (hi : Nat) : okWellFormed (decShiftImm hi w) = true := by
  unfold decShiftImm; split <;> rfl

theorem okWellFormed_decVmov : okWellFormed (decVmov w) = true := by unfold decVmov; split <;> rfl

theorem okWellFormed_decRR : okWellFormed (decRR w) = true := by
  unfold decRR
  split
  case h_1 => exact okWellFormed_decBcd w
  case h_2 => exact okWellFormed_decSingle w
  case h_4 => exact okWellFormed_decBmm w
  case h_16 | h_21 => exact okWellFormed_decShiftImm w _
  case h_32 => exact okWellFormed_decShiftReg w
  case h_33 => exact okWellFormed_decSei w
  case h_36 => exact okWellFormed_decVmov w
  all_goals rfl

theorem okWellFormed_decShift48 : okWellFormed (decShift48 w) = true := by unfold decShift48; split <;> rfl

theorem okWellFormed_decCond48 : okWellFormed (decCond48 w) = true := by unfold decCond48; split <;> rfl

theorem okWellFormed_decRR48 : okWellFormed (decRR48 w) = true := by
  unfold decRR48
  split
  case h_9 => exact okWellFormed_decCond48 w
  case h_13 => exact okWellFormed_decShift48 w
  all_goals rfl

theorem okWellFormed_decBitfield : okWellFormed (decBitfield w) = true := by unfold decBitfield; split <;> rfl

theorem okWellFormed_decIndexed : okWellFormed (decIndexed w) = true := by unfold decIndexed; split <;> rfl

theorem okWellFormed_decAmoReg : okWellFormed (decAmoReg w) = true := by unfold decAmoReg; split <;> rfl

theorem okWellFormed_decAmoImm : okWellFormed (decAmoImm w) = true := by unfold decAmoImm; split <;> rfl

theorem okWellFormed_decBcc : okWellFormed (decBcc w) = true := by unfold decBcc; split <;> rfl

theorem okWellFormed_decFbcc : okWellFormed (decFbcc w) = true := by unfold decFbcc; split <;> rfl

theorem okWellFormed_decBb : okWellFormed (decBb w) = true := by unfold decBb; split <;> rfl

theorem okWellFormed_decCsr : okWellFormed (decCsr w) = true := by unfold decCsr; split <;> rfl

theorem okWellFormed_decFloat : okWellFormed (decFloat long w f) = true := by unfold decFloat; split <;> rfl

theorem okWellFormed_decMask : okWellFormed (decMask fp w) = true := by unfold decMask; split <;> rfl

theorem okWellFormed_decVector : okWellFormed (decVector fp long w f) = true := by
  unfold decVector
  split
  case h_21 => exact okWellFormed_decVsubrs fp long w
  case h_22 | h_26 | h_34 | h_38 => exact okWellFormed_ite _ rfl rfl
  case h_39 => exact okWellFormed_ite _ rfl (okWellFormed_decMask fp w)
  case h_40 => exact okWellFormed_ite _ rfl rfl
  all_goals rfl

theorem okWellFormed_decodeMajor : okWellFormed (decodeMajor long w) = true := by
  unfold decodeMajor
  split
  case h_1 => exact okWellFormed_decBrk long w
  case h_2 => exact okWellFormed_decVector true long w _
  case h_3 => exact okWellFormed_ite _ (okWellFormed_decRR48 w) (okWellFormed_decRR w)
  case h_6 => exact okWellFormed_ite _ rfl (okWellFormed_decCsr w)
  case h_10 => exact okWellFormed_decOri long w
  case h_14 => exact okWellFormed_decFloat long w _
  case h_15 => exact okWellFormed_decLoad11 long w
  case h_20 => exact okWellFormed_ite _ rfl (okWellFormed_decIndexed w)
  case h_25 => exact okWellFormed_decLoad1B long w
  case h_29 => exact okWellFormed_decLoad20 long w
  case h_30 => exact okWellFormed_decLoad21 long w
  case h_31 => exact okWellFormed_ite _ (okWellFormed_decBitfield w) rfl
  case h_33 => exact okWellFormed_decStore24 long w
  case h_35 => exact okWellFormed_ite _ rfl (okWellFormed_decBb w)
  case h_40 => exact okWellFormed_decStore2B long w
  case h_43 => exact okWellFormed_ite _ rfl (okWellFormed_decAmoReg w)
  case h_44 => exact okWellFormed_ite _ rfl (okWellFormed_decBcc w)
  case h_45 => exact okWellFormed_decVector false long w _
  case h_52 => exact okWellFormed_decLoad3B long w
  case h_56 => exact okWellFormed_ite _ rfl (okWellFormed_decAmoImm w)
  case h_13 | h_16 | h_34 | h_38 | h_46 | h_47 => exact okWellFormed_ite _ rfl rfl
  all_goals rfl

theorem okWellFormed_decodeWord : okWellFormed (decodeWord fb long w) = true :=
  okWellFormed_ite _ (okWellFormed_ite _ rfl (okWellFormed_decFbcc w)) (okWellFormed_decodeMajor long w)

theorem okWellFormed_decC4 : okWellFormed (decC4 w) = true := by
  unfold decC4
  split
  case h_4 => unfold decC4r; split <;> rfl
  all_goals rfl

theorem okWellFormed_decodeC2 : okWellFormed (decodeC2 w) = true := by
  unfold decodeC2
  split
  case h_1 => exact okWellFormed_decC0 w
  case h_2 => exact okWellFormed_decC1 w
  case h_3 => exact okWellFormed_decC2 w
  case h_5 => exact okWellFormed_decC4 w
  case h_9 => exact okWellFormed_ite _ rfl rfl
  all_goals rfl

theorem okWellFormed_decodeC3 : okWellFormed (decodeC3 w) = true := by
  unfold decodeC3
  split
  case h_4 => exact okWellFormed_ite _ rfl rfl
  all_goals rfl

theorem okWellFormed_decodeNat : okWellFormed (decodeNat fb w) = true := by
  unfold decodeNat
  split
  · exact okWellFormed_decodeWord fb false w
  · exact okWellFormed_decodeWord fb true w
  · exact okWellFormed_decodeC2 w
  · exact okWellFormed_decodeC3 w

end maps

/-- Settles O2: map by map. -/
theorem decodedInstructionIsWellFormed : Obligations.DecodedInstructionIsWellFormed :=
  fun fb w _ h => wellFormed_of_okWellFormed (okWellFormed_decodeNat fb w) h

/-! ## Printed words -/

/-- The L2 field of a byte. -/
theorem fldNat_toNat (b : Byte) (lo n : Nat) : fldNat b.toNat lo n = (Machine.field b lo n).toNat := rfl

/-- The length that each L2 field asks for (R220). -/
theorem lengthOf_toNat (b : Byte) : lengthOf b.toNat =
    if Machine.field b 6 2 = 0 then 4 else if Machine.field b 6 2 = 1 then 6 else 2 := by
  rw [lengthOf, fldNat_toNat]
  generalize Machine.field b 6 2 = l2
  revert l2
  decide

/-- Settles O3: each word by evaluation, the lengths by the four values of L2. -/
theorem wordsOfTheSpecDecode : Obligations.WordsOfTheSpecDecode :=
  ⟨rfl, rfl, rfl, rfl, rfl, rfl, rfl, rfl, rfl, rfl, rfl, rfl, rfl, lengthOf_toNat⟩

end Sys2Proof

namespace Sys2Proof.Machine

/-! ## Instructions that write one general register (40_integer_alu R300) -/

section results

variable {i : Instr} {rt ra rb : RegNo} {sz : BitVec 3}

/-- Without stack bounds no write is a stack fault (10_state R28). -/
theorem stackFault_of_unbounded {s : State} (h : s.cfg.stackBounds = none) (q : BitVec 6) (r : RegNo) (v : Word) :
    stackFault s q r v = false := by
  simp [stackFault, stackBoundsOk, h]

/-- A write of a register that is not r30 or r31 is no stack fault (60_exceptions R997). -/
theorem stackFault_of_not_stack {r : RegNo} (h : r ≠ 30 ∧ r ≠ 31) (s : State) (q : BitVec 6) (v : Word) :
    stackFault s q r v = false := by
  have other : (r == 30 || r == 31) = false := by simpa using h
  rw [stackFault, other, Bool.and_false, Bool.false_and]

/-- The occurrence bits of AEC are not read by the stack check. -/
@[simp] theorem stackFault_noteAec (k : Nat) (s : State) (q : BitVec 6) (r : RegNo) (v : Word) :
    stackFault (noteAec k s) q r v = stackFault s q r v := rfl

theorem putReg_of_not_stackFault {s : State} {q : BitVec 6} {r : RegNo} {v : Word} (h : stackFault s q r v = false) :
    putReg q r v s = .ok () (s.setReg q r v) :=
  putReg_eq_ok.2 ⟨h, rfl⟩

theorem writeX_of_not_stackFault {s : State} {v : Word} (h : stackFault s s.rs rt v = false) :
    writeX rt v s = .next (s.setX rt v).advance := by
  rw [writeX, putX, putReg_of_not_stackFault h, Res.retire_ok, State.setX]

theorem writeX_of_stackFault {s : State} {v : Word} (h : stackFault s s.rs rt v = true) :
    writeX rt v s = .next (raise causeSTK s) := by
  rw [writeX, putX, putReg_eq_exc.2 ⟨h, rfl, rfl⟩, Res.retire_exc]

/-- A reserved encoding, by RESERVED_ENCODING (30_encoding R258). -/
theorem reserved_eq (s : State) :
    reserved s = .next (if s.cfg.reservedFault then raise causeUNIMP s else s.advance) := by
  unfold reserved reservedPart
  split <;> rfl

/-- A lanewise operation writes its result (R301). -/
theorem aluReg_sized (f : LaneFn2) (s : State) :
    aluReg (sized sz f) rt ra rb s = writeX rt (lanes2 sz f (s.x ra) (s.x rb)) s := rfl

/-- An instruction that ends as a write of x[rt] writes it, or takes the stack fault. -/
theorem writesX_of_writeX {v : State → Word} (h : ∀ s, exec i s = writeX rt (v s) s) : WritesX i rt v :=
  fun s => ⟨fun hs => (h s).trans (writeX_of_not_stackFault hs), fun hs => (h s).trans (writeX_of_stackFault hs)⟩

/-- The same for a form that exists only under a condition. -/
theorem writesXWhen_of_writeX {ok : State → Bool} {v : State → Word}
    (hok : ∀ s, ok s = true → exec i s = writeX rt (v s) s) (hno : ∀ s, ok s = false → exec i s = reserved s) :
    WritesXWhen ok i rt v := fun s =>
  ⟨fun h hs => (hok s h).trans (writeX_of_not_stackFault hs), fun h hs => (hok s h).trans (writeX_of_stackFault hs),
    fun h => (hno s h).trans (reserved_eq s)⟩

/-! ## Operations at every width, as the spec writes them -/

theorem fnAbs_eq : fnAbs = fun _ a => if a.slt 0 then -a else a := by
  funext w a
  rw [fnAbs, BitVec.ofNat_eq_ofNat, BitVec.zero_sub]

/-! ## Lanes (40_integer_alu R301) -/

section lanes

variable (f1 : LaneFn1) (f2 : LaneFn2) (f3 : LaneFn3) (a b c : Word)

/-- The sizes that work once on the whole register (R301, D51). -/
theorem not_lane_size {sz : BitVec 3} (h : bitAt sz 2 = false ∨ sz = 7) : sz ≠ 4 ∧ sz ≠ 5 ∧ sz ≠ 6 := by
  revert sz
  decide

theorem lanes1_whole (h : bitAt sz 2 = false ∨ sz = 7) : lanes1 sz f1 a = f1 64 a := by
  obtain ⟨h4, h5, h6⟩ := not_lane_size h
  rw [lanes1, if_neg h4, if_neg h5, if_neg h6]

theorem lanes2_whole (h : bitAt sz 2 = false ∨ sz = 7) : lanes2 sz f2 a b = f2 64 a b := by
  obtain ⟨h4, h5, h6⟩ := not_lane_size h
  rw [lanes2, if_neg h4, if_neg h5, if_neg h6]

theorem lanes3_whole (h : bitAt sz 2 = false ∨ sz = 7) : lanes3 sz f3 a b c = f3 64 a b c := by
  obtain ⟨h4, h5, h6⟩ := not_lane_size h
  rw [lanes3, if_neg h4, if_neg h5, if_neg h6]

/-- The low part of two values side by side. -/
theorem field_append_low {m n : Nat} (x : BitVec m) (y : BitVec n) : (field (x ++ y) 0 n : BitVec n) = y := by
  apply BitVec.eq_of_getLsbD_eq
  intro i hi
  simp [field, BitVec.getLsbD_append, hi]

/-- A field of two values side by side that lies in the high one. -/
theorem field_append_high {m n : Nat} (x : BitVec m) (y : BitVec n) (lo k : Nat) (h : n ≤ lo) :
    (field (x ++ y) lo k : BitVec k) = field x (lo - n) k := by
  apply BitVec.eq_of_getLsbD_eq
  intro i hi
  simp only [field, BitVec.getLsbD_extractLsb', BitVec.getLsbD_append, show ¬ lo + i < n by omega, if_false,
    show lo + i - n = lo - n + i by omega]

theorem field_all {n : Nat} (x : BitVec n) : (field x 0 n : BitVec n) = x := by
  simp [field]

/-! The lanes that are joined read back; the width is written as a sum so that the fields see the parts. -/

theorem lane_join8 (f : Nat → BitVec 8) (k : Nat) (h : k < 8) : field (join8 f) (8 * k) 8 = f k := by
  change field (m := 8 + 8 + 8 + 8 + 8 + 8 + 8 + 8) (f 7 ++ f 6 ++ f 5 ++ f 4 ++ f 3 ++ f 2 ++ f 1 ++ f 0) _ _ = _
  interval_cases k <;>
    simp only [field_append_low, field_append_high, field_all, Nat.reduceMul, Nat.reduceSub, Nat.reduceLeDiff]

theorem lane_join16 (f : Nat → BitVec 16) (k : Nat) (h : k < 4) : field (join16 f) (16 * k) 16 = f k := by
  change field (m := 16 + 16 + 16 + 16) (f 3 ++ f 2 ++ f 1 ++ f 0) _ _ = _
  interval_cases k <;>
    simp only [field_append_low, field_append_high, field_all, Nat.reduceMul, Nat.reduceSub, Nat.reduceLeDiff]

theorem lane_join32 (f : Nat → BitVec 32) (k : Nat) (h : k < 2) : field (join32 f) (32 * k) 32 = f k := by
  change field (m := 32 + 32) (f 1 ++ f 0) _ _ = _
  interval_cases k <;>
    simp only [field_append_low, field_append_high, field_all, Nat.reduceMul, Nat.reduceSub, Nat.reduceLeDiff]

end lanes

/-- A result is in its register once the instruction has gone on, if register and value are not the stack's. -/
theorem writeX_reads_back {s : State} {v : Word} (hrt : rt ≠ 0) (hb : s.cfg.stackBounds = none) (hw : StoreWf 0 s.xs) :
    ∃ t, writeX rt v s = .next t ∧ t.reg s.rs rt = v := by
  refine ⟨_, writeX_of_not_stackFault (stackFault_of_unbounded hb _ _ _), ?_⟩
  have written : (s.setReg s.rs rt v).reg s.rs rt = v := by
    rw [reg_setReg _ _ _ _ _ _ hw, if_neg hrt, if_pos ⟨rfl, rfl⟩]
  exact written

end results

/-- Settles O36: each lane of a join reads back, and the instructions write the lanewise result. -/
theorem lanesAreIndependent : Obligations.LanesAreIndependent := by
  refine ⟨fun f1 f2 f3 a b c => ⟨fun k hk => ?_, fun k hk => ?_, fun k hk => ?_, fun sz hsz => ?_⟩,
    fun s rt ra rb rc sz hrt hb hw => ⟨?_, ?_, ?_⟩⟩
  · simp [lanes1, lanes2, lanes3, lane_join8 _ k hk, lane]
  · simp [lanes1, lanes2, lanes3, lane_join16 _ k hk, lane]
  · simp [lanes1, lanes2, lanes3, lane_join32 _ k hk, lane]
  · exact ⟨lanes1_whole f1 a hsz, lanes2_whole f2 a b hsz, lanes3_whole f3 a b c hsz⟩
  · rw [exec_add, execAdd, aluReg_sized]
    exact writeX_reads_back hrt hb hw
  · rw [exec_or3, execOr3]
    exact writeX_reads_back hrt hb hw
  · rw [exec_abs, execAbs, fnAbs_eq]
    exact writeX_reads_back hrt hb hw

end Sys2Proof.Machine

namespace Sys2Proof.Machine

/-! ## System instructions with one effect (45_system R662 to R682) -/

/-- A cache command with a code that is none of the six is reserved (R662). -/
theorem cacheCommand_of_unlisted {cmd : BitVec 5} (h : cmd.toNat ∉ [0x02, 0x03, 0x10, 0x11, 0x12, 0x13]) (s : State) :
    cacheCommand cmd s = reserved s := by
  unfold cacheCommand
  split
  case h_7 => rfl
  all_goals
    rename_i hc
    simp [hc] at h

/-- The cache commands, each with its effect (R662). -/
theorem cacheCommand_cases (cmd : BitVec 5) (s : State) :
    (cmd.toNat ∈ [0x02, 0x12, 0x13] → cacheCommand cmd s = .next s.advance) ∧
    (cmd.toNat = 0x03 → cacheCommand cmd s = .next { s with icacheStale := [] }.advance) ∧
    (cmd.toNat = 0x10 → cacheCommand cmd s = .next { s with dcacheEnabled := false }.advance) ∧
    (cmd.toNat = 0x11 → cacheCommand cmd s = .next { s with dcacheEnabled := true }.advance) ∧
    (cmd.toNat ∉ [0x02, 0x03, 0x10, 0x11, 0x12, 0x13] → cacheCommand cmd s =
      .next (if s.cfg.reservedFault then raise causeUNIMP s else s.advance)) := by
  refine ⟨fun h => ?_, fun h => ?_, fun h => ?_, fun h => ?_, fun h => ?_⟩
  · simp only [List.mem_cons, List.not_mem_nil, or_false] at h
    rcases h with h | h | h <;> simp [cacheCommand, h]
  · simp [cacheCommand, h]
  · simp [cacheCommand, h]
  · simp [cacheCommand, h]
  · rw [cacheCommand_of_unlisted h, reserved_eq]

/-- Settles O26: each instruction by its meaning, the two cache instructions by their command. -/
theorem systemInstructionsComplete : Obligations.SystemInstructionsComplete := by
  intro s ra rb rc rn imm sc long key
  refine ⟨exec_nop s long, exec_nop16 s, exec_memdb s, exec_memsb s, exec_sync s, exec_chainoff s, exec_chainon s,
    exec_setwb s rn, exec_wtme s ra rb, fun cmd i hi => ?_⟩
  have command : exec i s = cacheCommand cmd s := by
    rcases hi with rfl | rfl
    · exact exec_cache s cmd ra imm
    · exact exec_cachex s cmd ra rc sc
  unfold IsReserved
  rw [command]
  exact cacheCommand_cases cmd s

end Sys2Proof.Machine

namespace Sys2Proof.Machine

/-! ## MOV and CHK (40_integer_alu R337, R360) -/

/-- The eight direction codes of MOV. -/
theorem direction_cases (d : BitVec 3) :
    d = 0 ∨ d = 1 ∨ d = 2 ∨ d = 3 ∨ d = 4 ∨ d = 5 ∨ d = 6 ∨ d = 7 := by
  revert d
  decide

/-- The target's set and the source's, by the direction code (R360, 10_state R61, R30). -/
theorem movSets_eq (d : BitVec 3) (q : BitVec 6) (s : State) :
    movSets d q s =
      if d = 0 then (q, s.rs) else if d = 1 then (s.rs, q) else if d = 2 then (field s.csr.rsStack 0 6, s.rs)
      else if d = 3 then (s.rs, field s.csr.rsStack 0 6) else if d = 4 then (s.fps, s.rs)
      else if d = 5 then (s.rs, s.fps) else if d = 6 then (s.fps, s.fps) else (s.rs, s.rs) := by
  rcases direction_cases d with rfl | rfl | rfl | rfl | rfl | rfl | rfl | rfl <;> rfl

/-- A check whose bounds hold goes on; any other raises CHK (R337). -/
theorem checkBounds_eq (v lo hi : Word) (s : State) :
    checkBounds v lo hi s =
      .next (if lo.toInt ≤ v.toInt ∧ v.toInt < hi.toInt then s.advance else raise causeCHK s) := by
  have bounds : (lo.sle v && v.slt hi) = decide (lo.toInt ≤ v.toInt ∧ v.toInt < hi.toInt) := by
    simp [BitVec.sle, BitVec.slt]
  rw [checkBounds, bounds]
  split <;> simp_all

/-- Settles O42: MOV by its sets, CHK by its bounds. -/
theorem moveAndBoundsCheck : Obligations.MoveAndBoundsCheck := by
  refine ⟨fun s d q rt ra hok => ?_, fun s ra rb rc imm => ?_⟩
  · intro sets
    have noFault (p : BitVec 6) (v : Word) : stackFault s p rt v = false :=
      hok.elim (fun h => stackFault_of_unbounded h p rt v) fun h => stackFault_of_not_stack h s p v
    rw [exec_mov, execMov, putReg_of_not_stackFault (noFault _ _), Res.retire_ok, movSets_eq]
  · rw [exec_chk, execChk, exec_chki, execChki, checkBounds_eq, checkBounds_eq]
    exact ⟨fun h => by rw [if_pos h], fun h => by rw [if_neg h], fun h => by rw [if_pos h], fun h => by rw [if_neg h]⟩

end Sys2Proof.Machine

namespace Sys2Proof.Machine

/-! ## Two sources and immediates: the results (40_integer_alu R302 to R335, 42_muldiv R443 to R451) -/

/-- 2^n as an integer. -/
theorem pow2i_eq (n : Nat) : pow2i n = 2 ^ n := by
  rw [pow2i, Nat.cast_pow, Nat.cast_ofNat]

theorem fnSeq_apply {w : Nat} (a b : BitVec w) : fnSeq w a b = if a = b then 1 else 0 := by
  simp [fnSeq, flag]

theorem fnSeq_eq : fnSeq = fun _ a b => if a = b then 1 else 0 := by
  funext w a b
  exact fnSeq_apply a b

theorem fnMulHi_eq : fnMulHi = fun w a b => BitVec.ofInt w (a.toInt * b.toInt / 2 ^ w) := by
  funext w a b
  rw [fnMulHi, pow2i_eq]

theorem fnMulsuHi_eq : fnMulsuHi = fun w a b => BitVec.ofInt w (a.toInt * (b.toNat : Int) / 2 ^ w) := by
  funext w a b
  rw [fnMulsuHi, pow2i_eq]

theorem fnFxmul_eq : fnFxmul = fun w a b => BitVec.ofInt w (a.toInt * b.toInt / 2 ^ (w / 2)) := by
  funext w a b
  rw [fnFxmul, pow2i_eq]

/-- The low word of an unsigned product is the product of the words. -/
theorem fnMuluLo_apply {w : Nat} (a b : BitVec w) : fnMuluLo w a b = a * b := by
  apply BitVec.eq_of_toNat_eq
  rw [fnMuluLo, BitVec.toNat_ofNat, BitVec.toNat_mul]

/-- Clearing the low 30 bits (R309). -/
theorem setField_low30_zero (w : Word) : setField w 0 (0 : BitVec 30) = w &&& ~~~0x3FFFFFFF := by
  have mask : fieldMask 64 0 30 = 0x3FFFFFFF := by decide
  have zero : (0 : BitVec 30).setWidth 64 <<< 0 = 0 := by decide
  rw [setField, mask, zero]
  exact BitVec.or_zero

section results

variable {i : Instr} {rt ra rb : RegNo} {sz : BitVec 3} {imm : Imm}

/-- An instruction that applies a function lanewise to two registers, which is f as the spec writes it. -/
theorem writesX_of_sized {f g : LaneFn2} (h : ∀ s, exec i s = aluReg (sized sz g) rt ra rb s) (hf : g = f) :
    WritesX i rt fun s => lanes2 sz f (s.x ra) (s.x rb) :=
  hf ▸ writesX_of_writeX h

/-- An instruction that applies a function once to a register and the immediate. -/
theorem writesX_of_aluImm {g : LaneFn2} {v : State → Word} (h : ∀ s, exec i s = aluImm (sized 7 g) rt ra imm s)
    (hv : ∀ s, g 64 (s.x ra) (immS imm) = v s) : WritesX i rt v :=
  writesX_of_writeX fun s => by
    rw [h s, ← hv s, ← lanes2_whole g _ _ (.inr rfl)]
    rfl

/-- An instruction that applies a function once to two registers. -/
theorem writesX_of_sized_whole {g : LaneFn2} {v : State → Word} (h : ∀ s, exec i s = aluReg (sized 7 g) rt ra rb s)
    (hv : ∀ s, g 64 (s.x ra) (s.x rb) = v s) : WritesX i rt v :=
  writesX_of_writeX fun s => by
    rw [h s, ← hv s, ← lanes2_whole g _ _ (.inr rfl), aluReg_sized]

end results

/-- Settles O35: each instruction by the function it applies, and that function as the spec writes it. -/
theorem integerResults : Obligations.IntegerResults := by
  intro rt ra rb imm u sz
  refine ⟨
    -- immediate forms
    writesX_of_aluImm (exec_addi · rt ra imm) fun _ => rfl, writesX_of_aluImm (exec_andi · rt ra imm) fun _ => rfl,
    writesX_of_aluImm (exec_ori · rt ra imm) fun _ => rfl, writesX_of_aluImm (exec_xori · rt ra imm) fun _ => rfl,
    writesX_of_aluImm (exec_slti · rt ra imm) fun _ => rfl, writesX_of_aluImm (exec_sltui · rt ra imm) fun _ => rfl,
    writesX_of_aluImm (exec_seqi · rt ra imm) fun _ => fnSeq_apply _ _,
    writesX_of_aluImm (exec_sgti · rt ra imm) fun _ => rfl, writesX_of_aluImm (exec_sgtui · rt ra imm) fun _ => rfl,
    -- arithmetic, logic, compares
    writesX_of_sized (exec_add · rt ra rb sz) rfl, writesX_of_sized (exec_sub · rt ra rb sz) rfl,
    writesX_of_sized (exec_and · rt ra rb sz) rfl, writesX_of_sized (exec_or · rt ra rb sz) rfl,
    writesX_of_sized (exec_xor · rt ra rb sz) rfl, writesX_of_sized (exec_slt · rt ra rb sz) rfl,
    writesX_of_sized (exec_sltu · rt ra rb sz) rfl, writesX_of_sized (exec_sle · rt ra rb sz) rfl,
    writesX_of_sized (exec_sleu · rt ra rb sz) rfl, writesX_of_sized (exec_seq · rt ra rb sz) fnSeq_eq,
    writesX_of_sized (exec_min · rt ra rb sz) rfl, writesX_of_sized (exec_max · rt ra rb sz) rfl,
    writesX_of_sized_whole (exec_nand · rt ra rb) fun _ => rfl,
    writesX_of_sized_whole (exec_nor · rt ra rb) fun _ => rfl,
    writesX_of_sized_whole (exec_xnor · rt ra rb) fun _ => rfl,
    -- products
    writesX_of_sized (exec_mulu · rt ra rb sz) rfl, writesX_of_sized (exec_mulsu · rt ra rb sz) rfl,
    writesX_of_sized (exec_mulh · rt ra rb sz) fnMulHi_eq, writesX_of_sized (exec_muluh · rt ra rb sz) rfl,
    writesX_of_sized (exec_mulsuh · rt ra rb sz) fnMulsuHi_eq, writesX_of_sized (exec_fxmul · rt ra rb sz) fnFxmul_eq,
    writesX_of_writeX (exec_mulf · rt ra rb sz), writesX_of_writeX (exec_mulfi · rt ra imm),
    writesX_of_aluImm (exec_mului · rt ra imm) fun _ => fnMuluLo_apply _ _,
    -- constants
    writesX_of_writeX (exec_ldi · rt imm), writesX_of_writeX (exec_lui · rt u), writesX_of_writeX fun s => ?_⟩
  rw [exec_auipc, execAuipc, setField_low30_zero]

end Sys2Proof.Machine

namespace Sys2Proof.Machine

/-! ## Three sources, one source (40_integer_alu R304 to R352) -/

/-- Settles O37: each instruction ends as a write of the value its meaning states. -/
theorem threeSourceAndSelectResults : Obligations.ThreeSourceAndSelectResults := by
  intro rt ra rb rc sz imm
  exact ⟨writesX_of_writeX (exec_add3 · rt ra rb rc), writesX_of_writeX (exec_or3 · rt ra rb rc sz),
    writesX_of_writeX (exec_min3 · rt ra rb rc sz), writesX_of_writeX (exec_max3 · rt ra rb rc sz),
    writesX_of_writeX (exec_maj · rt ra rb rc), writesX_of_writeX (exec_mux · rt ra rb rc),
    writesX_of_writeX (exec_cmovez · rt ra rb rc), writesX_of_writeX (exec_cmovnz · rt ra rb rc),
    writesX_of_writeX (exec_cmovnzi · rt ra rb imm), writesX_of_writeX (exec_caddnz · rt ra rb rc),
    writesX_of_writeX (exec_caddnzi · rt ra rb imm)⟩

theorem fnNot_eq : fnNot = fun _ a => if a = 0 then 1 else 0 := by
  funext w a
  simp [fnNot, flag]

theorem fnRedor_eq : fnRedor = fun _ a => if a = 0 then 0 else 1 := by
  funext w a
  by_cases h : a = 0 <;> simp [fnRedor, flag, h]

theorem fnNeg_eq : fnNeg = fun _ a => -a := by
  funext w a
  exact BitVec.zero_sub a

/-- The leading count n: the n bits below the width are alike, and the next one is not (R351). -/
theorem leading_spec (b : Bool) (a : Word) (w : Nat) :
    leading b a w ≤ w ∧ (∀ k, w - leading b a w ≤ k → k < w → bitAt a k = b) ∧
      (leading b a w < w → bitAt a (w - 1 - leading b a w) = !b) := by
  induction w with
  | zero => exact ⟨Nat.le_refl 0, fun k _ hk => absurd hk (Nat.not_lt_zero k), fun h => absurd h (Nat.lt_irrefl 0)⟩
  | succ n ih =>
    obtain ⟨hle, halike, hnext⟩ := ih
    rw [leading]
    by_cases top : bitAt a n = b
    · rw [if_pos top]
      refine ⟨by omega, fun k hlo hhi => ?_, fun h => ?_⟩
      · rcases Nat.lt_or_eq_of_le (Nat.le_of_lt_succ hhi) with below | rfl
        · exact halike k (by omega) below
        · exact top
      · rw [show n + 1 - 1 - (leading b a n + 1) = n - 1 - leading b a n by omega]
        exact hnext (by omega)
    · rw [if_neg top]
      exact ⟨Nat.zero_le _, fun k hlo hhi => absurd hhi (by omega), fun _ => Bool.eq_not_of_ne top⟩

/-- The population count is the number of the bits that are set (R351). -/
theorem ones_eq_length (a : Word) (w : Nat) : ones a w = ((List.range w).filter fun k => bitAt a k).length := by
  induction w with
  | zero => rfl
  | succ n ih =>
    rw [ones, ih, List.range_succ, List.filter_append, List.length_append]
    cases h : bitAt a n <;> simp [h]

/-- A count instruction: it exists for the size codes 0 to 3 (R351). -/
theorem writesXWhen_of_countOp {i : Instr} {f : Word → Nat → Nat} {rt ra : RegNo} {sz : BitVec 3}
    (h : ∀ s, exec i s = countOp f rt ra sz s) :
    WritesXWhen (fun _ => !bitAt sz 2) i rt fun s => BitVec.ofNat 64 (f (s.x ra) (sizeBits sz)) := by
  refine writesXWhen_of_writeX (fun s hok => ?_) fun s hno => ?_
  · have word : bitAt sz 2 = false := by simpa using hok
    rw [h, countOp, word, if_neg Bool.false_ne_true]
  · have lane : bitAt sz 2 = true := by simpa using hno
    rw [h, countOp, lane, if_pos rfl]

/-- Settles O38: the counts by their recursion, the lanewise operations as the spec writes them. -/
theorem oneSourceResults : Obligations.OneSourceResults := by
  intro rt ra sz w
  refine ⟨⟨fun s => leading false (s.x ra) w, fun s => leading true (s.x ra) w, fun s => ones (s.x ra) w,
      writesXWhen_of_countOp (exec_cntlz · rt ra sz), writesXWhen_of_countOp (exec_cntlo · rt ra sz),
      writesXWhen_of_countOp (exec_cntpop · rt ra sz),
      fun s => ⟨leading_spec false (s.x ra) w, leading_spec true (s.x ra) w, ones_eq_length (s.x ra) w⟩⟩,
    writesX_of_writeX (exec_com · rt ra), ?_, ?_, ?_, ?_,
    writesX_of_writeX (exec_zxb · rt ra), writesX_of_writeX (exec_zxc · rt ra), writesX_of_writeX (exec_zxh · rt ra),
    writesX_of_writeX (exec_sxb · rt ra), writesX_of_writeX (exec_sxc · rt ra), writesX_of_writeX (exec_sxh · rt ra)⟩
  · exact fnAbs_eq ▸ writesX_of_writeX (exec_abs · rt ra sz)
  · exact fnNot_eq ▸ writesX_of_writeX (exec_not · rt ra sz)
  · exact fnRedor_eq ▸ writesX_of_writeX (exec_redor · rt ra sz)
  · exact fnNeg_eq ▸ writesX_of_writeX (exec_neg · rt ra sz)

end Sys2Proof.Machine

namespace Sys2Proof.Machine

/-! ## Arithmetic conditions: overflow and division by zero (10_state R47, 40_integer_alu R305, 42_muldiv R441, R455) -/

section results

variable {i : Instr} {rt ra rb : RegNo} {sz : BitVec 3} {imm : Imm} {k e : Nat} {c : BitVec 8}

/-- A value whose condition does not hold is delivered. -/
theorem withAec_of_not (v : Word) (s : State) : withAec k e c false v s = .ok v s := rfl

/-- A condition that holds and is not enabled is noted. -/
theorem withAec_of_disabled {s : State} (h : bitAt s.csr.aec e = false) (v : Word) :
    withAec k e c true v s = .ok v (noteAec k s) := by
  simp [withAec, checkAec, h]

/-- A condition that holds and is enabled is noted and raised (60_exceptions R989). -/
theorem withAec_of_enabled {s : State} (h : bitAt s.csr.aec e = true) (v : Word) :
    withAec k e c true v s = .exc c (noteAec k s) := by
  simp [withAec, checkAec, h]

/-- An instruction that checks a condition and then writes its value. -/
theorem writesXNoting_of_withAec {happens : State → Bool} {v : State → Word}
    (h : ∀ s, exec i s = finishX rt (withAec k e c (happens s) (v s) s)) : WritesXNoting k e c i rt happens v := by
  intro s
  refine ⟨fun hn hs => ?_, fun hn hs => ?_, fun hy hd hs => ?_, fun hy hd hs => ?_, fun hy he => ?_⟩
  · rw [h, hn, withAec_of_not]
    exact writeX_of_not_stackFault hs
  · rw [h, hn, withAec_of_not]
    exact writeX_of_stackFault hs
  · rw [h, hy, withAec_of_disabled hd]
    exact writeX_of_not_stackFault hs
  · rw [h, hy, withAec_of_disabled hd]
    exact writeX_of_stackFault hs
  · rw [h, hy, withAec_of_enabled he]
    rfl

/-- The same where the model writes condition and value in its own way. -/
theorem writesXNoting_of_eq {happens happens' : State → Bool} {v v' : State → Word}
    (h : ∀ s, exec i s = finishX rt (withAec k e c (happens' s) (v' s) s)) (hh : ∀ s, happens' s = happens s)
    (hv : ∀ s, v' s = v s) : WritesXNoting k e c i rt happens v :=
  writesXNoting_of_withAec fun s => by rw [h s, hh s, hv s]

end results

/-- A number does not fit w bits, signed. -/
abbrev doesNotFit (w : Nat) (n : Int) : Bool := decide (n < -2 ^ (w - 1)) || decide (2 ^ (w - 1) ≤ n)

/-- The top bit is the sign. -/
theorem bitAt_63 (a : Word) : bitAt a 63 = a.msb := by
  rw [bitAt_eq_getLsbD, BitVec.msb_eq_getLsbD_last]

/-- Signed addition overflows when the exact sum does not fit (R305). -/
theorem addOverflow_eq (a b : Word) : addOverflow a b = doesNotFit 64 (a.toInt + b.toInt) := by
  rw [addOverflow, bitAt_63, bitAt_63, bitAt_63, doesNotFit]
  exact (BitVec.saddOverflow_eq a b).symm.trans (Bool.or_comm _ _)

/-- Signed subtraction overflows when the exact difference does not fit (R307). -/
theorem subOverflow_eq (a b : Word) : subOverflow a b = doesNotFit 64 (a.toInt - b.toInt) := by
  have signs (x y z : Bool) : (x != y && z != x) = (!x && y && z || x && !y && !z) := by
    revert x y z
    decide
  rw [subOverflow, bitAt_63, bitAt_63, bitAt_63, signs, doesNotFit]
  exact (BitVec.ssubOverflow_eq a b).symm.trans (Bool.or_comm _ _)

/-- Signed multiplication overflows when the exact product does not fit (R441). -/
theorem mulOverflow_eq : mulOverflow = fun w a b => doesNotFit w (a.toInt * b.toInt) := by
  funext w a b
  simp only [mulOverflow, doesNotFit, Nat.cast_pow, Nat.cast_ofNat]
  congr 2
  exact propext (by omega)

theorem fnMulLo_apply {w : Nat} (a b : BitVec w) : fnMulLo w a b = a * b := by
  rw [fnMulLo, BitVec.ofInt_mul, BitVec.ofInt_toInt, BitVec.ofInt_toInt]

theorem fnMulLo_eq : fnMulLo = fun _ a b => a * b := by
  funext w a b
  exact fnMulLo_apply a b

theorem anyLane_whole {sz : BitVec 3} (h : bitAt sz 2 = false ∨ sz = 7) (p : (w : Nat) → BitVec w → BitVec w → Bool)
    (a b : Word) : anyLane sz p a b = p 64 a b := by
  obtain ⟨h4, h5, h6⟩ := not_lane_size h
  rw [anyLane, if_neg h4, if_neg h5, if_neg h6]

/-- The quotient of two unsigned numbers is one number, whichever integers it is computed with. -/
theorem fnDivU_eq : fnDivU = fun d w a b =>
    if b = 0 then quotientByZero d w a else BitVec.ofInt w ((a.toNat / b.toNat : Nat) : Int) := by
  funext d w a b
  rw [fnDivU, BitVec.ofInt_natCast]

theorem fnModU_eq : fnModU = fun d w a b =>
    if b = 0 then remainderByZero d w a else BitVec.ofInt w ((a.toNat % b.toNat : Nat) : Int) := by
  funext d w a b
  rw [fnModU, BitVec.ofInt_natCast]

section divisions

variable {i : Instr} {rt ra rb : RegNo} {sz : BitVec 3} {imm : Imm} (f : DivZero → LaneFn2)

/-- A division of two registers that notes a zero divisor in any lane (R455). -/
theorem writesXNoting_of_divChecked (h : ∀ s, exec i s = aluReg (divChecked sz f) rt ra rb s) :
    WritesXNoting 36 4 causeDBZ i rt (fun s => anyLane sz (fun _ _ b => b == 0) (s.x ra) (s.x rb))
      fun s => lanes2 sz (f s.cfg.divByZero) (s.x ra) (s.x rb) :=
  writesXNoting_of_withAec h

/-- A division by the immediate that notes a zero divisor. -/
theorem writesXNoting_of_divChecked_imm (h : ∀ s, exec i s = aluImm (divChecked 7 f) rt ra imm s) :
    WritesXNoting 36 4 causeDBZ i rt (fun _ => immS imm == 0)
      fun s => f s.cfg.divByZero 64 (s.x ra) (immS imm) :=
  writesXNoting_of_eq h (fun _ => anyLane_whole (.inr rfl) _ _ _) fun _ => lanes2_whole _ _ _ (.inr rfl)

/-- A division that notes nothing: DIVU, DIVUI, MODU (R455). -/
theorem writesX_of_divQuiet (h : ∀ s, exec i s = aluReg (divQuiet sz f) rt ra rb s) :
    WritesX i rt fun s => lanes2 sz (f s.cfg.divByZero) (s.x ra) (s.x rb) :=
  writesX_of_writeX h

theorem writesX_of_divQuiet_imm (h : ∀ s, exec i s = aluImm (divQuiet 7 f) rt ra imm s) :
    WritesX i rt fun s => f s.cfg.divByZero 64 (s.x ra) (immS imm) :=
  writesX_of_writeX fun s => by
    rw [h s, ← lanes2_whole (f s.cfg.divByZero) _ _ (.inr rfl)]
    rfl

end divisions

/-- Settles O39: each instruction by the condition it checks, and that condition as the exact result states it. -/
theorem arithmeticConditionsAreNotedAndRaised : Obligations.ArithmeticConditionsAreNotedAndRaised := by
  intro rt ra rb imm sz long tooBig zero quo rem
  refine ⟨?_, ?_, ?_, ?_, writesXNoting_of_divChecked fnDivS (exec_div · rt ra rb sz),
    writesXNoting_of_divChecked fnDivSU (exec_divsu · rt ra rb sz),
    writesXNoting_of_divChecked_imm fnDivS (exec_divi · rt ra imm),
    writesXNoting_of_divChecked fnModS (exec_mod · rt ra rb sz),
    writesXNoting_of_divChecked fnModSU (exec_modsu · rt ra rb sz),
    writesXNoting_of_divChecked_imm fnModS (exec_modi · rt ra imm), ?_, ?_, ?_⟩
  · exact writesXNoting_of_eq (exec_addv · rt ra rb long) (fun s => addOverflow_eq _ _) fun s => rfl
  · exact writesXNoting_of_eq (exec_subv · rt ra rb) (fun s => subOverflow_eq _ _) fun s => rfl
  · exact writesXNoting_of_eq (exec_mul · rt ra rb sz)
      (fun s => congrArg (anyLane sz · (s.x ra) (s.x rb)) mulOverflow_eq)
      fun s => congrArg (lanes2 sz · (s.x ra) (s.x rb)) fnMulLo_eq
  · exact writesXNoting_of_eq (exec_muli · rt ra imm)
      (fun s => (anyLane_whole (.inr rfl) _ _ _).trans (congrFun₃ mulOverflow_eq _ _ _))
      fun s => (lanes2_whole _ _ _ (.inr rfl)).trans (fnMulLo_apply _ _)
  · have divu := writesX_of_divQuiet fnDivU (exec_divu · rt ra rb sz)
    rwa [fnDivU_eq] at divu
  · have divui := writesX_of_divQuiet_imm fnDivU (exec_divui · rt ra imm)
    rwa [fnDivU_eq] at divui
  · have modu := writesX_of_divQuiet fnModU (exec_modu · rt ra rb sz)
    rwa [fnModU_eq] at modu

end Sys2Proof.Machine

namespace Sys2Proof.Machine

/-! ## BCD (40_integer_alu R361 to R363) -/

section bcd

variable {a b : Word}

/-- A BCD operation on decimal nibbles answers the digits of its result. -/
theorem bcdOp_of_decimal {n : Nat} {f : Nat → Nat → Nat} (ha1 : (field a 4 4 : BitVec 4).toNat ≤ 9)
    (ha0 : (field a 0 4 : BitVec 4).toNat ≤ 9) (hb1 : (field b 4 4 : BitVec 4).toNat ≤ 9)
    (hb0 : (field b 0 4 : BitVec 4).toNat ≤ 9) (s : State) :
    bcdOp n f a b s = .ok (BitVec.ofNat 64 (bcdDigits n
      (f (10 * (field a 4 4 : BitVec 4).toNat + (field a 0 4 : BitVec 4).toNat)
        (10 * (field b 4 4 : BitVec 4).toNat + (field b 0 4 : BitVec 4).toNat)))) s := by
  simp [bcdOp, bcdValue, ha1, ha0, hb1, hb0]

/-- A BCD operation answers some value, and changes nothing. -/
theorem bcdOp_answers (n : Nat) (f : Nat → Nat → Nat) (s : State) : ∃ v, bcdOp n f a b s = .ok v s := by
  unfold bcdOp
  split
  · exact ⟨_, rfl⟩
  · exact ⟨_, rfl⟩

theorem bcdDigits_two (n : Nat) : bcdDigits 2 n = n % 10 + 16 * (n / 10 % 10) := by
  simp only [bcdDigits]
  omega

theorem bcdDigits_four (n : Nat) :
    bcdDigits 4 n = n % 10 + 16 * (n / 10 % 10) + 256 * (n / 100 % 10) + 4096 * (n / 1000 % 10) := by
  simp only [bcdDigits]
  omega

end bcd

/-- A two-source function that answers a value without changing anything writes it. -/
theorem aluReg_of_ok {f : AluFn} {rt ra rb : RegNo} {s : State} {v : Word} (h : f (s.x ra) (s.x rb) s = .ok v s) :
    aluReg f rt ra rb s = writeX rt v s := by
  rw [aluReg, h]
  rfl

/-- Without stack bounds a BCD instruction completes with some value, whatever its nibbles (R361). -/
theorem writes_of_bcdOp {i : Instr} {n : Nat} {f : Nat → Nat → Nat} {rt ra rb : RegNo} {s : State}
    (hb : s.cfg.stackBounds = none) (h : exec i s = aluReg (bcdOp n f) rt ra rb s) :
    ∃ v, exec i s = .next (s.setX rt v).advance := by
  obtain ⟨v, hv⟩ := bcdOp_answers n f s
  exact ⟨v, by rw [h, aluReg_of_ok hv, writeX_of_not_stackFault (stackFault_of_unbounded hb _ _ _)]⟩

/-! ## Bit matrices (40_integer_alu R346) -/

theorem bitsNat_succ (f : Nat → Bool) (n : Nat) : bitsNat f (n + 1) = 2 ^ n * (f n).toNat + bitsNat f n := by
  rw [bitsNat, Nat.add_comm]
  cases f n <;> simp

theorem bitsNat_lt (f : Nat → Bool) (n : Nat) : bitsNat f n < 2 ^ n := by
  induction n with
  | zero => exact Nat.one_pos
  | succ n ih =>
    rw [bitsNat_succ, Nat.pow_succ]
    cases f n <;> simp <;> omega

/-- The number of bits that are given has these bits. -/
theorem testBit_bitsNat (f : Nat → Bool) (n k : Nat) : (bitsNat f n).testBit k = (decide (k < n) && f k) := by
  induction n with
  | zero => simp [bitsNat]
  | succ n ih =>
    rw [bitsNat_succ, Nat.testBit_two_pow_mul_add _ (bitsNat_lt f n), ih]
    rcases Nat.lt_trichotomy k n with below | rfl | above
    · simp [below, Nat.lt_succ_of_lt below]
    · cases f k <;> simp
    · have outside : ¬ k < n + 1 := by omega
      rw [if_neg (by omega), Nat.testBit_lt_two_pow, decide_eq_false outside, Bool.false_and]
      calc (f n).toNat < 2 ^ 1 := Bool.toNat_lt _
        _ ≤ 2 ^ (k - n) := Nat.pow_le_pow_right Nat.two_pos (by omega)

theorem bitAt_wordOfBits (f : Nat → Bool) {k : Nat} (h : k < 64) : bitAt (wordOfBits f) k = f k := by
  rw [bitAt_eq_getLsbD, wordOfBits, BitVec.getLsbD_ofNat, testBit_bitsNat]
  simp [h]

theorem foldl_or (p : Nat → Bool) (l : List Nat) (t : Bool) :
    l.foldl (fun t k => t || p k) t = (t || (l.map p).any id) := by
  induction l generalizing t with
  | nil => simp
  | cons k l ih => simp [ih, Bool.or_assoc]

theorem foldl_xor (p : Nat → Bool) (l : List Nat) (t : Bool) :
    l.foldl (fun t k => xor t (p k)) t = xor t (decide (((l.map p).filter id).length % 2 = 1)) := by
  induction l generalizing t with
  | nil => simp
  | cons k l ih =>
    rw [List.foldl_cons, ih, List.map_cons]
    cases h : p k
    · simp
    · have flips (n : Nat) : decide ((n + 1) % 2 = 1) = !decide (n % 2 = 1) := by
        rw [← decide_not, decide_eq_decide]
        omega
      simp [flips]

/-- A product's element: the exclusive or of the terms is their number's parity, the or is their disjunction. -/
theorem matProd_eq (ex : Bool) (a b : Word) (i j : Nat) :
    matProd ex a b i j =
      if ex then decide ((((List.range 8).map fun k => matBit a i k && matBit b k j).filter id).length % 2 = 1)
      else ((List.range 8).map fun k => matBit a i k && matBit b k j).any id := by
  cases ex
  · exact (foldl_or _ _ _).trans (Bool.false_or _)
  · exact (foldl_xor _ _ _).trans (Bool.false_xor _)

/-- The word of a bit matrix product, transposed or not (R346). -/
def bmmWord (ex tr : Bool) (a b : Word) : Word :=
  wordOfBits fun n =>
    if tr then matProd ex a b ((63 - n) % 8) ((63 - n) / 8) else matProd ex a b ((63 - n) / 8) ((63 - n) % 8)

theorem fnBmm_eq (ex tr : Bool) : fnBmm ex tr = pureFn (bmmWord ex tr) := rfl

/-- The elements of the product's word are those of the product, transposed or not. -/
theorem matBit_bmmWord (ex tr : Bool) (a b : Word) {i j : Nat} (hi : i < 8) (hj : j < 8) :
    matBit (bmmWord ex tr a b) i j = if tr then matProd ex a b j i else matProd ex a b i j := by
  have place : 63 - (63 - (8 * i + j)) = 8 * i + j := by omega
  have row : (8 * i + j) / 8 = i := by omega
  have column : (8 * i + j) % 8 = j := by omega
  rw [matBit, bmmWord, bitAt_wordOfBits _ (by omega), place, row, column]

/-- A bit matrix product's result, by its elements (R346). -/
theorem bmmWord_spec (ex : Bool) (a b : Word) {i j : Nat} (hi : i < 8) (hj : j < 8) :
    (matBit (bmmWord ex false a b) i j =
      if ex then decide ((((List.range 8).map fun k => matBit a i k && matBit b k j).filter id).length % 2 = 1)
      else ((List.range 8).map fun k => matBit a i k && matBit b k j).any id) ∧
    matBit (bmmWord ex true a b) j i = matBit (bmmWord ex false a b) i j := by
  rw [matBit_bmmWord ex false a b hi hj, matBit_bmmWord ex true a b hj hi, ← matProd_eq]
  exact ⟨rfl, rfl⟩

/-! ## RTOP: the words it takes (40_integer_alu R365) -/

section guards

variable (j : Word)

/-- A 32-bit register-register word with a function code (30_encoding R244). -/
def isRegister (f6 : BitVec 6) : Bool := field j 0 8 == (0x02 : BitVec 8) && field j 26 6 == f6

/-- Such a word with a second function code, of BCD and of the shifts (30_encoding R248, R254). -/
def isRegister3 (f6 : BitVec 6) (f3 : BitVec 3) : Bool := isRegister j f6 && field j 23 3 == f3

/-- A bit matrix word (40_integer_alu R346). -/
def isMatrix (f2 : BitVec 2) : Bool := isRegister j 0x03 && field j 23 2 == f2

/-- A 48-bit register-register word with a function code (30_encoding R246). -/
def isLong (f6 : BitVec 6) : Bool := field j 0 8 == (0x42 : BitVec 8) && field j 42 6 == f6

/-- A 32-bit or 48-bit word with a major opcode (30_encoding R243). -/
def isImmediate (op : BitVec 6) : Bool := field j 7 1 == (0 : BitVec 1) && field j 0 6 == op

theorem toNat_field (lo n : Nat) : (field j lo n : BitVec n).toNat = j.toNat / 2 ^ lo % 2 ^ n := by
  rw [field, BitVec.extractLsb'_toNat, Nat.shiftRight_eq_div_pow]

/-- The first byte is the opcode and L2. -/
theorem toNat_firstByte :
    (field j 0 8 : BitVec 8).toNat = (field j 0 6 : BitVec 6).toNat + 64 * (field j 6 2 : BitVec 2).toNat := by
  simp only [toNat_field]
  omega

/-- Bit 7 is the high bit of L2. -/
theorem toNat_l2_div : (field j 6 2 : BitVec 2).toNat / 2 = (field j 7 1 : BitVec 1).toNat := by
  simp only [toNat_field]
  omega

/-- Fn2 of a bit matrix word is the low part of bits 25:23. -/
theorem toNat_matrixCode : (field j 23 2 : BitVec 2).toNat = (field j 23 3 : BitVec 3).toNat % 4 := by
  simp only [toNat_field]
  omega

/-- The function of a word, by its first byte (R365). -/
theorem rtopFn_eq (sz : BitVec 3) : rtopFn j sz =
    if field j 0 8 = (0x02 : BitVec 8) then rtopRR (field j 26 6 : BitVec 6).toNat (field j 23 3 : BitVec 3).toNat sz
    else if field j 0 8 = (0x42 : BitVec 8) then rtopLong (field j 42 6 : BitVec 6).toNat
    else if field j 7 1 = (0 : BitVec 1) then rtopImm (field j 0 6 : BitVec 6).toNat sz
    else none := by
  have byte := toNat_firstByte j
  have high := toNat_l2_div j
  have hl := (field j 6 2 : BitVec 2).isLt
  have hop := (field j 0 6 : BitVec 6).isLt
  have register : BitVec.toNat (2 : BitVec 8) = 2 := rfl
  have long : BitVec.toNat (0x42 : BitVec 8) = 0x42 := rfl
  have zero : BitVec.toNat (0 : BitVec 1) = 0 := rfl
  simp only [rtopFn, BitVec.toNat_eq, byte, ← high, register, long, zero]
  generalize (field j 6 2 : BitVec 2).toNat = l2 at hl
  generalize (field j 0 6 : BitVec 6).toNat = op at hop
  match l2, hl with
  | 0, _ =>
    change (if op = 2 then _ else _) = _
    rw [Nat.mul_zero, Nat.add_zero, if_neg (show ¬ op = 0x42 by omega), Nat.zero_div, if_pos (rfl : 0 = 0)]
  | 1, _ =>
    change (if op = 2 then _ else _) = _
    by_cases h : op = 2
    · rw [if_pos h, if_neg (by omega), if_pos (by omega)]
    · rw [if_neg h, if_neg (by omega), if_neg (by omega), if_pos rfl]
  | l2 + 2, hl =>
    change none = _
    rw [if_neg (by omega), if_neg (by omega), if_neg (by omega)]

/-- A guard of equal fields, as an equation. -/
theorem and_beq_eq_true {m n : Nat} {a b : BitVec m} {x y : BitVec n} (h : (a == b && x == y) = true) :
    a = b ∧ x = y := by
  simpa using h

end guards

/-! ### The words outside the table -/

/-- The function codes of the register-register words that have one function. -/
def registerCodes : List (BitVec 6) :=
  [0x02, 0x04, 0x05, 0x06, 0x07, 0x08, 0x09, 0x0A, 0x0B, 0x0C, 0x0D, 0x0E, 0x14, 0x15, 0x16, 0x1E, 0x24, 0x25, 0x26,
    0x28, 0x29, 0x2A, 0x2C, 0x2D, 0x38, 0x39, 0x3A, 0x3B, 0x3C, 0x3D, 0x3E]

/-- The second function codes of BCD and of the shifts by a register. -/
def bcdCodes : List (BitVec 3) := [0, 1, 2]

def shiftCodes : List (BitVec 3) := [0, 1, 2, 3, 4, 5]

/-- The function codes of the bit matrix words: all there are. -/
def matrixCodes : List (BitVec 2) := [0, 1, 2, 3]

theorem mem_matrixCodes (f2 : BitVec 2) : f2 ∈ matrixCodes := by
  revert f2
  decide

/-- The function codes of the 48-bit words. -/
def longCodes : List (BitVec 6) := [0x02, 0x0B]

/-- The opcodes of the immediate forms. -/
def immediateCodes : List (BitVec 6) :=
  [0x04, 0x06, 0x07, 0x08, 0x09, 0x0A, 0x0B, 0x1C, 0x2A, 0x2C, 0x2E, 0x38, 0x3A, 0x3C, 0x3E]

section outside

variable {f6 f3 op : Nat} {sz : BitVec 3}

theorem rtopBcd_eq_none (h : f3 ∉ bcdCodes.map BitVec.toNat) : rtopBcd f3 = none := by
  unfold rtopBcd
  split
  case h_4 => rfl
  all_goals exact absurd (by decide) h

theorem rtopShift_eq_none (h : f3 ∉ shiftCodes.map BitVec.toNat) : rtopShift f3 = none := by
  unfold rtopShift
  split
  case h_7 => rfl
  all_goals exact absurd (by decide) h

theorem rtopRR_eq_none (plain : f6 ∉ registerCodes.map BitVec.toNat) (bcd : f6 = 0x00 → f3 ∉ bcdCodes.map BitVec.toNat)
    (matrix : f6 ≠ 0x03) (shift : f6 = 0x2F → f3 ∉ shiftCodes.map BitVec.toNat) : rtopRR f6 f3 sz = none := by
  unfold rtopRR
  split
  case h_1 => exact rtopBcd_eq_none (bcd rfl)
  case h_3 => exact absurd rfl matrix
  case h_27 => exact rtopShift_eq_none (shift rfl)
  case h_35 => rfl
  all_goals exact absurd (by decide) plain

theorem rtopImm_eq_none (h : op ∉ immediateCodes.map BitVec.toNat) : rtopImm op sz = none := by
  unfold rtopImm
  split
  case h_16 => rfl
  all_goals exact absurd (by decide) h

theorem rtopLong_eq_none (h : f6 ∉ longCodes.map BitVec.toNat) : rtopLong f6 = none := by
  unfold rtopLong
  split
  case h_3 => rfl
  all_goals exact absurd (by decide) h

end outside

/-! ### The rows -/

/-- A row of the table of words: RTOP does on such a word what the instruction does. -/
abbrev RtopRow (s : State) (rt ra rb rc : RegNo) (sz : BitVec 3) (p : Bool × Instr) : Prop :=
  p.1 = true → exec (.rtop rt ra rb rc sz) s = exec p.2 s

section rows

variable {s : State} {rt ra rb rc : RegNo} {sz : BitVec 3} {f : AluFn} {i : Instr}

theorem rtopRow_of_fn {g : Bool} (hf : g = true → rtopFn (s.x rc) sz = some f)
    (hi : exec i s = aluReg f rt ra rb s) : RtopRow s rt ra rb rc sz (g, i) := fun h => by
  rw [exec_rtop, execRtop, hf h]
  exact hi.symm

/-- A register-register word whose function code alone says the function. -/
theorem rtopRow_of_register {f6 : BitVec 6}
    (hf : rtopRR f6.toNat (field (s.x rc) 23 3 : BitVec 3).toNat sz = some f)
    (hi : exec i s = aluReg f rt ra rb s) : RtopRow s rt ra rb rc sz (isRegister (s.x rc) f6, i) :=
  rtopRow_of_fn (fun h => by
    obtain ⟨byte, code⟩ := and_beq_eq_true h
    rw [rtopFn_eq, if_pos byte, code, hf]) hi

/-- A register-register word with a second function code. -/
theorem rtopRow_of_register3 {f6 : BitVec 6} {f3 : BitVec 3} (hf : rtopRR f6.toNat f3.toNat sz = some f)
    (hi : exec i s = aluReg f rt ra rb s) : RtopRow s rt ra rb rc sz (isRegister3 (s.x rc) f6 f3, i) :=
  rtopRow_of_fn (fun h => by
    obtain ⟨⟨byte, code⟩, code3⟩ := (Bool.and_eq_true_iff.1 h).imp and_beq_eq_true eq_of_beq
    rw [rtopFn_eq, if_pos byte, code, code3, hf]) hi

/-- A bit matrix word: bit 23 says exclusive or, bit 24 transposed (R346). -/
theorem rtopRow_of_matrix {f2 : BitVec 2} (hf : f = fnBmm (f2.toNat % 2 == 1) (f2.toNat / 2 % 2 == 1))
    (hi : exec i s = aluReg f rt ra rb s) : RtopRow s rt ra rb rc sz (isMatrix (s.x rc) f2, i) :=
  rtopRow_of_fn (fun h => by
    obtain ⟨⟨byte, code⟩, code2⟩ := (Bool.and_eq_true_iff.1 h).imp and_beq_eq_true eq_of_beq
    have low : (field (s.x rc) 23 3 : BitVec 3).toNat % 2 = f2.toNat % 2 := by
      rw [← code2, toNat_matrixCode]
      omega
    have high : (field (s.x rc) 23 3 : BitVec 3).toNat / 2 % 2 = f2.toNat / 2 % 2 := by
      rw [← code2, toNat_matrixCode]
      omega
    rw [rtopFn_eq, if_pos byte, code, hf, ← low, ← high]
    rfl) hi

/-- A 48-bit register-register word. -/
theorem rtopRow_of_long {f6 : BitVec 6} (hf : rtopLong f6.toNat = some f)
    (hi : exec i s = aluReg f rt ra rb s) : RtopRow s rt ra rb rc sz (isLong (s.x rc) f6, i) :=
  rtopRow_of_fn (fun h => by
    obtain ⟨byte, code⟩ := and_beq_eq_true h
    have other : field (s.x rc) 0 8 ≠ (0x02 : BitVec 8) := by
      rw [byte]
      decide
    rw [rtopFn_eq, if_neg other, if_pos byte, code, hf]) hi

/-- A word with a major opcode of its own: it is no register-register word. -/
theorem rtopRow_of_immediate {op : BitVec 6} (hop : op ≠ 2) (hf : rtopImm op.toNat sz = some f)
    (hi : exec i s = aluReg f rt ra rb s) : RtopRow s rt ra rb rc sz (isImmediate (s.x rc) op, i) :=
  rtopRow_of_fn (fun h => by
    obtain ⟨bit7, code⟩ := and_beq_eq_true h
    have differs : op.toNat ≠ 2 := fun h2 => hop (BitVec.eq_of_toNat_eq h2)
    have opcode := congrArg BitVec.toNat code
    have byte := toNat_firstByte (s.x rc)
    have hlt := op.isLt
    have other (n : BitVec 8) (hn : n.toNat % 64 = 2) : field (s.x rc) 0 8 ≠ n := by
      rintro rfl
      omega
    rw [rtopFn_eq, if_neg (other _ rfl), if_neg (other _ rfl), if_pos bit7, code, hf]) hi

/-- A lanewise operation with its operands exchanged. -/
theorem lanes2_swap (g : LaneFn2) (a b : Word) : lanes2 sz (fun w x y => g w y x) a b = lanes2 sz g b a := rfl

/-! Greater is less with the operands exchanged (R331). -/

theorem aluReg_sgtu : aluReg (sized sz fnSgtu) rt ra rb s = aluReg (sized sz fnSltu) rt rb ra s := by
  rw [aluReg_sized, aluReg_sized, ← lanes2_swap]
  rfl

theorem aluReg_sgt : aluReg (sized sz fnSgt) rt ra rb s = aluReg (sized sz fnSlt) rt rb ra s := by
  rw [aluReg_sized, aluReg_sized, ← lanes2_swap]
  rfl

end rows

section tables

variable (j : Word) (rt ra rb : RegNo) (sz : BitVec 3)

/-- The words with a second function code. -/
def codedRows : List (Bool × Instr) :=
  [(isRegister3 j 0x00 0, .bcdadd rt ra rb), (isRegister3 j 0x00 1, .bcdsub rt ra rb),
    (isRegister3 j 0x00 2, .bcdmul rt ra rb), (isMatrix j 0, .mor rt ra rb), (isMatrix j 1, .mxor rt ra rb),
    (isMatrix j 2, .mort rt ra rb), (isMatrix j 3, .mxort rt ra rb), (isRegister3 j 0x2F 0, .shl rt ra rb),
    (isRegister3 j 0x2F 1, .shr rt ra rb), (isRegister3 j 0x2F 2, .asl rt ra rb),
    (isRegister3 j 0x2F 3, .asr rt ra rb), (isRegister3 j 0x2F 4, .rol rt ra rb),
    (isRegister3 j 0x2F 5, .ror rt ra rb)]

/-- Arithmetic, logic and compares. -/
def plainRows : List (Bool × Instr) :=
  [(isRegister j 0x02, .addv rt ra rb false), (isRegister j 0x04, .add rt ra rb sz),
    (isRegister j 0x05, .sub rt ra rb sz), (isRegister j 0x06, .slt rt ra rb sz),
    (isRegister j 0x07, .sltu rt ra rb sz), (isRegister j 0x08, .and rt ra rb sz),
    (isRegister j 0x09, .or rt ra rb sz), (isRegister j 0x0A, .xor rt ra rb sz),
    (isRegister j 0x0B, .seq rt ra rb sz), (isRegister j 0x0C, .nand rt ra rb), (isRegister j 0x0D, .nor rt ra rb),
    (isRegister j 0x0E, .xnor rt ra rb), (isRegister j 0x1E, .ptrdif rt ra rb (field j 23 3)),
    (isRegister j 0x28, .sle rt ra rb sz), (isRegister j 0x29, .sleu rt ra rb sz),
    (isRegister j 0x2C, .min rt ra rb sz), (isRegister j 0x2D, .max rt ra rb sz),
    (isLong j 0x02, .addv rt ra rb true), (isLong j 0x0B, .subv rt ra rb)]

/-- Products, quotients and remainders. -/
def productRows : List (Bool × Instr) :=
  [(isRegister j 0x14, .modu rt ra rb sz), (isRegister j 0x15, .modsu rt ra rb sz),
    (isRegister j 0x16, .mod rt ra rb sz), (isRegister j 0x24, .muluh rt ra rb sz),
    (isRegister j 0x25, .mulsuh rt ra rb sz), (isRegister j 0x26, .mulh rt ra rb sz),
    (isRegister j 0x2A, .mulf rt ra rb sz), (isRegister j 0x38, .mulu rt ra rb sz),
    (isRegister j 0x39, .mulsu rt ra rb sz), (isRegister j 0x3A, .mul rt ra rb sz),
    (isRegister j 0x3B, .fxmul rt ra rb sz), (isRegister j 0x3C, .divu rt ra rb sz),
    (isRegister j 0x3D, .divsu rt ra rb sz), (isRegister j 0x3E, .div rt ra rb sz)]

/-- The immediate opcodes, x[Rb] standing for the constant. -/
def constantRows : List (Bool × Instr) :=
  [(isImmediate j 0x04, .add rt ra rb sz), (isImmediate j 0x06, .slt rt ra rb sz),
    (isImmediate j 0x07, .sltu rt ra rb sz), (isImmediate j 0x08, .and rt ra rb sz),
    (isImmediate j 0x09, .or rt ra rb sz), (isImmediate j 0x0A, .xor rt ra rb sz),
    (isImmediate j 0x0B, .seq rt ra rb sz), (isImmediate j 0x1C, .sltu rt rb ra sz),
    (isImmediate j 0x2A, .mulf rt ra rb sz), (isImmediate j 0x2C, .slt rt rb ra sz),
    (isImmediate j 0x2E, .mod rt ra rb sz), (isImmediate j 0x38, .mulu rt ra rb sz),
    (isImmediate j 0x3A, .mul rt ra rb sz), (isImmediate j 0x3C, .divu rt ra rb sz),
    (isImmediate j 0x3E, .div rt ra rb sz)]

/-- The words that RTOP takes (R365, log 32). -/
def rtopRows : List (Bool × Instr) :=
  codedRows j rt ra rb ++ plainRows j rt ra rb sz ++ productRows j rt ra rb sz ++ constantRows j rt ra rb sz

end tables

section rows

variable (s : State) (rt ra rb rc : RegNo) (sz : BitVec 3)

theorem rtopRow_codedRows : ∀ p ∈ codedRows (s.x rc) rt ra rb, RtopRow s rt ra rb rc sz p := by
  simp only [codedRows, List.forall_mem_cons]
  exact ⟨rtopRow_of_register3 rfl (exec_bcdadd s rt ra rb), rtopRow_of_register3 rfl (exec_bcdsub s rt ra rb),
    rtopRow_of_register3 rfl (exec_bcdmul s rt ra rb), rtopRow_of_matrix rfl (exec_mor s rt ra rb),
    rtopRow_of_matrix rfl (exec_mxor s rt ra rb), rtopRow_of_matrix rfl (exec_mort s rt ra rb),
    rtopRow_of_matrix rfl (exec_mxort s rt ra rb), rtopRow_of_register3 rfl (exec_shl s rt ra rb),
    rtopRow_of_register3 rfl (exec_shr s rt ra rb), rtopRow_of_register3 rfl (exec_asl s rt ra rb),
    rtopRow_of_register3 rfl (exec_asr s rt ra rb), rtopRow_of_register3 rfl (exec_rol s rt ra rb),
    rtopRow_of_register3 rfl (exec_ror s rt ra rb), List.forall_mem_nil _⟩

theorem rtopRow_plainRows : ∀ p ∈ plainRows (s.x rc) rt ra rb sz, RtopRow s rt ra rb rc sz p := by
  have scale : BitVec.ofNat 3 (field (s.x rc) 23 3 : BitVec 3).toNat = field (s.x rc) 23 3 := by simp
  simp only [plainRows, List.forall_mem_cons]
  exact ⟨rtopRow_of_register rfl (exec_addv s rt ra rb false), rtopRow_of_register rfl (exec_add s rt ra rb sz),
    rtopRow_of_register rfl (exec_sub s rt ra rb sz), rtopRow_of_register rfl (exec_slt s rt ra rb sz),
    rtopRow_of_register rfl (exec_sltu s rt ra rb sz), rtopRow_of_register rfl (exec_and s rt ra rb sz),
    rtopRow_of_register rfl (exec_or s rt ra rb sz), rtopRow_of_register rfl (exec_xor s rt ra rb sz),
    rtopRow_of_register rfl (exec_seq s rt ra rb sz), rtopRow_of_register rfl (exec_nand s rt ra rb),
    rtopRow_of_register rfl (exec_nor s rt ra rb), rtopRow_of_register rfl (exec_xnor s rt ra rb),
    rtopRow_of_register (congrArg (some <| fnPtrdif ·) scale) (exec_ptrdif s rt ra rb _),
    rtopRow_of_register rfl (exec_sle s rt ra rb sz), rtopRow_of_register rfl (exec_sleu s rt ra rb sz),
    rtopRow_of_register rfl (exec_min s rt ra rb sz), rtopRow_of_register rfl (exec_max s rt ra rb sz),
    rtopRow_of_long rfl (exec_addv s rt ra rb true), rtopRow_of_long rfl (exec_subv s rt ra rb),
    List.forall_mem_nil _⟩

theorem rtopRow_productRows : ∀ p ∈ productRows (s.x rc) rt ra rb sz, RtopRow s rt ra rb rc sz p := by
  simp only [productRows, List.forall_mem_cons]
  exact ⟨rtopRow_of_register rfl (exec_modu s rt ra rb sz), rtopRow_of_register rfl (exec_modsu s rt ra rb sz),
    rtopRow_of_register rfl (exec_mod s rt ra rb sz), rtopRow_of_register rfl (exec_muluh s rt ra rb sz),
    rtopRow_of_register rfl (exec_mulsuh s rt ra rb sz), rtopRow_of_register rfl (exec_mulh s rt ra rb sz),
    rtopRow_of_register rfl (exec_mulf s rt ra rb sz), rtopRow_of_register rfl (exec_mulu s rt ra rb sz),
    rtopRow_of_register rfl (exec_mulsu s rt ra rb sz), rtopRow_of_register rfl (exec_mul s rt ra rb sz),
    rtopRow_of_register rfl (exec_fxmul s rt ra rb sz), rtopRow_of_register rfl (exec_divu s rt ra rb sz),
    rtopRow_of_register rfl (exec_divsu s rt ra rb sz), rtopRow_of_register rfl (exec_div s rt ra rb sz),
    List.forall_mem_nil _⟩

theorem rtopRow_constantRows : ∀ p ∈ constantRows (s.x rc) rt ra rb sz, RtopRow s rt ra rb rc sz p := by
  simp only [constantRows, List.forall_mem_cons]
  exact ⟨rtopRow_of_immediate (by decide) rfl (exec_add s rt ra rb sz),
    rtopRow_of_immediate (by decide) rfl (exec_slt s rt ra rb sz),
    rtopRow_of_immediate (by decide) rfl (exec_sltu s rt ra rb sz),
    rtopRow_of_immediate (by decide) rfl (exec_and s rt ra rb sz),
    rtopRow_of_immediate (by decide) rfl (exec_or s rt ra rb sz),
    rtopRow_of_immediate (by decide) rfl (exec_xor s rt ra rb sz),
    rtopRow_of_immediate (by decide) rfl (exec_seq s rt ra rb sz),
    rtopRow_of_immediate (by decide) rfl ((exec_sltu s rt rb ra sz).trans aluReg_sgtu.symm),
    rtopRow_of_immediate (by decide) rfl (exec_mulf s rt ra rb sz),
    rtopRow_of_immediate (by decide) rfl ((exec_slt s rt rb ra sz).trans aluReg_sgt.symm),
    rtopRow_of_immediate (by decide) rfl (exec_mod s rt ra rb sz),
    rtopRow_of_immediate (by decide) rfl (exec_mulu s rt ra rb sz),
    rtopRow_of_immediate (by decide) rfl (exec_mul s rt ra rb sz),
    rtopRow_of_immediate (by decide) rfl (exec_divu s rt ra rb sz),
    rtopRow_of_immediate (by decide) rfl (exec_div s rt ra rb sz), List.forall_mem_nil _⟩

end rows

section outside

variable {j : Word} {rt ra rb : RegNo} {sz : BitVec 3}

/-- A code whose number is listed is listed. -/
theorem mem_of_toNat_mem {n : Nat} {x : BitVec n} {l : List (BitVec n)} (h : x.toNat ∈ l.map BitVec.toNat) : x ∈ l :=
  (List.mem_map_of_injective BitVec.toNat_injective).1 h

/-- A word that no row takes gives no function. -/
theorem rtopFn_eq_none (h : ∀ p ∈ rtopRows j rt ra rb sz, p.1 = false) : rtopFn j sz = none := by
  simp only [rtopRows, codedRows, plainRows, productRows, constantRows, List.forall_mem_append,
    List.forall_mem_cons] at h
  have register : ∀ k ∈ registerCodes, isRegister j k = false := by
    simp only [registerCodes, List.forall_mem_cons, h, true_and, List.not_mem_nil, false_implies, implies_true]
  have bcd : ∀ k ∈ bcdCodes, isRegister3 j 0x00 k = false := by
    simp only [bcdCodes, List.forall_mem_cons, h, true_and, List.not_mem_nil, false_implies, implies_true]
  have shift : ∀ k ∈ shiftCodes, isRegister3 j 0x2F k = false := by
    simp only [shiftCodes, List.forall_mem_cons, h, true_and, List.not_mem_nil, false_implies, implies_true]
  have matrix : ∀ k ∈ matrixCodes, isMatrix j k = false := by
    simp only [matrixCodes, List.forall_mem_cons, h, true_and, List.not_mem_nil, false_implies, implies_true]
  have long : ∀ k ∈ longCodes, isLong j k = false := by
    simp only [longCodes, List.forall_mem_cons, h, true_and, List.not_mem_nil, false_implies, implies_true]
  have immediate : ∀ k ∈ immediateCodes, isImmediate j k = false := by
    simp only [immediateCodes, List.forall_mem_cons, h, true_and, List.not_mem_nil, false_implies, implies_true]
  rw [rtopFn_eq]
  split
  case isTrue byte =>
    refine rtopRR_eq_none (fun hm => ?_) (fun code hm => ?_) (fun code => ?_) fun code hm => ?_
    · exact absurd (register _ (mem_of_toNat_mem hm)) (by simp [isRegister, byte])
    · have zero : field j 26 6 = (0x00 : BitVec 6) := BitVec.eq_of_toNat_eq code
      exact absurd (bcd _ (mem_of_toNat_mem hm)) (by simp [isRegister3, isRegister, byte, zero])
    · have three : field j 26 6 = (0x03 : BitVec 6) := BitVec.eq_of_toNat_eq code
      exact absurd (matrix _ (mem_matrixCodes (field j 23 2))) (by simp [isMatrix, isRegister, byte, three])
    · have shifts : field j 26 6 = (0x2F : BitVec 6) := BitVec.eq_of_toNat_eq code
      exact absurd (shift _ (mem_of_toNat_mem hm)) (by simp [isRegister3, isRegister, byte, shifts])
  split
  case isTrue byte =>
    exact rtopLong_eq_none fun hm => absurd (long _ (mem_of_toNat_mem hm)) (by simp [isLong, byte])
  split
  case isTrue bit7 =>
    exact rtopImm_eq_none fun hm => absurd (immediate _ (mem_of_toNat_mem hm)) (by simp [isImmediate, bit7])
  · rfl

end outside

/-- Every row of the table: RTOP does what its instruction does. -/
theorem rtopRow_of_mem {s : State} {rt ra rb rc : RegNo} {sz : BitVec 3} {p : Bool × Instr}
    (hp : p ∈ rtopRows (s.x rc) rt ra rb sz) : RtopRow s rt ra rb rc sz p := by
  simp only [rtopRows, List.mem_append] at hp
  rcases hp with ((coded | plain) | product) | constant
  · exact rtopRow_codedRows s rt ra rb rc sz p coded
  · exact rtopRow_plainRows s rt ra rb rc sz p plain
  · exact rtopRow_productRows s rt ra rb rc sz p product
  · exact rtopRow_constantRows s rt ra rb rc sz p constant

/-- A word that no row takes is reserved (R365). -/
theorem rtop_reserved {s : State} {rt ra rb rc : RegNo} {sz : BitVec 3}
    (h : ∀ p ∈ rtopRows (s.x rc) rt ra rb sz, p.1 = false) : IsReserved (.rtop rt ra rb rc sz) s := by
  rw [IsReserved, exec_rtop, execRtop, rtopFn_eq_none h]
  exact reserved_eq s

/-- RTOP on a word of an instruction that writes a value writes that value. -/
theorem rtop_writes {s : State} {rt ra rb rc : RegNo} {sz : BitVec 3} {g : Bool} {i : Instr} {v : State → Word}
    (row : RtopRow s rt ra rb rc sz (g, i)) (hi : WritesX i rt v) (hg : g = true)
    (hs : stackFault s s.rs rt (v s) = false) :
    exec (.rtop rt ra rb rc sz) s = .next (s.setX rt (v s)).advance := by
  obtain ⟨writes, -⟩ := hi s
  exact (row hg).trans (writes hs)

/-- RTOP on either word of a lanewise instruction, the register form or the immediate opcode with the same code. -/
theorem rtop_writes_lanes {s : State} {rt ra rb rc : RegNo} {sz : BitVec 3} {code : BitVec 6} {i : Instr} {f : LaneFn2}
    (hi : ∀ s, exec i s = aluReg (sized sz f) rt ra rb s) (hcode : code ≠ 2)
    (hreg : rtopRR code.toNat (field (s.x rc) 23 3 : BitVec 3).toNat sz = some (sized sz f))
    (himm : rtopImm code.toNat sz = some (sized sz f))
    (hg : (isRegister (s.x rc) code || isImmediate (s.x rc) code) = true)
    (hs : stackFault s s.rs rt (lanes2 sz f (s.x ra) (s.x rb)) = false) :
    exec (.rtop rt ra rb rc sz) s = .next (s.setX rt (lanes2 sz f (s.x ra) (s.x rb))).advance := by
  have writes : WritesX i rt fun s => lanes2 sz f (s.x ra) (s.x rb) := writesX_of_sized hi rfl
  rcases Bool.or_eq_true_iff.1 hg with register | immediate
  · exact rtop_writes (rtopRow_of_register hreg (hi s)) writes register hs
  · exact rtop_writes (rtopRow_of_immediate hcode himm (hi s)) writes immediate hs

/-- Settles O41: BCD by its digits, the bit matrices by their elements, RTOP by the table of its words. -/
theorem decimalMatrixAndRuntimeResults : Obligations.DecimalMatrixAndRuntimeResults := by
  refine ⟨fun rt ra rb s => ?_, fun rt ra rb sc => ⟨?_, ?_⟩, fun rt ra rb rc sz s => ?_⟩
  · intro a1 a0 b1 b0 done two four
    refine ⟨fun ha1 ha0 hb1 hb0 => ⟨fun hs => ?_, fun hs => ?_, fun hs => ?_⟩, fun hb i hi => ?_⟩
    · rw [exec_bcdadd, execBcdadd, fnBcdadd, aluReg_of_ok (bcdOp_of_decimal ha1 ha0 hb1 hb0 s), bcdDigits_two]
      exact writeX_of_not_stackFault hs
    · rw [exec_bcdsub, execBcdsub, fnBcdsub, aluReg_of_ok (bcdOp_of_decimal ha1 ha0 hb1 hb0 s), bcdDigits_two]
      exact writeX_of_not_stackFault hs
    · rw [exec_bcdmul, execBcdmul, fnBcdmul, aluReg_of_ok (bcdOp_of_decimal ha1 ha0 hb1 hb0 s), bcdDigits_four]
      exact writeX_of_not_stackFault hs
    · simp only [List.mem_cons, List.not_mem_nil, or_false] at hi
      rcases hi with rfl | rfl | rfl
      · exact writes_of_bcdOp hb (exec_bcdadd s rt ra rb)
      · exact writes_of_bcdOp hb (exec_bcdsub s rt ra rb)
      · exact writes_of_bcdOp hb (exec_bcdmul s rt ra rb)
  · exact writesX_of_writeX (exec_ptrdif · rt ra rb sc)
  · exact ⟨fun ex tr s => bmmWord ex tr (s.x ra) (s.x rb), writesX_of_writeX (exec_mor · rt ra rb),
      writesX_of_writeX (exec_mort · rt ra rb), writesX_of_writeX (exec_mxor · rt ra rb),
      writesX_of_writeX (exec_mxort · rt ra rb), fun ex s i j hi hj => bmmWord_spec ex (s.x ra) (s.x rb) hi hj⟩
  · intro done both j reg reg3 bmm long imm coded plain products constants rows
    refine ⟨fun p hp => rtopRow_of_mem hp, rtop_reserved, ?_, ?_, ?_, ?_, ?_⟩
    · exact rtop_writes_lanes (exec_add · rt ra rb sz) (by decide) rfl rfl
    · exact rtop_writes (rtopRow_of_register rfl (exec_sub s rt ra rb sz))
        (writesX_of_sized (exec_sub · rt ra rb sz) rfl)
    · exact rtop_writes_lanes (exec_and · rt ra rb sz) (by decide) rfl rfl
    · exact rtop_writes_lanes (exec_or · rt ra rb sz) (by decide) rfl rfl
    · exact rtop_writes_lanes (exec_xor · rt ra rb sz) (by decide) rfl rfl

end Sys2Proof.Machine

namespace Sys2Proof.Machine

/-! ## Shifts and rotates (41_shift_bitfield R400 to R406) -/

/-- The shift or rotate of a value by a count below its width, as the spec writes it (R401 to R406). -/
def shiftFn : ShiftKind → (w : Nat) → BitVec w → Nat → BitVec w
  | .shl | .asl => fun _ a n => a <<< n
  | .shr => fun _ a n => a >>> n
  | .asr => fun _ a n => a.sshiftRight n
  | .rol => fun _ a n => a.rotateLeft n
  | .ror => fun _ a n => a.rotateRight n

/-- The model's shift is the spec's, the count taken modulo the width (R400). -/
theorem shiftBy_eq (k : ShiftKind) (n : Nat) : shiftBy k n = fun w a => shiftFn k w a (n % w) := by
  funext w a
  cases k with
  | shl | shr | asl | asr => rfl
  | rol => exact (BitVec.rotateLeft_mod_eq_rotateLeft.trans BitVec.rotateLeft_def).symm
  | ror => exact (BitVec.rotateRight_mod_eq_rotateRight.trans BitVec.rotateRight_def).symm

theorem shiftWord_eq (k : ShiftKind) (a : Word) (n : Nat) (s : State) :
    shiftWord k a n s = withAec 34 2 causeOFL (shiftOverflow k n a) (shiftBy k n 64 a) s := rfl

/-- A word shift other than ASL checks nothing (R403). -/
theorem shiftWord_of_ne_asl {k : ShiftKind} (hk : k ≠ .asl) (a : Word) (n : Nat) (s : State) :
    shiftWord k a n s = .ok (shiftFn k 64 a (n % 64)) s := by
  have quiet : shiftOverflow k n a = false := by
    cases k with
    | asl => exact absurd rfl hk
    | shl | shr | asr | rol | ror => rfl
  rw [shiftWord_eq, quiet, withAec_of_not, shiftBy_eq]

theorem shiftWord_asl (a : Word) (n : Nat) (s : State) :
    shiftWord .asl a n s = withAec 34 2 causeOFL (aslOverflow a (n % 64)) (a <<< (n % 64)) s := rfl

/-- The count in a register is its low six bits, its value modulo 64 (R400). -/
theorem toNat_countField (b : Word) : (field b 0 6 : BitVec 6).toNat % 64 = b.toNat % 64 := by
  rw [toNat_field, Nat.pow_zero, Nat.div_one]
  exact Nat.mod_mod _ _

theorem toNat_immCount (n : BitVec 6) : n.toNat % 64 = n.toNat := Nat.mod_eq_of_lt n.isLt

section shifts

variable {i : Instr} {rt ra : RegNo} {n count : State → Nat}

/-- An instruction that ends as a word shift other than ASL writes the shifted word. -/
theorem writesX_of_shiftWord {k : ShiftKind} (hk : k ≠ .asl)
    (h : ∀ s, exec i s = finishX rt (shiftWord k (s.x ra) (n s) s)) (hn : ∀ s, n s % 64 = count s) :
    WritesX i rt fun s => shiftFn k 64 (s.x ra) (count s) :=
  writesX_of_writeX fun s => by
    rw [h s, shiftWord_of_ne_asl hk, hn s]
    rfl

/-- An instruction that ends as a word ASL writes the shifted word, its overflow checked first (R403). -/
theorem writesXNoting_of_asl (h : ∀ s, exec i s = finishX rt (shiftWord .asl (s.x ra) (n s) s))
    (hn : ∀ s, n s % 64 = count s) :
    WritesXNoting 34 2 causeOFL i rt (fun s => aslOverflow (s.x ra) (count s)) fun s => s.x ra <<< count s :=
  writesXNoting_of_withAec fun s => by rw [h s, shiftWord_asl, hn s]

end shifts

/-- Settles O43: each instruction ends as the word shift of its kind; the register's count and the immediate are each
below 64. -/
theorem shiftResults : Obligations.ShiftResults := by
  intro rt ra rb k lost
  have reg (s : State) : (field (s.x rb) 0 6 : BitVec 6).toNat % 64 = (s.x rb).toNat % 64 := toNat_countField _
  have imm (_ : State) : k.toNat % 64 = k.toNat := toNat_immCount k
  exact ⟨writesX_of_shiftWord (k := .shl) (by decide) (exec_shl · rt ra rb) reg,
    writesX_of_shiftWord (k := .shl) (by decide) (exec_shlImm · rt ra k) imm,
    writesX_of_shiftWord (k := .shr) (by decide) (exec_shr · rt ra rb) reg,
    writesX_of_shiftWord (k := .shr) (by decide) (exec_shrImm · rt ra k) imm,
    writesX_of_shiftWord (k := .asr) (by decide) (exec_asr · rt ra rb) reg,
    writesX_of_shiftWord (k := .asr) (by decide) (exec_asrImm · rt ra k) imm,
    writesX_of_shiftWord (k := .rol) (by decide) (exec_rol · rt ra rb) reg,
    writesX_of_shiftWord (k := .rol) (by decide) (exec_rolImm · rt ra k) imm,
    writesX_of_shiftWord (k := .ror) (by decide) (exec_ror · rt ra rb) reg,
    writesX_of_shiftWord (k := .ror) (by decide) (exec_rorImm · rt ra k) imm,
    writesXNoting_of_asl (exec_asl · rt ra rb) reg, writesXNoting_of_asl (exec_aslImm · rt ra k) imm⟩

end Sys2Proof.Machine

namespace Sys2Proof.Machine

/-! ## The 48-bit shifts and XOR:[op] (41_shift_bitfield R412, 40_integer_alu R320) -/

/-- The shift of the 48-bit form: sizes 0 to 2 sign-extend the shifted low part, the others work lane by lane (R412). -/
def shiftAtSize (sz : BitVec 3) (g : (w : Nat) → BitVec w → Nat → BitVec w) (a : Word) (n : Nat) : Word :=
  if sz = 0 then sext64 (g 8 (field a 0 8) (n % 8)) else if sz = 1 then sext64 (g 16 (field a 0 16) (n % 16))
  else if sz = 2 then sext64 (g 32 (field a 0 32) (n % 32)) else lanes1 sz (fun w x => g w x (n % w)) a

/-- Only ASL at word size checks a condition; every other shift answers its value (R412). -/
theorem shiftSized_of_quiet {k : ShiftKind} {sz : BitVec 3} (h : k ≠ .asl ∨ sz ≠ 3 ∧ sz ≠ 7) (a : Word) (n : Nat)
    (s : State) : shiftSized k sz a n s = .ok (shiftAtSize sz (shiftFn k) a n) s := by
  have word (hsz : sz = 3 ∨ sz = 7) : shiftWord k a n s = .ok (shiftFn k 64 a (n % 64)) s :=
    shiftWord_of_ne_asl (h.resolve_right fun ⟨h3, h7⟩ => hsz.elim h3 h7) a n s
  have low (w : Nat) (x : BitVec w) : Res.ok (sext64 (shiftBy k n w x)) s = .ok (sext64 (shiftFn k w x (n % w))) s := by
    rw [shiftBy_eq]
  have lanes : Res.ok (lanes1 sz (shiftBy k n) a) s = .ok (lanes1 sz (fun w x => shiftFn k w x (n % w)) a) s := by
    rw [shiftBy_eq]
  rcases direction_cases sz with rfl | rfl | rfl | rfl | rfl | rfl | rfl | rfl
  · exact low 8 (field a 0 8)
  · exact low 16 (field a 0 16)
  · exact low 32 (field a 0 32)
  · exact word (.inl rfl)
  · exact lanes
  · exact lanes
  · exact lanes
  · exact word (.inr rfl)

/-- Past a check that delivers a value, a function of the value may be applied before the check. -/
theorem withAec_andThen (k e : Nat) (c : BitVec 8) (happens : Bool) (v : Word) (g : Word → Word) (s : State) :
    ((withAec k e c happens v s).andThen fun t s1 => .ok (g t) s1) = withAec k e c happens (g v) s := by
  cases happens with
  | false => rfl
  | true =>
    cases enabled : bitAt s.csr.aec e
    · rw [withAec_of_disabled enabled, withAec_of_disabled enabled, Res.ok_andThen]
    · rw [withAec_of_enabled enabled, withAec_of_enabled enabled, Res.exc_andThen]

/-- The code of a second operation selects it (R320). -/
theorem secondOp_of_mem {op2 : BitVec 6} {f : LaneFn2} (h : (op2.toNat, f) ∈ secondOps) : secondOp op2 = some f := by
  delta secondOps at h
  simp only [List.mem_cons, List.not_mem_nil, or_false, Prod.mk.injEq, ← fnSeq_eq] at h
  delta secondOp
  rw [fnNot_eq]
  generalize op2.toNat = code at h ⊢
  rcases h with ⟨rfl, rfl⟩ | ⟨rfl, rfl⟩ | ⟨rfl, rfl⟩ | ⟨rfl, rfl⟩ | ⟨rfl, rfl⟩ | ⟨rfl, rfl⟩ | ⟨rfl, rfl⟩ |
    ⟨rfl, rfl⟩ | ⟨rfl, rfl⟩ | ⟨rfl, rfl⟩ | ⟨rfl, rfl⟩ | ⟨rfl, rfl⟩ <;> rfl

/-- A code that is not listed selects none (R320). -/
theorem secondOp_of_not_mem {op2 : BitVec 6} (h : op2.toNat ∉ secondOps.map Prod.fst) : secondOp op2 = none := by
  have unlisted : ∀ op : BitVec 6, op.toNat ∉ secondOps.map Prod.fst → (secondOp op).isNone = true := by decide
  exact Option.isNone_iff_eq_none.1 (unlisted op2 h)

section second

variable {k : ShiftKind} {op2 : BitVec 6} {sz : BitVec 3} {f : LaneFn2} {i : ShiftCount → Instr} {rt ra rb rc : RegNo}

theorem shiftOp_of_mem (hf : (op2.toNat, f) ∈ secondOps) (n : ShiftCount) (s : State) :
    shiftOp k op2 sz n rt ra rc s =
      finishX rt ((shiftSized k sz (s.x ra) (shiftCount s n) s).andThen fun t s1 => .ok (lanes2 sz f t (s.x rc)) s1) := by
  delta shiftOp
  rw [secondOp_of_mem hf]

theorem shiftOp_of_not_mem (hop : op2.toNat ∉ secondOps.map Prod.fst) (n : ShiftCount) (s : State) :
    shiftOp k op2 sz n rt ra rc s = reserved s := by
  delta shiftOp
  rw [secondOp_of_not_mem hop]

theorem isReserved_of_shiftOp (h : ∀ n s, exec (i n) s = shiftOp k op2 sz n rt ra rc s)
    (hop : op2.toNat ∉ secondOps.map Prod.fst) (n : ShiftCount) (s : State) : IsReserved (i n) s :=
  ((h n s).trans (shiftOp_of_not_mem hop n s)).trans (reserved_eq s)

/-- A 48-bit shift that checks nothing writes its second operation's result, for either kind of count (R412). -/
theorem writesX_of_shiftOp (hq : k ≠ .asl ∨ sz ≠ 3 ∧ sz ≠ 7) (h : ∀ n s, exec (i n) s = shiftOp k op2 sz n rt ra rc s)
    (hf : (op2.toNat, f) ∈ secondOps) (n : ShiftCount) :
    WritesX (i n) rt fun s => lanes2 sz f (shiftAtSize sz (shiftFn k) (s.x ra) (shiftCount s n)) (s.x rc) :=
  writesX_of_writeX fun s => by
    rw [h n s, shiftOp_of_mem hf, shiftSized_of_quiet hq]
    rfl

/-- A 48-bit ASL at word size checks its overflow, then writes its second operation's result (R403, R412). -/
theorem writesXNoting_of_aslOp (hsz : sz = 3 ∨ sz = 7) (hf : (op2.toNat, f) ∈ secondOps) {n : ShiftCount}
    {count : State → Nat} (hn : ∀ s, shiftCount s n % 64 = count s) :
    WritesXNoting 34 2 causeOFL (.aslOp op2 sz n rt ra rc) rt (fun s => aslOverflow (s.x ra) (count s))
      fun s => lanes2 sz f (s.x ra <<< count s) (s.x rc) :=
  writesXNoting_of_withAec fun s => by
    have word (a : Word) (m : Nat) : shiftSized .asl sz a m s = shiftWord .asl a m s := by
      rcases hsz with rfl | rfl <;> rfl
    have shift : exec (.aslOp op2 sz n rt ra rc) s = shiftOp .asl op2 sz n rt ra rc s := exec_aslOp s op2 sz n rt ra rc
    rw [shift, shiftOp_of_mem hf, word, shiftWord_asl, hn, withAec_andThen]

/-- What the obligation says of a 48-bit shift that checks nothing, for both kinds of count and a reserved code. -/
theorem shiftOp_results (hq : k ≠ .asl ∨ sz ≠ 3 ∧ sz ≠ 7) (h : ∀ n s, exec (i n) s = shiftOp k op2 sz n rt ra rc s) :
    (∀ m : BitVec 6, (op2.toNat, f) ∈ secondOps → WritesX (i (.imm m)) rt fun s =>
      lanes2 sz f (shiftAtSize sz (shiftFn k) (s.x ra) m.toNat) (s.x rc)) ∧
    ((op2.toNat, f) ∈ secondOps → WritesX (i (.reg rb)) rt fun s =>
      lanes2 sz f (shiftAtSize sz (shiftFn k) (s.x ra) (s.x rb).toNat) (s.x rc)) ∧
    (op2.toNat ∉ secondOps.map Prod.fst → ∀ n s, IsReserved (i n) s) :=
  ⟨fun m hf => writesX_of_shiftOp hq h hf (.imm m), fun hf => writesX_of_shiftOp hq h hf (.reg rb),
    isReserved_of_shiftOp h⟩

theorem execXorOp_of_mem (hf : (op2.toNat, f) ∈ secondOps) (s : State) :
    execXorOp op2 sz rt ra rb rc s =
      writeX rt (lanes2 sz f (lanes2 sz fnXor (s.x ra) (s.x rb)) (s.x rc)) s := by
  delta execXorOp
  rw [secondOp_of_mem hf]

theorem execXorOp_of_not_mem (hop : op2.toNat ∉ secondOps.map Prod.fst) (s : State) :
    execXorOp op2 sz rt ra rb rc s = reserved s := by
  delta execXorOp
  rw [secondOp_of_not_mem hop]

end second

/-- Settles O44: each shift that checks nothing by the one form they share, ASL at word size by its check, XOR:[op] by
its second operation. -/
theorem shiftWithSecondOperation : Obligations.ShiftWithSecondOperation := by
  intro rt ra rb rc op2 sz f lost shifted shifts
  refine ⟨shiftOp_results (k := .shl) (.inl (by decide)) fun n s => exec_shlOp s op2 sz n rt ra rc,
    shiftOp_results (k := .shr) (.inl (by decide)) fun n s => exec_shrOp s op2 sz n rt ra rc,
    shiftOp_results (k := .asr) (.inl (by decide)) fun n s => exec_asrOp s op2 sz n rt ra rc,
    shiftOp_results (k := .rol) (.inl (by decide)) fun n s => exec_rolOp s op2 sz n rt ra rc,
    shiftOp_results (k := .ror) (.inl (by decide)) fun n s => exec_rorOp s op2 sz n rt ra rc,
    fun hsz => shiftOp_results (k := .asl) (.inr ?_) fun n s => exec_aslOp s op2 sz n rt ra rc,
    fun hsz hf => ⟨fun m => ?_, ?_⟩,
    isReserved_of_shiftOp (k := .asl) fun n s => exec_aslOp s op2 sz n rt ra rc,
    fun hf => writesX_of_writeX fun s => ?_, fun hop s => ?_⟩
  · rcases hsz with rfl | rfl | rfl | rfl | rfl | rfl <;> decide
  · exact writesXNoting_of_aslOp hsz hf fun _ => toNat_immCount m
  · exact writesXNoting_of_aslOp hsz hf fun _ => rfl
  · exact execXorOp_of_mem hf s
  · exact (execXorOp_of_not_mem hop s).trans (reserved_eq s)

end Sys2Proof.Machine

namespace Sys2Proof.Machine

/-! ## Bitfields, bit by bit (41_shift_bitfield R420 to R428) -/

/-- Whether a bit lies in the field; bits from 64 on are cut off by the word itself (R420). -/
def BitField.has (f : BitField) (k : Nat) : Bool := decide (f.offset ≤ k) && decide (k < f.offset + f.width)

section bits

variable {f : BitField} {k : Nat}

theorem BitField.has_eq_true : f.has k = true ↔ f.offset ≤ k ∧ k < f.offset + f.width :=
  (Bool.and_eq_true_iff).trans (and_congr decide_eq_true_iff decide_eq_true_iff)

/-! What each function of the model is, said once. -/

theorem bfMask_eq (f : BitField) : bfMask f = lowOnes f.width <<< f.offset := rfl

theorem bfInsert_eq (t : Word) (f : BitField) :
    bfInsert t f = t &&& ~~~bfMask f ||| f.data <<< f.offset &&& bfMask f := rfl

theorem bfExtract_eq (f : BitField) : bfExtract f = f.data >>> f.offset &&& lowOnes f.width := rfl

theorem bfInside_eq (f : BitField) : bfInside f = min f.width (64 - f.offset) := rfl

theorem signFrom_zero (v : Word) : signFrom 0 v = 0 := rfl

theorem signFrom_of_pos {n : Nat} (h : 0 < n) (v : Word) :
    signFrom n v = (v <<< (64 - n)).sshiftRight (64 - n) :=
  if_neg (Nat.ne_of_gt h)

theorem highestSet_succ (a : Word) (n : Nat) :
    highestSet a (n + 1) = if bitAt a n then some n else highestSet a n := rfl

theorem bitAt_of_ge {m : Nat} (w : BitVec m) (h : m ≤ k) : bitAt w k = false := by
  rw [bitAt_eq_getLsbD, BitVec.getLsbD_of_ge w k h]

theorem bitAt_and (a b : Word) (k : Nat) : bitAt (a &&& b) k = (bitAt a k && bitAt b k) := by
  simp only [bitAt_eq_getLsbD, BitVec.getLsbD_and]

theorem bitAt_or (a b : Word) (k : Nat) : bitAt (a ||| b) k = (bitAt a k || bitAt b k) := by
  simp only [bitAt_eq_getLsbD, BitVec.getLsbD_or]

theorem bitAt_xor (a b : Word) (k : Nat) : bitAt (a ^^^ b) k = (bitAt a k != bitAt b k) := by
  simp only [bitAt_eq_getLsbD, BitVec.getLsbD_xor, Bool.bne_eq_xor]

theorem bitAt_not (a : Word) (hk : k < 64) : bitAt (~~~a) k = !bitAt a k := by
  simp only [bitAt_eq_getLsbD, BitVec.getLsbD_not, hk, decide_true, Bool.true_and]

theorem bitAt_shiftLeft (a : Word) (n : Nat) (hk : k < 64) :
    bitAt (a <<< n) k = (decide (n ≤ k) && bitAt a (k - n)) := by
  simp only [bitAt_eq_getLsbD, BitVec.getLsbD_shiftLeft, hk, decide_true, Bool.true_and, ← decide_not, Nat.not_lt]

theorem bitAt_shiftRight (a : Word) (n k : Nat) : bitAt (a >>> n) k = bitAt a (n + k) := by
  simp only [bitAt_eq_getLsbD, BitVec.getLsbD_ushiftRight]

theorem bitAt_lowOnes (n : Nat) (hk : k < 64) : bitAt (lowOnes n) k = decide (k < n) := by
  have word : (lowOnes n).getLsbD k = (decide (k < 64) && (2 ^ n - 1).testBit k) := BitVec.getLsbD_ofNat 64 _ k
  rw [bitAt_eq_getLsbD, word, Nat.testBit_two_pow_sub_one, decide_eq_true hk, Bool.true_and]

/-- The mask has the bits of the field (R420). -/
theorem bitAt_bfMask (f : BitField) (hk : k < 64) : bitAt (bfMask f) k = f.has k := by
  rw [bfMask_eq, bitAt_shiftLeft _ _ hk, bitAt_lowOnes _ (by omega), Bool.eq_iff_iff, BitField.has_eq_true,
    Bool.and_eq_true, decide_eq_true_iff, decide_eq_true_iff]
  omega

/-- Inside the field an insertion has the data's low bits, outside the target's own (R424). -/
theorem bitAt_bfInsert (t : Word) (f : BitField) (hk : k < 64) :
    bitAt (bfInsert t f) k = if f.has k then bitAt f.data (k - f.offset) else bitAt t k := by
  rw [bfInsert_eq, bitAt_or, bitAt_and, bitAt_and, bitAt_not _ hk, bitAt_bfMask f hk, bitAt_shiftLeft _ _ hk]
  cases inside : f.has k
  · simp
  · obtain ⟨above, -⟩ := BitField.has_eq_true.1 inside
    simp [above]

/-- An extraction has the field's bits from bit 0 on, zeros above (R427). -/
theorem bitAt_bfExtract (f : BitField) (hk : k < 64) :
    bitAt (bfExtract f) k = if k < bfInside f then bitAt f.data (f.offset + k) else false := by
  rw [bfExtract_eq, bitAt_and, bitAt_shiftRight, bitAt_lowOnes _ hk, bfInside_eq]
  by_cases word : f.offset + k < 64
  · have same : k < min f.width (64 - f.offset) ↔ k < f.width := by omega
    rw [if_congr same rfl rfl]
    by_cases h : k < f.width <;> simp [h]
  · rw [bitAt_of_ge _ (by omega), Bool.false_and, ite_self]

/-- A value sign-extended from n bits has its own bits below n, and bit n - 1 from there on (R426). -/
theorem bitAt_signFrom {n : Nat} (v : Word) (hn : n ≤ 64) (hk : k < 64) :
    bitAt (signFrom n v) k = if k < n then bitAt v k else decide (0 < n) && bitAt v (n - 1) := by
  rcases Nat.eq_zero_or_pos n with rfl | pos
  · rw [signFrom_zero, if_neg (Nat.not_lt_zero k), decide_eq_false (Nat.lt_irrefl 0), Bool.false_and, bitAt_eq_getLsbD]
    exact BitVec.getLsbD_zero
  · have sign : (v <<< (64 - n)).msb = bitAt v (n - 1) := by
      rw [← bitAt_63, bitAt_shiftLeft _ _ (by omega), decide_eq_true (by omega), Bool.true_and]
      congr 1
      omega
    have shifted : bitAt ((v <<< (64 - n)).sshiftRight (64 - n)) k =
        if 64 - n + k < 64 then bitAt (v <<< (64 - n)) (64 - n + k) else (v <<< (64 - n)).msb := by
      simp only [bitAt_eq_getLsbD, BitVec.getLsbD_sshiftRight, Nat.not_le.2 hk, decide_false, Bool.not_false,
        Bool.true_and]
    rw [signFrom_of_pos pos, shifted, sign, decide_eq_true pos, Bool.true_and]
    by_cases below : k < n
    · rw [if_pos (by omega), if_pos below, bitAt_shiftLeft _ _ (by omega), decide_eq_true (by omega), Bool.true_and,
        Nat.add_sub_cancel_left]
    · rw [if_neg (by omega), if_neg below]

/-- The field extracted with the sign of its top bit inside the word (R426). -/
theorem bitAt_bfExtract_signed (f : BitField) (hk : k < 64) :
    bitAt (signFrom (bfInside f) (bfExtract f)) k =
      if k < bfInside f then bitAt f.data (f.offset + k)
      else decide (0 < bfInside f) && bitAt f.data (f.offset + bfInside f - 1) := by
  have small : bfInside f ≤ 64 := by
    rw [bfInside_eq]
    omega
  rw [bitAt_signFrom _ small hk]
  by_cases below : k < bfInside f
  · rw [if_pos below, if_pos below, bitAt_bfExtract f hk, if_pos below]
  · rw [if_neg below, if_neg below]
    by_cases empty : bfInside f = 0
    · simp [empty]
    · rw [bitAt_bfExtract f (by omega), if_pos (by omega), Nat.add_sub_assoc (by omega)]

/-- The highest set bit below n: it is set, and none between it and n is (R428). -/
theorem highestSet_eq_some {a : Word} {n j : Nat} (h : highestSet a n = some j) :
    j < n ∧ bitAt a j = true ∧ ∀ k, j < k → k < n → bitAt a k = false := by
  induction n with
  | zero => exact absurd h nofun
  | succ n ih =>
    rw [highestSet_succ] at h
    cases top : bitAt a n
    · rw [top, if_neg Bool.false_ne_true] at h
      obtain ⟨below, set, clear⟩ := ih h
      refine ⟨by omega, set, fun k hlo hhi => ?_⟩
      rcases Nat.lt_or_eq_of_le (Nat.le_of_lt_succ hhi) with lower | rfl
      · exact clear k hlo lower
      · exact top
    · rw [top, if_pos rfl] at h
      obtain rfl := Option.some.inj h
      exact ⟨Nat.lt_succ_self n, top, fun k hlo hhi => absurd hhi (by omega)⟩

/-- No highest set bit below n: no bit below n is set (R428). -/
theorem highestSet_eq_none {a : Word} {n : Nat} (h : highestSet a n = none) : ∀ k < n, bitAt a k = false := by
  induction n with
  | zero => exact fun k hk => absurd hk (Nat.not_lt_zero k)
  | succ n ih =>
    rw [highestSet_succ] at h
    cases top : bitAt a n
    · rw [top, if_neg Bool.false_ne_true] at h
      intro k hk
      rcases Nat.lt_or_eq_of_le (Nat.le_of_lt_succ hk) with lower | rfl
      · exact ih h k lower
      · exact top
    · rw [top, if_pos rfl] at h
      exact absurd h nofun

/-- The number of the field's highest set bit, or all ones (R428). -/
def topOfField (f : BitField) : Word := (highestSet (f.data &&& bfMask f) 64).elim (BitVec.allOnes 64) (BitVec.ofNat 64)

theorem execBfffo_eq (rt : RegNo) (rg : BitVec 3) (da : BitVec 16) (bw bo : BitVec 6) (s : State) :
    execBfffo rt rg da bw bo s = writeX rt (topOfField (bfOperands s rg da bw bo)) s := by
  delta execBfffo topOfField
  cases highestSet ((bfOperands s rg da bw bo).data &&& bfMask (bfOperands s rg da bw bo)) 64 <;> rfl

/-- It is the number of the highest of the data's bits in the field, and all ones when these are all clear (R428). -/
theorem topOfField_spec (f : BitField) :
    (∃ n < 64, f.has n = true ∧ bitAt f.data n = true ∧ topOfField f = BitVec.ofNat 64 n ∧
      ∀ k, n < k → k < 64 → f.has k = true → bitAt f.data k = false) ∨
    (topOfField f = BitVec.allOnes 64 ∧ ∀ k < 64, f.has k = true → bitAt f.data k = false) := by
  have masked (k : Nat) (hk : k < 64) : bitAt (f.data &&& bfMask f) k = (bitAt f.data k && f.has k) := by
    rw [bitAt_and, bitAt_bfMask f hk]
  have clear (k : Nat) (hk : k < 64) (h : bitAt (f.data &&& bfMask f) k = false) (inside : f.has k = true) :
      bitAt f.data k = false := by
    rwa [masked k hk, inside, Bool.and_true] at h
  delta topOfField
  cases found : highestSet (f.data &&& bfMask f) 64 with
  | some n =>
    obtain ⟨small, set, above⟩ := highestSet_eq_some found
    rw [masked n small, Bool.and_eq_true] at set
    obtain ⟨data, inside⟩ := set
    exact .inl ⟨n, small, inside, data, rfl, fun k hlo hk => clear k hk (above k hlo hk)⟩
  | none => exact .inr ⟨rfl, fun k hk => clear k hk (highestSet_eq_none found k hk)⟩

end bits

/-- An instruction that ends as a write of x[rt] gives its value, or takes the stack fault. -/
theorem gives_of_writeX {i : Instr} {rt : RegNo} {v : Word} {s : State} {p : Word → Prop}
    (h : exec i s = writeX rt v s) (hp : p v) :
    ∃ v, p v ∧ (stackFault s s.rs rt v = false → exec i s = .next (s.setX rt v).advance) ∧
      (stackFault s s.rs rt v = true → exec i s = .next (raise causeSTK s)) :=
  ⟨v, hp, fun hs => h.trans (writeX_of_not_stackFault hs), fun hs => h.trans (writeX_of_stackFault hs)⟩

/-- Settles O45: each instruction ends as a write of a word whose bits are those of the field. -/
theorem bitfieldResults : Obligations.BitfieldResults := by
  intro rt rg da bw bo s f inside len gives
  refine ⟨gives_of_writeX (exec_bfclr s rt rg da bw bo) fun k hk => ?_,
    gives_of_writeX (exec_bfchg s rt rg da bw bo) fun k hk => ?_,
    gives_of_writeX (exec_bfins s rt rg da bw bo) fun k hk => bitAt_bfInsert _ _ hk,
    gives_of_writeX (exec_bfinsi s rt rg da bw bo) fun k hk => bitAt_bfInsert _ _ hk,
    gives_of_writeX (exec_bfextu s rt rg da bw bo) fun k hk => bitAt_bfExtract _ hk,
    gives_of_writeX (exec_bfext s rt rg da bw bo) fun k hk => bitAt_bfExtract_signed _ hk,
    gives_of_writeX (execBfffo_eq rt rg da bw bo s) (topOfField_spec f)⟩
  · rw [bitAt_and, bitAt_not _ hk, bitAt_bfMask _ hk]
    rfl
  · rw [bitAt_xor, bitAt_bfMask _ hk]
    rfl

end Sys2Proof.Machine

namespace Sys2Proof.Machine

/-! ## Quotient and remainder (42_muldiv R455 to R464) -/

section quotients

variable {w : Nat} {a b : BitVec w}

/-- A word is its unsigned number. -/
theorem ofInt_toNat (v : BitVec w) : BitVec.ofInt w (v.toNat : Int) = v := by
  rw [BitVec.ofInt_natCast, BitVec.ofNat_toNat, BitVec.setWidth_eq]

/-- The exact identity of quotient and remainder carries over to words, for any numbers that dividend and divisor are
read as. -/
theorem ofInt_tdiv_mul_add_ofInt_tmod {n m : Int} (hn : BitVec.ofInt w n = a) (hm : BitVec.ofInt w m = b) :
    BitVec.ofInt w (n.tdiv m) * b + BitVec.ofInt w (n.tmod m) = a := by
  rw [← hm, ← BitVec.ofInt_mul, ← BitVec.ofInt_add, Int.tdiv_mul_add_tmod, hn]

/-- The signed quotient and remainder read both operands as signed (R456, R461). -/
theorem fnDivS_mul_add_fnModS (d : DivZero) (hb : b ≠ 0) : fnDivS d w a b * b + fnModS d w a b = a := by
  rw [fnDivS, fnModS, if_neg hb, if_neg hb]
  exact ofInt_tdiv_mul_add_ofInt_tmod BitVec.ofInt_toInt BitVec.ofInt_toInt

/-- The unsigned ones read both as unsigned (R458, R463). -/
theorem fnDivU_mul_add_fnModU (d : DivZero) (hb : b ≠ 0) : fnDivU d w a b * b + fnModU d w a b = a := by
  simp only [fnDivU_eq, fnModU_eq, if_neg hb, Int.ofNat_tdiv, Int.ofNat_tmod]
  exact ofInt_tdiv_mul_add_ofInt_tmod (ofInt_toNat a) (ofInt_toNat b)

/-- The mixed ones read the dividend as signed and the divisor as unsigned (R460, R464). -/
theorem fnDivSU_mul_add_fnModSU (d : DivZero) (hb : b ≠ 0) : fnDivSU d w a b * b + fnModSU d w a b = a := by
  rw [fnDivSU, fnModSU, if_neg hb, if_neg hb]
  exact ofInt_tdiv_mul_add_ofInt_tmod BitVec.ofInt_toInt (ofInt_toNat b)

end quotients

section wholeWord

variable {i j : Instr} {rt : RegNo} {a b q r : Word} {s : State}

/-- A checked division of whole words by a divisor that is not 0 only writes its result. -/
theorem finishX_divChecked (f : DivZero → LaneFn2) (hb : b ≠ 0) :
    finishX rt (divChecked 7 f a b s) = writeX rt (f s.cfg.divByZero 64 a b) s := by
  have notZero : anyLane 7 divisorZero a b = false := (anyLane_whole (.inr rfl) _ _ _).trans (beq_false_of_ne hb)
  rw [divChecked, notZero, withAec_of_not, lanes2_whole _ _ _ (.inr rfl)]
  rfl

/-- An unchecked one only writes its result, whatever the divisor. -/
theorem finishX_divQuiet (f : DivZero → LaneFn2) :
    finishX rt (divQuiet 7 f a b s) = writeX rt (f s.cfg.divByZero 64 a b) s := by
  rw [divQuiet, lanes2_whole _ _ _ (.inr rfl)]
  rfl

/-- Two instructions that write quotient and remainder to one register, each from the same state. -/
theorem quotient_mul_add_remainder_reads_back (hrt : rt ≠ 0) (hs : s.cfg.stackBounds = none) (hw : StoreWf 0 s.xs)
    (hi : exec i s = writeX rt q s) (hj : exec j s = writeX rt r s) (h : q * b + r = a) :
    ∃ t u, exec i s = .next t ∧ exec j s = .next u ∧ t.reg s.rs rt * b + u.reg s.rs rt = a := by
  obtain ⟨t, ht, quotient⟩ := writeX_reads_back (v := q) hrt hs hw
  obtain ⟨u, hu, remainder⟩ := writeX_reads_back (v := r) hrt hs hw
  exact ⟨t, u, hi.trans ht, hj.trans hu, by rw [quotient, remainder, h]⟩

end wholeWord

/-- Settles O40: each division and its modulus write the quotient and the remainder of one pair of numbers. -/
theorem quotientAndRemainderAgree : Obligations.QuotientAndRemainderAgree := by
  intro s rt ra rb imm hrt hs hw agree
  refine ⟨fun hb => ⟨?_, ?_, ?_⟩, fun hb => ?_⟩
  · exact quotient_mul_add_remainder_reads_back hrt hs hw ((exec_div s rt ra rb 7).trans (finishX_divChecked _ hb))
      ((exec_mod s rt ra rb 7).trans (finishX_divChecked _ hb)) (fnDivS_mul_add_fnModS _ hb)
  · exact quotient_mul_add_remainder_reads_back hrt hs hw ((exec_divu s rt ra rb 7).trans (finishX_divQuiet _))
      ((exec_modu s rt ra rb 7).trans (finishX_divQuiet _)) (fnDivU_mul_add_fnModU _ hb)
  · exact quotient_mul_add_remainder_reads_back hrt hs hw ((exec_divsu s rt ra rb 7).trans (finishX_divChecked _ hb))
      ((exec_modsu s rt ra rb 7).trans (finishX_divChecked _ hb)) (fnDivSU_mul_add_fnModSU _ hb)
  · exact quotient_mul_add_remainder_reads_back hrt hs hw ((exec_divi s rt ra imm).trans (finishX_divChecked _ hb))
      ((exec_modi s rt ra imm).trans (finishX_divChecked _ hb)) (fnDivS_mul_add_fnModS _ hb)

end Sys2Proof.Machine

namespace Sys2Proof.Machine

/-! ## Reads and writes of memory, by their access (20_memory R150, R151) -/

section memoryAccess

variable {s t : State} {ea : Word} {n pa : Nat} {c : BitVec 8}

theorem memRead_of_ok (h : dataAccess ea n .read s = .ok pa t) : memRead ea n s = .ok (busRead t n pa) t := by
  rw [memRead, h, Res.ok_andThen]

theorem memRead_of_exc (h : dataAccess ea n .read s = .exc c t) : memRead ea n s = .exc c t := by
  rw [memRead, h, Res.exc_andThen]

theorem memWrite_of_ok (v : Nat) (h : dataAccess ea n .write s = .ok pa t) :
    memWrite ea n v s = .ok () (memCommit n pa v t) := by
  rw [memWrite, h, Res.ok_andThen]

theorem memWrite_of_exc (v : Nat) (h : dataAccess ea n .write s = .exc c t) : memWrite ea n v s = .exc c t := by
  rw [memWrite, h, Res.exc_andThen]

/-- A signed load whose checks raise takes their exception, whatever its target. -/
theorem loadSigned_of_exc (rt : RegNo) (h : dataAccess ea n .read s = .exc c t) :
    loadSigned n rt ea s = .next (raise c t) := by
  rw [loadSigned, memRead_of_exc h, Res.exc_andThen, Res.retire_exc]

/-- A store whose checks raise takes their exception and stores nothing. -/
theorem storeWord_of_exc (v : Word) (h : dataAccess ea n .write s = .exc c t) :
    storeWord n v ea s = .next (raise c t) := by
  rw [storeWord, memWrite_of_exc _ h, Res.retire_exc]

end memoryAccess

/-! ## Stores (43_memory_ops R505 to R510, 46_compressed R739 to R746) -/

section stores

variable {i : Instr} {n : Nat} {ea v : State → Word}

/-- An instruction that is a store stores, or raises what its checks raise. -/
theorem storesTo_of_storeWord (h : ∀ s, exec i s = storeWord n (v s) (ea s) s) : StoresTo i n ea v :=
  fun s => ⟨fun _ _ access => (h s).trans (storeWord_of_ok (v s) access),
    fun _ _ fault => (h s).trans (storeWord_of_exc (v s) fault)⟩

end stores

/-- Settles O30: each instruction is a store of its register's low bytes at its effective address. -/
theorem storesCompleteWithTheBytes : Obligations.StoresCompleteWithTheBytes := by
  intro rb ra rc d d5 d4 q r sc
  exact ⟨
    -- general registers
    storesTo_of_storeWord (exec_sb · rb ra d), storesTo_of_storeWord (exec_sbx · rb ra rc sc),
    storesTo_of_storeWord (exec_sc · rb ra d), storesTo_of_storeWord (exec_scx · rb ra rc sc),
    storesTo_of_storeWord (exec_sh · rb ra d), storesTo_of_storeWord (exec_shx · rb ra rc sc),
    storesTo_of_storeWord (exec_sw · rb ra d), storesTo_of_storeWord (exec_swx · rb ra rc sc),
    -- floating-point registers
    storesTo_of_storeWord (exec_sfs · rb ra d), storesTo_of_storeWord (exec_sfsx · rb ra rc sc),
    storesTo_of_storeWord (exec_sfd · rb ra d), storesTo_of_storeWord (exec_sfdx · rb ra rc sc),
    storesTo_of_storeWord (exec_sfq · rb ra d), storesTo_of_storeWord (exec_sfqx · rb ra rc sc),
    -- compressed forms
    storesTo_of_storeWord (exec_shSp · rb d5), storesTo_of_storeWord (exec_swSp · rb d5),
    storesTo_of_storeWord (exec_shFp · rb d5), storesTo_of_storeWord (exec_swFp · rb d5),
    storesTo_of_storeWord (exec_shPr · r q d4), storesTo_of_storeWord (exec_swPr · r q d4)⟩

/-! ## What a store leaves (20_memory R151, R172) -/

section frame

variable {s t : State}

@[simp] theorem setBusByte_csr (pa : Nat) (b : Byte) : (setBusByte s pa b).csr = s.csr := by
  obtain ⟨m, mt, st, hs, -⟩ := setBusByte_frame s pa b
  rw [hs]

/-- The bytes of a store go to the bus one after the other, each in a state with the same parameters and control
registers: a property that each of them keeps is kept by the whole. -/
theorem busWrite_keeps {P : State → Prop} : ∀ (n pa v : Nat) (s : State),
    (∀ k < n, ∀ u b, u.cfg = s.cfg → u.csr = s.csr → P u → P (setBusByte u ((pa + k) % 2 ^ s.cfg.paBits) b)) →
    P s → P (busWrite s n pa v)
  | 0, _, _, _, _, h => h
  | n + 1, pa, v, s, step, h => by
    rw [busWrite]
    refine busWrite_keeps n (pa + 1) (v / 256) _ (fun k hk u b hcfg hcsr hu => ?_)
      (step 0 n.succ_pos s _ rfl rfl h)
    rw [setBusByte_cfg] at hcfg ⊢
    rw [setBusByte_csr] at hcsr
    rw [Nat.add_right_comm pa 1 k]
    exact step (k + 1) (Nat.succ_lt_succ hk) u b hcfg hcsr hu

/-- A byte outside the map-table window reaches no map table. -/
theorem setBusByte_mapTab_of_outside {pa : Nat} (b : Byte) (outside : inMapWindow s.cfg pa = false) :
    (setBusByte s pa b).mapTab = s.mapTab := by
  rw [setBusByte, outside, if_neg Bool.false_ne_true]
  split
  · rfl
  · obtain ⟨st, hs, -⟩ := setMemByte_frame s pa b
    rw [hs]

/-- A byte of the window reaches its own entry alone. -/
theorem mapTab_setBusByte_other {pa e : Nat} (b : Byte)
    (other : inMapWindow s.cfg pa = true → e ≠ windowKey s ((pa - 0xFFDC4000) / 4)) :
    storeGet 0 (setBusByte s pa b).mapTab e = storeGet 0 s.mapTab e := by
  cases inside : inMapWindow s.cfg pa with
  | false => rw [setBusByte_mapTab_of_outside b inside]
  | true =>
    rw [setBusByte, inside, if_pos rfl, setWindowByte]
    exact storeGet_storeSet_other _ _ _ _ (other inside) _

/-- A store with no byte in the window leaves the map tables. -/
theorem busWrite_mapTab_of_outside (n pa v : Nat)
    (outside : ∀ k < n, inMapWindow s.cfg ((pa + k) % 2 ^ s.cfg.paBits) = false) :
    (busWrite s n pa v).mapTab = s.mapTab :=
  busWrite_keeps (P := fun u => u.mapTab = s.mapTab) n pa v s
    (fun k hk _ b hcfg _ hu => (setBusByte_mapTab_of_outside b (hcfg ▸ outside k hk)).trans hu) rfl

/-- A store to the window leaves every entry that none of its bytes is part of. -/
theorem mapTab_busWrite_other {e : Nat} (n pa v : Nat)
    (other : ∀ k < n, inMapWindow s.cfg ((pa + k) % 2 ^ s.cfg.paBits) = true →
      e ≠ windowKey s (((pa + k) % 2 ^ s.cfg.paBits - 0xFFDC4000) / 4)) :
    storeGet 0 (busWrite s n pa v).mapTab e = storeGet 0 s.mapTab e :=
  busWrite_keeps (P := fun u => storeGet 0 u.mapTab e = storeGet 0 s.mapTab e) n pa v s
    (fun k hk _ b hcfg hcsr hu => (mapTab_setBusByte_other b fun inside => by
      rw [windowKey, hcsr]
      exact other k hk (hcfg ▸ inside)).trans hu) rfl

/-- The bytes of an access of n bytes at a physical address. -/
abbrev accessByte (s : State) (pa k : Nat) : Nat := (pa + k) % 2 ^ s.cfg.paBits

/-- What a store of n bytes at pa leaves: the map tables outside the window's entries that it reaches, the other bytes
of memory, and all registers; it goes on to the next instruction. -/
structure StoreLeaves (n pa : Nat) (s u : State) : Prop where
  mapTab : (∀ k < n, inMapWindow s.cfg (accessByte s pa k) = false) → u.mapTab = s.mapTab
  entries : ∀ e, (∀ k < n, inMapWindow s.cfg (accessByte s pa k) = true →
    e ≠ windowKey s ((accessByte s pa k - 0xFFDC4000) / 4)) → storeGet 0 u.mapTab e = storeGet 0 s.mapTab e
  bytes : ∀ a, (∀ k < n, a ≠ accessByte s pa k) → memByte u a = memByte s a
  registers : u.xs = s.xs ∧ u.v = s.v ∧ u.vm = s.vm ∧ u.vl = s.vl ∧ u.csr = s.csr ∧ u.ctr = s.ctr ∧
    u.tagEnable = s.tagEnable ∧ u.vchain = s.vchain ∧ u.cfg = s.cfg ∧ u.pc = s.nextPc

/-- A committed store leaves the rest. -/
theorem storeLeaves_memCommit (n pa v : Nat) (s : State) : StoreLeaves n pa s (memCommit n pa v s).advance := by
  rw [memCommit_eq]
  refine ⟨busWrite_mapTab_of_outside n pa v, fun _ => mapTab_busWrite_other n pa v,
    fun a => memByte_busWrite_other a n pa v s, ?_⟩
  obtain ⟨m, mt, st, written, -⟩ := busWrite_frame n pa v s
  rw [written]
  exact ⟨rfl, rfl, rfl, rfl, rfl, rfl, rfl, rfl, rfl, rfl⟩

/-- The checks before it do so too: they change the TLB and the index of the free values alone. -/
theorem storeLeaves_of_access {ea : Word} {n pa v : Nat} (access : dataAccess ea n .write s = .ok pa t) :
    StoreLeaves n pa s (memCommit n pa v t).advance := by
  obtain ⟨-, -, -, tl, i, rfl⟩ := dataAccess_eq_ok access
  obtain ⟨mapTab, entries, bytes, registers⟩ := storeLeaves_memCommit n pa v { s with tlb := tl, freeIdx := i }
  exact ⟨mapTab, entries, bytes, registers⟩

/-- An instruction that stores leaves the rest. -/
theorem StoresTo.leaves {i : Instr} {n pa : Nat} {ea v : State → Word} (h : StoresTo i n ea v)
    (access : dataAccess (ea s) n .write s = .ok pa t) : ∃ u, exec i s = .next u ∧ StoreLeaves n pa s u :=
  ⟨_, (h s).1 pa t access, storeLeaves_of_access access⟩

end frame

/-- Settles O31: each store by what it stores (O30) and what such a store leaves. -/
theorem storesLeaveOtherBytesAndRegisters : Obligations.StoresLeaveOtherBytesAndRegisters := by
  intro rb ra rc d sc frame
  have frame_of_storesTo {i : Instr} {n : Nat} {ea v : State → Word} (h : StoresTo i n ea v) : frame i n ea := by
    intro s t pa access
    obtain ⟨u, next, ⟨mapTab, entries, bytes, registers⟩⟩ := h.leaves access
    exact ⟨u, next, mapTab, entries, bytes, registers⟩
  obtain ⟨hsb, hsbx, hsc, hscx, hsh, hshx, hsw, hswx, hsfs, hsfsx, hsfd, hsfdx, hsfq, hsfqx, -⟩ :=
    storesCompleteWithTheBytes rb ra rc d 0 0 0 0 sc
  exact ⟨frame_of_storesTo hsb, frame_of_storesTo hsbx, frame_of_storesTo hsc, frame_of_storesTo hscx,
    frame_of_storesTo hsh, frame_of_storesTo hshx, frame_of_storesTo hsw, frame_of_storesTo hswx,
    frame_of_storesTo hsfs, frame_of_storesTo hsfsx, frame_of_storesTo hsfd, frame_of_storesTo hsfdx,
    frame_of_storesTo hsfq, frame_of_storesTo hsfqx⟩

end Sys2Proof.Machine

namespace Sys2Proof.Machine

/-! ## Loads (43_memory_ops R485 to R498, 46_compressed R735 to R744) -/

section loads

variable {i : Instr} {n : Nat} {rt : RegNo} {ea : State → Word} {val : Nat → Word}

/-- An instruction is a load if it writes what its access reads, and raises what its access raises. -/
theorem loadsX_of_access
    (ok : ∀ s pa t, dataAccess (ea s) n .read s = .ok pa t → exec i s = writeX rt (val (busRead t n pa)) t)
    (exc : ∀ s c t, dataAccess (ea s) n .read s = .exc c t → exec i s = .next (raise c t)) : LoadsX i n rt ea val :=
  fun s => ⟨fun pa t access hs => (ok s pa t access).trans (writeX_of_not_stackFault hs),
    fun pa t access hs => (ok s pa t access).trans (writeX_of_stackFault hs), exc s⟩

theorem loadsX_of_loadSigned (h : ∀ s, exec i s = loadSigned n rt (ea s) s) : LoadsX i n rt ea (signBytes n) :=
  loadsX_of_access (fun s _ _ access => (h s).trans (loadSigned_of_ok rt access))
    fun s _ _ fault => (h s).trans (loadSigned_of_exc rt fault)

theorem loadsX_of_loadZero (h : ∀ s, exec i s = loadZero n rt (ea s) s) : LoadsX i n rt ea zeroBytes :=
  loadsX_of_access (fun s _ _ access => (h s).trans (loadZero_of_ok access))
    fun s _ _ fault => (h s).trans (loadZero_of_exc fault)

/-- A load to the floating-point set differs in the register it writes (10_state R30). -/
theorem loadsF_of_loadFloat (h : ∀ s, exec i s = loadFloat n rt (ea s) s) : LoadsF i n rt ea := by
  intro s
  refine ⟨fun pa t access hs => ?_, fun pa t access hs => ?_, fun c t fault => ?_⟩
  · rw [h s, loadFloat, memRead_of_ok access, Res.ok_andThen, putF, putReg_of_not_stackFault hs, Res.retire_ok]
  · rw [h s, loadFloat, memRead_of_ok access, Res.ok_andThen, putF, putReg_eq_exc.2 ⟨hs, rfl, rfl⟩, Res.retire_exc]
  · rw [h s, loadFloat, memRead_of_exc fault, Res.exc_andThen, Res.retire_exc]

end loads

/-- Settles O29: each instruction by the load it is; the primed forms name their registers through the state. -/
theorem loadsCompleteWithTheValue : Obligations.LoadsCompleteWithTheValue := by
  intro rt ra rc d d5 d4 q r sc
  refine ⟨
    -- displacement forms
    loadsX_of_loadSigned (exec_lb · rt ra d), loadsX_of_loadZero (exec_lbu · rt ra d),
    loadsX_of_loadSigned (exec_lc · rt ra d), loadsX_of_loadZero (exec_lcu · rt ra d),
    loadsX_of_loadSigned (exec_lh · rt ra d), loadsX_of_loadZero (exec_lhu · rt ra d),
    loadsX_of_loadZero (exec_lw · rt ra d), loadsX_of_loadZero (exec_ld · rt ra d),
    loadsX_of_loadSigned (exec_lvc · rt ra d), loadsX_of_loadZero (exec_lvcu · rt ra d),
    loadsX_of_loadSigned (exec_lvh · rt ra d), loadsX_of_loadZero (exec_lvhu · rt ra d),
    loadsX_of_loadZero (exec_lvw · rt ra d),
    -- indexed forms
    loadsX_of_loadSigned (exec_lbx · rt ra rc sc), loadsX_of_loadZero (exec_lbux · rt ra rc sc),
    loadsX_of_loadSigned (exec_lcx · rt ra rc sc), loadsX_of_loadZero (exec_lcux · rt ra rc sc),
    loadsX_of_loadSigned (exec_lhx · rt ra rc sc), loadsX_of_loadZero (exec_lhux · rt ra rc sc),
    loadsX_of_loadZero (exec_lwx · rt ra rc sc),
    loadsX_of_loadSigned (exec_lvbx · rt ra rc sc), loadsX_of_loadZero (exec_lvbux · rt ra rc sc),
    loadsX_of_loadSigned (exec_lvcx · rt ra rc sc), loadsX_of_loadZero (exec_lvcux · rt ra rc sc),
    loadsX_of_loadSigned (exec_lvhx · rt ra rc sc), loadsX_of_loadZero (exec_lvhux · rt ra rc sc),
    loadsX_of_loadZero (exec_lvwx · rt ra rc sc),
    -- floating-point registers
    loadsF_of_loadFloat (exec_lfs · rt ra d), loadsF_of_loadFloat (exec_lfsx · rt ra rc sc),
    loadsF_of_loadFloat (exec_lfd · rt ra d), loadsF_of_loadFloat (exec_lfdx · rt ra rc sc),
    loadsF_of_loadFloat (exec_lfq · rt ra d), loadsF_of_loadFloat (exec_lfqx · rt ra rc sc),
    -- compressed forms from the stack and frame pointers
    loadsX_of_loadSigned (exec_lhSp · rt d5), loadsX_of_loadZero (exec_lwSp · rt d5),
    loadsX_of_loadSigned (exec_lhFp · rt d5), loadsX_of_loadZero (exec_lwFp · rt d5),
    writesX_of_writeX (exec_leax · rt ra rc sc), fun s pa t c => ⟨?_, ?_, ?_, ?_⟩⟩
  · intro access hs
    exact (exec_lhPr s r q d4).trans ((loadSigned_of_ok _ access).trans (writeX_of_not_stackFault hs))
  · intro fault
    exact (exec_lhPr s r q d4).trans (loadSigned_of_exc _ fault)
  · intro access hs
    exact (exec_lwPr s r q d4).trans ((loadZero_of_ok access).trans (writeX_of_not_stackFault hs))
  · intro fault
    exact (exec_lwPr s r q d4).trans (loadZero_of_exc fault)

end Sys2Proof.Machine

namespace Sys2Proof.Machine

/-! ## A store together with a register write (43_memory_ops R515, R545, R550) -/

section storeAndWrite

variable {i : Instr} {s : State} {rt : RegNo} {r : Word}

theorem guardX_of_not_stackFault (h : stackFault s s.rs rt r = false) : guardX rt r s = .ok () s :=
  guardX_eq_ok.2 ⟨h, rfl⟩

theorem guardX_of_stackFault (h : stackFault s s.rs rt r = true) : guardX rt r s = .exc causeSTK s := if_pos h

/-- Memory and register are written together. -/
theorem commitWithX_of_not_stackFault (n pa v : Nat) (h : stackFault s s.rs rt r = false) :
    commitWithX n pa v rt r s = .ok () ((memCommit n pa v s).setX rt r) := by
  rw [commitWithX, guardX_of_not_stackFault h, Res.ok_andThen]

/-- Where the stack bounds forbid the register, memory is not written either. -/
theorem commitWithX_of_stackFault (n pa v : Nat) (h : stackFault s s.rs rt r = true) :
    commitWithX n pa v rt r s = .exc causeSTK s := by
  rw [commitWithX, guardX_of_stackFault h, Res.exc_andThen]

/-- An instruction that pushes stores its value below x[ra] and writes that address, or raises. -/
theorem pushesTo_of_pushTo {ra : RegNo} {v : State → Word} (h : ∀ s, exec i s = pushTo (v s) rt ra s) :
    PushesTo i rt (fun s => s.x ra - 8) v := by
  intro s
  refine ⟨fun pa t access hs => ?_, fun pa t access hs => ?_, fun c t fault => ?_⟩
  · rw [h s, pushTo, access, Res.ok_andThen, commitWithX_of_not_stackFault _ _ _ hs, Res.retire_ok]
  · rw [h s, pushTo, access, Res.ok_andThen, commitWithX_of_stackFault _ _ _ hs, Res.retire_exc]
  · rw [h s, pushTo, fault, Res.exc_andThen, Res.retire_exc]

end storeAndWrite

/-! ## INC: a read and a write of one word (43_memory_ops R520) -/

section increment

variable {s t t' : State} {ea : Word} {pa pa' : Nat} {c : BitVec 8}

theorem incAt_of_ok (amt : BitVec 5) (read : dataAccess ea 8 .read s = .ok pa t)
    (write : dataAccess ea 8 .write t = .ok pa' t') :
    incAt ea amt s = .next (memCommit 8 pa' (zeroBytes (busRead t 8 pa) + sext64 amt).toNat t').advance := by
  rw [incAt, memRead_of_ok read, Res.ok_andThen, memWrite_of_ok _ write, Res.retire_ok]

theorem incAt_of_read_exc (amt : BitVec 5) (read : dataAccess ea 8 .read s = .exc c t) :
    incAt ea amt s = .next (raise c t) := by
  rw [incAt, memRead_of_exc read, Res.exc_andThen, Res.retire_exc]

theorem incAt_of_write_exc (amt : BitVec 5) (read : dataAccess ea 8 .read s = .ok pa t)
    (write : dataAccess ea 8 .write t = .exc c t') : incAt ea amt s = .next (raise c t') := by
  rw [incAt, memRead_of_ok read, Res.ok_andThen, memWrite_of_exc _ write, Res.retire_exc]

end increment

/-! ## CAS: the word read decides (43_memory_ops R545) -/

section compareSwap

variable {s t : State} {ea : Word} {pa : Nat} {c : BitVec 8}

theorem compareSwap_of_read_exc (rt : RegNo) (read : dataAccess ea 8 .read s = .exc c t) :
    compareSwap rt ea s = .next (raise c t) := by
  rw [compareSwap, memRead_of_exc read, Res.exc_andThen, Res.retire_exc]

/-- The word equals the CAS register: what is left is the store of x[rt] with the register write of 1. -/
theorem compareSwap_of_equal (rt : RegNo) (read : dataAccess ea 8 .read s = .ok pa t)
    (equal : zeroBytes (busRead t 8 pa) = t.csr.cas) :
    compareSwap rt ea s =
      ((dataAccess ea 8 .write t).andThen fun p u => commitWithX 8 p (s.x rt).toNat rt 1 u).retire := by
  rw [compareSwap, memRead_of_ok read, Res.ok_andThen, if_pos equal]

/-- It differs: what is left is to keep the word in the CAS register, with the register write of 0. -/
theorem compareSwap_of_different (rt : RegNo) (read : dataAccess ea 8 .read s = .ok pa t)
    (different : zeroBytes (busRead t 8 pa) ≠ t.csr.cas) :
    compareSwap rt ea s = ((guardX rt 0 t).andThen fun _ u =>
      .ok () ({ u with csr := { u.csr with cas := zeroBytes (busRead t 8 pa) } }.setX rt 0)).retire := by
  rw [compareSwap, memRead_of_ok read, Res.ok_andThen, if_neg different]

end compareSwap

/-- Settles O32: PUSH by its store and write, INC by its two accesses, CAS by the comparison. -/
theorem pushIncrementAndSwapComplete : Obligations.PushIncrementAndSwapComplete := by
  refine ⟨fun rb rt ra imm => ⟨pushesTo_of_pushTo (exec_push · rb rt ra), pushesTo_of_pushTo (exec_pushc · rt ra imm),
    pushesTo_of_pushTo (exec_push16 · rb)⟩, ?_, ?_⟩
  · intro amt ra rc imm sc s t t' pa pa' i ea form
    have isIncrement : exec i s = incAt ea amt s := by
      obtain ⟨rfl, rfl⟩ | ⟨rfl, rfl⟩ := form
      · exact exec_inc s amt ra imm
      · exact exec_incx s amt ra rc sc
    rw [isIncrement]
    exact ⟨incAt_of_ok amt, fun _ => incAt_of_read_exc amt, fun _ => incAt_of_write_exc amt⟩
  · intro rt ra rc disp sc s t pa i ea form
    have isSwap : exec i s = compareSwap rt ea s := by
      obtain ⟨rfl, rfl⟩ | ⟨rfl, rfl⟩ := form
      · exact exec_cas s rt ra disp
      · exact exec_casx s rt ra rc sc
    rw [isSwap]
    refine ⟨fun _ => compareSwap_of_read_exc rt, fun read equal => ?_, fun read different => ?_⟩
    · rw [compareSwap_of_equal rt read equal]
      refine ⟨fun pa' t' write hs => ?_, fun pa' t' write hs => ?_, fun c t' write => ?_⟩
      · rw [write, Res.ok_andThen, commitWithX_of_not_stackFault _ _ _ hs, Res.retire_ok]
      · rw [write, Res.ok_andThen, commitWithX_of_stackFault _ _ _ hs, Res.retire_exc]
      · rw [write, Res.exc_andThen, Res.retire_exc]
    · rw [compareSwap_of_different rt read different]
      refine ⟨fun hs => ?_, fun hs => ?_⟩
      · rw [guardX_of_not_stackFault hs, Res.ok_andThen, Res.retire_ok, zeroBytes]
      · rw [guardX_of_stackFault hs, Res.exc_andThen, Res.retire_exc]

/-! ## The reservation (43_memory_ops R540) -/

section reservation

variable {s t : State} {ea : Word} {pa : Nat} {c : BitVec 8}

theorem loadReserved_of_ok {rt : RegNo} (read : dataAccess ea 8 .read s = .ok pa t)
    (hs : stackFault t t.rs rt (zeroBytes (busRead t 8 pa)) = false) :
    loadReserved rt ea s = .next (reserveWord ea pa (t.setX rt (zeroBytes (busRead t 8 pa)))).advance := by
  rw [loadReserved, read, Res.ok_andThen, putX, putReg_of_not_stackFault hs, Res.ok_andThen, Res.retire_ok, State.setX]

theorem loadReserved_of_exc (rt : RegNo) (read : dataAccess ea 8 .read s = .exc c t) :
    loadReserved rt ea s = .next (raise c t) := by
  rw [loadReserved, read, Res.exc_andThen, Res.retire_exc]

theorem storeConditional_of_exc (v : Word) (write : dataAccess ea 8 .write s = .exc c t) :
    storeConditional v ea s = .next (raise c t) := by
  rw [storeConditional, write, Res.exc_andThen, Res.retire_exc]

/-- The checks of the store leave the reservation, so the one that decides is the one before them. -/
theorem storeConditional_of_ok (v : Word) (write : dataAccess ea 8 .write s = .ok pa t) :
    storeConditional v ea s = .next (if t.resvValid = true ∧ t.resvAddr = ea
      then endReservation true (memCommit 8 pa v.toNat t) else endReservation false t).advance := by
  rw [storeConditional, write, Res.ok_andThen]
  obtain ⟨-, -, -, tl, k, rfl⟩ := dataAccess_eq_ok write
  by_cases held : s.resvValid = true ∧ s.resvAddr = ea
  · rw [if_pos (by simpa using held), if_pos held, Res.retire_ok]
  · rw [if_neg (by simpa using held), if_neg held, Res.retire_ok]

@[simp] theorem memCommit_csr (n pa v : Nat) (s : State) : (memCommit n pa v s).csr = s.csr := by
  obtain ⟨m, mt, st, rv, h, -⟩ := memCommit_frame n pa v s
  rw [h]

end reservation

/-- Settles O33: the load by what it reserves, the store by whether the reservation is held. -/
theorem reservationDecidesTheConditionalStore : Obligations.ReservationDecidesTheConditionalStore := by
  intro rt rb ra rc d sc s t pa i j ea c form
  obtain ⟨isLoad, isStore⟩ : exec i s = loadReserved rt ea s ∧ exec j s = storeConditional (s.x rb) ea s := by
    obtain ⟨rfl, rfl, rfl⟩ | ⟨rfl, rfl, rfl⟩ := form
    · exact ⟨exec_lwr s rt ra d, exec_swc s rb ra d⟩
    · exact ⟨exec_lwrx s rt ra rc sc, exec_swcx s rb ra rc sc⟩
  rw [isLoad, isStore]
  refine ⟨loadReserved_of_ok, loadReserved_of_exc rt, fun write held => ?_, fun write lost => ?_,
    storeConditional_of_exc _⟩
  · rw [storeConditional_of_ok _ write, if_pos held, endReservation, memCommit_csr]
  · rw [storeConditional_of_ok _ write, if_neg lost, endReservation]

/-! ## Atomic operations (43_memory_ops R550) -/

section atomic

variable {f : AmoFn} {rt ra : RegNo} {b : Word} {sz : BitVec 3} {s t t' : State} {pa pa' : Nat} {c : BitVec 8}

theorem sizeBits_of_lt (h : sz.toNat < 4) : sizeBits sz = 8 * 2 ^ sz.toNat := by
  rw [sizeBits, Nat.mod_eq_of_lt h]

/-- The size codes that bit 2 marks as reserved. -/
theorem bitAt_two_iff : bitAt sz 2 = true ↔ 4 ≤ sz.toNat := by
  revert sz
  decide

theorem amo_of_reserved_size (h : 4 ≤ sz.toNat) : amo f rt ra b sz s = reserved s := if_pos (bitAt_two_iff.2 h)

/-- An atomic operation on n bytes, n written out: the value read is combined and committed with the old one. -/
def atomicPart (f : AmoFn) (n : Nat) (rt : RegNo) (ea b : Word) (s : State) : Res Unit :=
  (memRead ea n s).andThen fun m s1 => (dataAccess ea n .write s1).andThen fun pa s2 =>
    commitWithX n pa (f (8 * n) (BitVec.ofNat (8 * n) m) b).toNat rt (sext64 (BitVec.ofNat (8 * n) m)) s2

theorem amo_of_size (h : sz.toNat < 4) : amo f rt ra b sz s = (atomicPart f (2 ^ sz.toNat) rt (s.x ra) b s).retire := by
  have bytes : 8 * 2 ^ sz.toNat / 8 = 2 ^ sz.toNat := Nat.mul_div_cancel_left _ (by decide)
  rw [amo, if_neg (mt bitAt_two_iff.1 (by omega)), sizeBits_of_lt h, bytes, atomicPart]

theorem atomicPart_of_read_exc {n : Nat} {ea : Word} (read : dataAccess ea n .read s = .exc c t) :
    atomicPart f n rt ea b s = .exc c t := by
  rw [atomicPart, memRead_of_exc read, Res.exc_andThen]

theorem atomicPart_of_write_exc {n : Nat} {ea : Word} (read : dataAccess ea n .read s = .ok pa t)
    (write : dataAccess ea n .write t = .exc c t') : atomicPart f n rt ea b s = .exc c t' := by
  rw [atomicPart, memRead_of_ok read, Res.ok_andThen, write, Res.exc_andThen]

theorem atomicPart_of_ok {n : Nat} {ea : Word} (read : dataAccess ea n .read s = .ok pa t)
    (write : dataAccess ea n .write t = .ok pa' t')
    (hs : stackFault t' t'.rs rt (sext64 (BitVec.ofNat (8 * n) (busRead t n pa))) = false) :
    atomicPart f n rt ea b s =
      .ok () ((memCommit n pa' (f (8 * n) (BitVec.ofNat (8 * n) (busRead t n pa)) b).toNat t').setX rt
        (sext64 (BitVec.ofNat (8 * n) (busRead t n pa)))) := by
  rw [atomicPart, memRead_of_ok read, Res.ok_andThen, write, Res.ok_andThen, commitWithX_of_not_stackFault _ _ _ hs]

/-- An instruction that is an atomic operation updates its word with f applied to its operand. -/
theorem atomicallyUpdates_of_amo {i : Instr} (f : AmoFn) {b : State → Word}
    (h : ∀ s, exec i s = amo f rt ra (b s) sz s) :
    AtomicallyUpdates i rt (fun s => s.x ra) sz fun s w m => f w m (b s) := by
  intro s
  refine ⟨fun hsz pa t pa' t' read write hs => ?_, fun hsz c t read => ?_, fun hsz pa t c t' read write => ?_,
    fun hsz => ?_⟩
  · rw [h s, amo_of_size hsz, atomicPart_of_ok read write hs, Res.retire_ok]
  · rw [h s, amo_of_size hsz, atomicPart_of_read_exc read, Res.retire_exc]
  · rw [h s, amo_of_size hsz, atomicPart_of_write_exc read write, Res.retire_exc]
  · exact (h s).trans ((amo_of_reserved_size hsz).trans (reserved_eq s))

/-- The two forms of an operation, with a register and with an immediate operand. -/
theorem atomicallyUpdates_both {i j : Instr} (f : AmoFn) {rb : RegNo} {imm : BitVec 5}
    (hi : ∀ s, exec i s = amo f rt ra (s.x rb) sz s) (hj : ∀ s, exec j s = amo f rt ra (zext64 imm) sz s) :
    AtomicallyUpdates i rt (fun s => s.x ra) sz (fun s w m => f w m (s.x rb)) ∧
      AtomicallyUpdates j rt (fun s => s.x ra) sz (fun _ w m => f w m (zext64 imm)) :=
  ⟨atomicallyUpdates_of_amo f hi, atomicallyUpdates_of_amo f hj⟩

end atomic

/-- Settles O34: each operation, in both forms, by its function. -/
theorem atomicOperationsReturnTheOldValue : Obligations.AtomicOperationsReturnTheOldValue := by
  intro rt ra rb imm sz acq rel both
  exact ⟨
    atomicallyUpdates_both amoSwap (exec_amoSwap · rt ra rb sz acq rel) (exec_amoSwapImm · rt ra imm sz acq rel),
    atomicallyUpdates_both amoAdd (exec_amoAdd · rt ra rb sz acq rel) (exec_amoAddImm · rt ra imm sz acq rel),
    atomicallyUpdates_both amoAnd (exec_amoAnd · rt ra rb sz acq rel) (exec_amoAndImm · rt ra imm sz acq rel),
    atomicallyUpdates_both amoOr (exec_amoOr · rt ra rb sz acq rel) (exec_amoOrImm · rt ra imm sz acq rel),
    atomicallyUpdates_both amoXor (exec_amoXor · rt ra rb sz acq rel) (exec_amoXorImm · rt ra imm sz acq rel),
    atomicallyUpdates_both amoShl (exec_amoShl · rt ra rb sz acq rel) (exec_amoShlImm · rt ra imm sz acq rel),
    atomicallyUpdates_both amoShr (exec_amoShr · rt ra rb sz acq rel) (exec_amoShrImm · rt ra imm sz acq rel),
    atomicallyUpdates_both amoMin (exec_amoMin · rt ra rb sz acq rel) (exec_amoMinImm · rt ra imm sz acq rel),
    atomicallyUpdates_both amoMax (exec_amoMax · rt ra rb sz acq rel) (exec_amoMaxImm · rt ra imm sz acq rel),
    atomicallyUpdates_both amoMinu (exec_amoMinu · rt ra rb sz acq rel) (exec_amoMinuImm · rt ra imm sz acq rel),
    atomicallyUpdates_both amoMaxu (exec_amoMaxu · rt ra rb sz acq rel) (exec_amoMaxuImm · rt ra imm sz acq rel)⟩

end Sys2Proof.Machine

namespace Sys2Proof.Machine

/-! ## Conditional branches (44_flow_control R580 to R597, 46_compressed R724 to R726) -/

/-- What the full-length and the compressed branches share: the target when taken, BD when taken to itself. -/
def goesWhen (taken : Bool) (itself : Prop) [Decidable itself] (target : Word) (s : State) : Outcome :=
  (if taken then (if itself then Res.exc causeBD s else .ok target s) else .ok s.nextPc s).retireTo

theorem branch_eq (taken : Bool) (disp : BitVec 11) (s : State) :
    branch taken disp s = goesWhen taken (disp = 0) (branchTarget s.pc disp) s := rfl

theorem shortBranch_eq {n : Nat} (taken : Bool) (d : BitVec n) (s : State) :
    shortBranch taken d s = goesWhen taken (d = 0) (shortTarget s.pc d) s := rfl

section goesWhen

variable {itself : Prop} [Decidable itself] (target : Word) (s : State)

theorem goesWhen_not_taken : goesWhen false itself target s = .next s.advance := rfl

theorem goesWhen_elsewhere (h : ¬itself) : goesWhen true itself target s = .next (s.setPc target) := by
  rw [goesWhen, if_pos rfl, if_neg h, Res.retireTo_ok]

theorem goesWhen_itself (h : itself) : goesWhen true itself target s = .next (raise causeBD s) := by
  rw [goesWhen, if_pos rfl, if_pos h, Res.retireTo_exc]

end goesWhen

section branches

variable {i : Instr} {taken : State → Bool}

theorem branchesTo_of_goesWhen {itself : Prop} [Decidable itself] {target : State → Word}
    (h : ∀ s, exec i s = goesWhen (taken s) itself (target s) s) : BranchesTo i itself taken target := by
  refine fun s => ⟨fun no => ?_, fun yes other => ?_⟩
  · rw [h s, no, goesWhen_not_taken]
  · rw [h s, yes, goesWhen_elsewhere _ _ other]

theorem branchesTo_of_branch {disp : BitVec 11} (h : ∀ s, exec i s = branch (taken s) disp s) :
    BranchesTo i (disp = 0) taken fun s => branchTarget s.pc disp :=
  branchesTo_of_goesWhen fun s => (h s).trans (branch_eq _ _ s)

theorem branchesTo_of_shortBranch {n : Nat} {d : BitVec n} (h : ∀ s, exec i s = shortBranch (taken s) d s) :
    BranchesTo i (d = 0) taken fun s => shortTarget s.pc d :=
  branchesTo_of_goesWhen fun s => (h s).trans (shortBranch_eq _ _ s)

/-- A branch to itself, where the instruction exists. -/
theorem raisesBd_of_goesWhen {ok : State → Prop} {itself : Prop} [Decidable itself] {target : State → Word}
    (h : ∀ s, ok s → exec i s = goesWhen (taken s) itself (target s) s) (toItself : itself) :
    RaisesBd i ok taken := by
  refine fun s hs => ⟨fun yes => ?_, fun no => ?_⟩
  · rw [h s hs, yes, goesWhen_itself _ _ toItself]
  · rw [h s hs, no, goesWhen_not_taken]

theorem raisesBd_of_branch (h : ∀ s, exec i s = branch (taken s) 0 s) : RaisesBd i (fun _ => True) taken :=
  raisesBd_of_goesWhen (fun s _ => (h s).trans (branch_eq _ _ s)) rfl

theorem raisesBd_of_shortBranch {n : Nat} (h : ∀ s, exec i s = shortBranch (taken s) (0 : BitVec n) s) :
    RaisesBd i (fun _ => True) taken :=
  raisesBd_of_goesWhen (fun s _ => (h s).trans (shortBranch_eq _ _ s)) rfl

end branches

/-! ## Floating-point branches (44_flow_control R597, 47_float R802) -/

section fpBranches

variable {i : Instr} {cond : Word → Word → Bool} {ra rb : RegNo} {disp : BitVec 11}

theorem fpInstr_of_unit {s : State} (h : s.cfg.numFpu ≠ 0) (m : Outcome) : fpInstr true s m = m := by
  rw [fpInstr, if_neg h, if_pos rfl]

theorem fpInstr_of_no_unit {s : State} (h : s.cfg.numFpu = 0) (ok : Bool) (m : Outcome) :
    fpInstr ok s m = reserved s := if_pos h

theorem fpBranch_of_unit {s : State} (h : s.cfg.numFpu ≠ 0) :
    fpBranch cond ra rb disp s = branch (cond (s.f ra) (s.f rb)) disp s := by
  rw [fpBranch, fpInstr_of_unit h]

theorem fpBranch_of_no_unit {s : State} (h : s.cfg.numFpu = 0) : fpBranch cond ra rb disp s = reserved s := by
  rw [fpBranch, fpInstr_of_no_unit h]

theorem fpBranchesTo_of_fpBranch (h : ∀ s, exec i s = fpBranch cond ra rb disp s) :
    FpBranchesTo i (disp = 0) (fun s => cond (s.f ra) (s.f rb)) fun s => branchTarget s.pc disp := by
  refine fun s => ⟨fun unit (no : cond _ _ = false) => ?_,
    fun unit (yes : cond _ _ = true) other => ?_, fun absent => ?_⟩
  · rw [h s, fpBranch_of_unit unit, branch_eq, no, goesWhen_not_taken]
  · rw [h s, fpBranch_of_unit unit, branch_eq, yes, goesWhen_elsewhere _ _ other]
  · exact (h s).trans ((fpBranch_of_no_unit absent).trans (reserved_eq s))

theorem raisesBd_of_fpBranch (h : ∀ s, exec i s = fpBranch cond ra rb 0 s) :
    RaisesBd i (fun s => s.cfg.numFpu ≠ 0) fun s => cond (s.f ra) (s.f rb) :=
  raisesBd_of_goesWhen (fun s unit => (h s).trans ((fpBranch_of_unit unit).trans (branch_eq _ _ s))) rfl

end fpBranches

/-- Settles O46: each instruction is a branch, a floating-point branch or a compressed one on its condition. -/
theorem branchesGoOrFallThrough : Obligations.BranchesGoOrFallThrough := by
  intro ra rb disp bit imm d10 d7 target
  exact ⟨
    -- two registers
    branchesTo_of_branch (exec_beq · ra rb disp), branchesTo_of_branch (exec_bne · ra rb disp),
    branchesTo_of_branch (exec_blt · ra rb disp), branchesTo_of_branch (exec_bge · ra rb disp),
    branchesTo_of_branch (exec_bltu · ra rb disp), branchesTo_of_branch (exec_bgeu · ra rb disp),
    branchesTo_of_branch (exec_band · ra rb disp), branchesTo_of_branch (exec_bor · ra rb disp),
    -- a bit or an immediate
    branchesTo_of_branch (exec_bbs · ra bit disp), branchesTo_of_branch (exec_bbc · ra bit disp),
    branchesTo_of_branch (exec_beqi · ra imm disp), branchesTo_of_branch (exec_bnei · ra imm disp),
    -- floating-point registers
    fpBranchesTo_of_fpBranch (exec_fbeq · ra rb disp), fpBranchesTo_of_fpBranch (exec_fbne · ra rb disp),
    fpBranchesTo_of_fpBranch (exec_fblt · ra rb disp), fpBranchesTo_of_fpBranch (exec_fbge · ra rb disp),
    fpBranchesTo_of_fpBranch (exec_fbun · ra rb disp),
    -- compressed
    branchesTo_of_shortBranch (exec_bra16 · d10), branchesTo_of_shortBranch (exec_beqz16 · ra d7),
    branchesTo_of_shortBranch (exec_bnez16 · ra d7)⟩

/-- The cause of the exception last raised (60_exceptions R960). -/
theorem raise_cause (c : BitVec 8) (s : State) : (field (raise c s).csr.cause0 0 8 : BitVec 8) = c :=
  field_append_low _ c

/-- An exception of an instruction returns to that instruction (00_scope R11, 60_exceptions R960). -/
theorem raise_return_address (c : BitVec 8) (s : State) : (raise c s).csr.epc.r0 = s.pc := rfl

/-- Settles O47: each instruction is the branch of its kind, and its target is the instruction itself. -/
theorem takenBranchToItselfRaisesBd : Obligations.TakenBranchToItselfRaisesBd := by
  refine ⟨fun s => ⟨raise_cause causeBD s, raise_return_address causeBD s⟩, fun ra rb bit imm => ⟨
    -- two registers
    raisesBd_of_branch (exec_beq · ra rb 0), raisesBd_of_branch (exec_bne · ra rb 0),
    raisesBd_of_branch (exec_blt · ra rb 0), raisesBd_of_branch (exec_bge · ra rb 0),
    raisesBd_of_branch (exec_bltu · ra rb 0), raisesBd_of_branch (exec_bgeu · ra rb 0),
    raisesBd_of_branch (exec_band · ra rb 0), raisesBd_of_branch (exec_bor · ra rb 0),
    -- a bit or an immediate
    raisesBd_of_branch (exec_bbs · ra bit 0), raisesBd_of_branch (exec_bbc · ra bit 0),
    raisesBd_of_branch (exec_beqi · ra imm 0), raisesBd_of_branch (exec_bnei · ra imm 0),
    -- floating-point registers
    raisesBd_of_fpBranch (exec_fbeq · ra rb 0), raisesBd_of_fpBranch (exec_fbne · ra rb 0),
    raisesBd_of_fpBranch (exec_fblt · ra rb 0), raisesBd_of_fpBranch (exec_fbge · ra rb 0),
    raisesBd_of_fpBranch (exec_fbun · ra rb 0),
    -- compressed
    raisesBd_of_shortBranch (exec_bra16 · 0), raisesBd_of_shortBranch (exec_beqz16 · ra 0),
    raisesBd_of_shortBranch (exec_bnez16 · ra 0)⟩⟩

/-! ## Jumps, calls and returns (44_flow_control R590 to R593, 46_compressed R710, R722, R732) -/

/-- Replacing the low bits of a word: those above stand before the new ones. -/
theorem setField_low (k n : Nat) (w : BitVec (k + n)) (v : BitVec n) : setField w 0 v = field w n k ++ v := by
  apply BitVec.eq_of_getLsbD_eq
  intro j hj
  rw [getLsbD_setField _ _ _ _ hj, BitVec.getLsbD_append]
  by_cases low : j < n
  · simp [low]
  · simp [low, field, show j - n < k by omega, show n + (j - n) = j by omega]

/-- Replacing the high bits of a word: the new ones stand before those below. -/
theorem setField_high (k n : Nat) (w : BitVec (k + n)) (v : BitVec k) : setField w n v = v ++ field w 0 n := by
  apply BitVec.eq_of_getLsbD_eq
  intro j hj
  rw [getLsbD_setField _ _ _ _ hj, BitVec.getLsbD_append]
  by_cases low : j < n
  · simp [low, field]
  · simp [low, show n ≤ j ∧ j < n + k by omega]

/-- The bits a far jump keeps are 39 and 38 of the word (R590). -/
theorem setField_far (w : Word) (sel : BitVec 24) (a : BitVec 38) :
    setField (setField w 40 sel) 0 a = sel ++ field w 38 2 ++ a := by
  have upper : (field (setField w 40 sel) 38 26 : BitVec 26) = sel ++ field w 38 2 := by
    apply BitVec.eq_of_getLsbD_eq
    intro j hj
    rw [field, BitVec.getLsbD_extractLsb', getLsbD_setField _ _ _ _ (by omega), BitVec.getLsbD_append]
    by_cases kept : j < 2
    · simp [kept, hj, field, show ¬ 40 ≤ 38 + j by omega]
    · simp [kept, hj, show 40 ≤ 38 + j ∧ 38 + j < 64 by omega, show 38 + j - 40 = j - 2 by omega]
  calc setField (setField w 40 sel) 0 a
      = field (setField w 40 sel) 38 26 ++ a := setField_low 26 38 (setField w 40 sel) a
    _ = sel ++ field w 38 2 ++ a := by rw [upper]

/-- The four segment codes of a far target. -/
theorem segment_cases (seg : BitVec 2) : seg = 0 ∨ seg = 1 ∨ seg = 2 ∨ seg = 3 := by
  revert seg
  decide

/-- The selector a far target takes (R590). -/
theorem farSelector_eq (s : State) (seg : BitVec 2) :
    farSelector s seg =
      if seg = 0 then s.segZs else if seg = 1 then s.segEs else if seg = 2 then s.segHs else field s.pc 40 24 := by
  rcases segment_cases seg with rfl | rfl | rfl | rfl <;> rfl

theorem jumpTarget_near (s : State) (a : BitVec 24) : jumpTarget s (.near a) = field s.pc 24 40 ++ a :=
  setField_low 40 24 s.pc a

theorem jumpTarget_far (s : State) (seg : BitVec 2) (a : BitVec 38) :
    jumpTarget s (.far seg a) = farSelector s seg ++ field s.pc 38 2 ++ a :=
  setField_far s.pc (farSelector s seg) a

theorem linkTarget_far (s : State) (ra : RegNo) (seg : BitVec 2) (imm : BitVec 28) :
    linkTarget s ra (.far seg imm) = farSelector s seg ++ field (s.x ra + sext64 imm) 0 40 :=
  setField_high 24 40 (s.x ra + sext64 imm) (farSelector s seg)

section links

variable {i : Instr} {rt : RegNo}

theorem linkTo_of_not_stackFault {s : State} {v : Word} (h : stackFault s s.rs rt v = false) (p : Word) :
    linkTo rt v p s = .next ((s.setX rt v).setPc p) := by
  rw [linkTo, putX, putReg_of_not_stackFault h, Res.ok_andThen, Res.retireTo_ok, State.setX]

theorem linkTo_of_stackFault {s : State} {v : Word} (h : stackFault s s.rs rt v = true) (p : Word) :
    linkTo rt v p s = .next (raise causeSTK s) := by
  rw [linkTo, putX, putReg_eq_exc.2 ⟨h, rfl, rfl⟩, Res.exc_andThen, Res.retireTo_exc]

theorem linksTo_of_linkTo {v target : State → Word} (h : ∀ s, exec i s = linkTo rt (v s) (target s) s) :
    LinksTo i rt v target :=
  fun s => ⟨fun hs => (h s).trans (linkTo_of_not_stackFault hs _), fun hs => (h s).trans (linkTo_of_stackFault hs _)⟩

end links

/-- Settles O48: JMP by its target; every other one writes its register and goes to its target, each as the spec writes
it. -/
theorem jumpsCallsAndReturns : Obligations.JumpsCallsAndReturns := by
  intro rt ra lr a24 a38 seg i14 i28 i9 a10 amt sel far
  have far_eq (s : State) : jumpTarget s (.far seg a38) = far s := by rw [jumpTarget_far, farSelector_eq]
  refine ⟨fun s => ?jmp, fun s => ?jmpFar, linksTo_of_linkTo fun s => ?call, linksTo_of_linkTo fun s => ?callFar,
    linksTo_of_linkTo fun s => ?call16, linksTo_of_linkTo (exec_jal · rt ra (.near i14)),
    linksTo_of_linkTo fun s => ?jalFar, linksTo_of_linkTo (exec_jalr16 · ra rt), linksTo_of_linkTo fun s => ?ret,
    linksTo_of_linkTo fun s => ?ret16⟩
  case jmp => rw [exec_jmp, execJmp, jumpTarget_near]
  case jmpFar => rw [exec_jmp, execJmp, far_eq]
  case call => rw [exec_call, execCall, jumpTarget_near]
  case callFar => rw [exec_call, execCall, far_eq]
  case call16 => rw [exec_call16, execCall16, setField_low 54 10 s.pc a10]
  case jalFar => rw [exec_jal, execJal, linkTarget_far, farSelector_eq]
  case ret => rw [exec_ret, execRet, BitVec.mul_comm]
  case ret16 => rw [exec_ret16, execRet16, BitVec.mul_comm]

end Sys2Proof.Machine

namespace Sys2Proof.Machine

/-! ## Code buffers: only EXEC hands one on, and the step runs it (45_system R670) -/

/-- No part of an instruction touches the buffered word. -/
theorem Reaches.pending {s t : State} (h : Reaches s t) : t.pending = s.pending := by
  induction h with
  | start => rfl
  | reg r v _ _ ih => rw [setReg_pending, ih]
  | access _ ha ih =>
    obtain ⟨-, -, -, tl, k, rfl⟩ := dataAccess_eq_ok ha
    exact ih
  | accessFault _ ha ih =>
    obtain ⟨tl, b, d, rfl⟩ := dataAccess_eq_exc ha
    exact ih
  | @commit t n pa v _ ih =>
    obtain ⟨m, mt, st, rv, hc, -⟩ := memCommit_frame n pa v t
    rw [hc]
    exact ih
  | vec _ _ _ _ ih | mask _ _ _ ih | reserve _ _ _ ih | endReservation _ _ ih | compareValue _ _ ih | aec _ _ ih
  | fstat _ _ ih | interruptMask _ _ ih | writeBarrier _ _ ih | tlb _ _ _ _ ih | tag _ _ _ ih | chain _ _ ih
  | dataCache _ _ ih | instrCache _ ih =>
    exact ih

/-- Every ending but EXEC's leaves the buffered word. -/
theorem Ends.pending {i : Instr} {s t : State} (h : Ends i s t) (hi : isExec i = false) : t.pending = s.pending := by
  cases h with
  | goesTo p h => exact h.pending
  | traps c u il ret e h => exact h.pending
  | writesCsr | moves => rw [advance_pending, setReg_pending]
  | handsOn n he b =>
    subst he
    cases hi
  | returns | stalls | redirects | setsVl => rfl

/-- Settles O5: of an instruction's endings only EXEC's hands a buffered word on. -/
theorem onlyExecHandsOnABuffer : Obligations.OnlyExecHandsOnABuffer := by
  intro i s none
  exact ⟨fun hi t he => ((exec_ends he).pending hi).trans none, exec_execBuf s⟩

section step

variable {s : State} {i : Instr} {n w : Nat}

/-- With nothing to take first, a step runs the instruction it fetched (60_exceptions R945). -/
theorem step_of_fetch {s1 : State} (hr : s.resetPin = false) (hm : modeRefusal s = none)
    (hi : interruptPending s = false) (hd : instrMatches s = 0) (hf : fetch s = .ok (n, w) s1) :
    step s = mapNext envTick (mapNext (afterInstr (bitAt s.csr.dbcr 63)) (runInstr n w s1)) := by
  have core : stepCore s = mapNext (afterInstr (bitAt s.csr.dbcr 63)) (runInstr n w s1) := by
    simp [stepCore, hm, hi, hd, hf]
  rw [step, if_neg (ne_true_of_eq_false hr), core]

/-- An instruction that USER_PRIV_FAULTS does not forbid, or that is reserved, is executed (60_exceptions R945). -/
theorem execAtLevel_of_allowed (h : userForbidden i s = false ∨ reservedIn i s = true) :
    execAtLevel i s = exec i s := by
  rcases h with allowed | reservedEncoding
  · simp [execAtLevel, allowed]
  · simp [execAtLevel, reservedEncoding]

/-- A forbidden instruction that is not reserved takes the privilege violation (45_system R630). -/
theorem execAtLevel_of_forbidden (hf : userForbidden i s = true) (hr : reservedIn i s = false) :
    execAtLevel i s = .next (raise causePRIV s) := by
  simp [execAtLevel, hf, hr]

theorem runWord_of_decoded (h : decodeNat s.cfg.fbccOpcode w = .ok i) : runWord w s = execAtLevel i s := by
  simp only [runWord, h]

/-- A buffer runs in the state as it was fetched in: its own word and length are loaded over those of the EXEC, and the
buffer that was handed on is taken (45_system R670). -/
theorem runBuffer_load (b : Word) (p : Option Word) :
    runBuffer b { s.load n w with pending := p } = runBuffer b s := rfl

/-- EXEC hands its buffer to the step, which runs it. -/
theorem runInstr_of_execBuf {b : BitVec 6} (hd : decodeNat s.cfg.fbccOpcode w = .ok (.execBuf b))
    (ha : userForbidden (.execBuf b) (s.load n w) = false) :
    runInstr n w s = runBuffer (storeGet 0 s.csr.codebuf b.toNat) s := by
  have decoded : decodeNat (s.load n w).cfg.fbccOpcode w = .ok (.execBuf b) := hd
  have ran : runWord w (s.load n w) = .next { s.load n w with pending := some (storeGet 0 s.csr.codebuf b.toNat) } :=
    (runWord_of_decoded decoded).trans (execAtLevel_of_allowed (.inl ha))
  simp only [runInstr, ran, runBuffer_load]

/-! A buffered word runs as a fetched one of the same four bytes would, unless it is EXEC (45_system R670 (c)). -/

theorem runBuffer_of_decoded {b : Word} (hd : decodeNat s.cfg.fbccOpcode (bufferWord b) = .ok i)
    (hi : isExec i = false) : runBuffer b s = execAtLevel i (s.loadBuffer b) := by
  have loaded : decodeNat (s.loadBuffer b).cfg.fbccOpcode (bufferWord b) = .ok i := hd
  simp only [runBuffer, hd, hi, Bool.false_eq_true, if_false, runWord_of_decoded loaded]

theorem runBuffer_of_exec {b : Word} (hd : decodeNat s.cfg.fbccOpcode (bufferWord b) = .ok i)
    (hi : isExec i = true) : runBuffer b s = reserved (s.loadBuffer b) := by
  simp only [runBuffer, hd, hi, if_true]

theorem runBuffer_of_undecoded {b : Word} {e : DecodeError} (hd : decodeNat s.cfg.fbccOpcode (bufferWord b) = .error e) :
    runBuffer b s = reserved (s.loadBuffer b) := by
  simp only [runBuffer, hd]

end step

/-- Settles O7: the step is the run of the buffered word, in each of the ways that word decodes. -/
theorem execRunsTheBufferedWord : Obligations.ExecRunsTheBufferedWord := by
  intro s s1 w n hr hm hi hd hf hdec hallowed fb b after
  have runs : step s = after (runBuffer (storeGet 0 s1.csr.codebuf n.toNat) s1) := by
    rw [step_of_fetch hr hm hi hd hf, runInstr_of_execBuf hdec hallowed]
  have loaded : s1.loadBuffer (storeGet 0 s1.csr.codebuf n.toNat) = s1.load 4 b := rfl
  refine ⟨fun j hj he hok => ?_, fun j hj he hforb hres => ?_, fun e hj => ?_, fun m hj => ?_⟩
  · rw [runs, runBuffer_of_decoded hj he, loaded, execAtLevel_of_allowed hok]
  · rw [runs, runBuffer_of_decoded hj he, loaded, execAtLevel_of_forbidden hforb hres]
  · rw [runs, runBuffer_of_undecoded hj, loaded]
  · rw [runs, runBuffer_of_exec hj rfl, loaded]

end Sys2Proof.Machine

namespace Sys2Proof.Machine

/-! ## BRK and PFI (45_system R631, R633, 46_compressed R720, R721) -/

/-- PFI with a request takes the interrupt's trap; without one it goes on (R633). -/
theorem poll_cases (s : State) :
    (pollHit s = false → poll s = .next s.advance) ∧
    (pollHit s = true →
      poll s = .next (enterTrap (1#1 ++ field s.irqCause 0 7 : BitVec 8) 0 s.irqLevel s.nextPc s)) :=
  ⟨fun h => if_neg (ne_true_of_eq_false h), fun h => if_pos h⟩

/-- Settles O19: each form of BRK is a trap of its own, each form of PFI a poll; BRK with cause 255 is PFI. -/
theorem breakAndPollTakeTheirTrap : Obligations.BreakAndPollTakeTheirTrap := by
  intro s user skip lvl cause long ra f5 enters polls
  refine ⟨fun h => ?_, ?_, exec_brkReg s user skip lvl ra long, exec_brk16 s f5, ?_, ?_⟩
  · rw [exec_brk, execBrk, if_neg h]
    rfl
  · rw [exec_brk, execBrk, if_pos rfl]
    exact poll_cases s
  · exact poll_cases s
  · exact poll_cases s

/-! ## Fields of a word after one of them is replaced (00_scope R8) -/

/-- A field that lies inside the one replaced is that part of the new value. -/
theorem field_setField_inside {m n : Nat} (w : BitVec m) (lo : Nat) (v : BitVec n) (k l : Nat) (hk : k + l ≤ n)
    (hm : lo + n ≤ m) : (field (setField w lo v) (lo + k) l : BitVec l) = field v k l := by
  apply BitVec.eq_of_getLsbD_eq
  intro i hi
  simp only [field, BitVec.getLsbD_extractLsb']
  rw [getLsbD_setField _ _ _ _ (by omega), if_pos (by omega), show lo + k + i - lo = k + i by omega]

/-- The field that was replaced reads the new value. -/
theorem field_setField_same {m n : Nat} (w : BitVec m) (lo : Nat) (v : BitVec n) (hm : lo + n ≤ m) :
    (field (setField w lo v) lo n : BitVec n) = v :=
  (field_setField_inside w lo v 0 n (by omega) hm).trans (field_all v)

/-- A bit after one bit is replaced. -/
theorem bitAt_setBitAt {m : Nat} (w : BitVec m) (j : Nat) (b : Bool) {k : Nat} (hk : k < m) :
    bitAt (setBitAt w j b) k = if k = j then b else bitAt w k := by
  rw [bitAt_eq_getLsbD, setBitAt, getLsbD_setField _ _ _ _ hk, bitAt_eq_getLsbD]
  by_cases same : k = j
  · subst same
    cases b <;> simp
  · rw [if_neg (by omega), if_neg same]

/-- A field of two values side by side that lies in the low one. -/
theorem field_append_of_le {m n : Nat} (x : BitVec m) (y : BitVec n) (lo k : Nat) (h : lo + k ≤ n) :
    (field (x ++ y) lo k : BitVec k) = field y lo k := by
  apply BitVec.eq_of_getLsbD_eq
  intro i hi
  simp only [field, BitVec.getLsbD_extractLsb', BitVec.getLsbD_append, show lo + i < n by omega, if_true]

/-! ## Return from interrupt: what is restored (45_system R655, 60_exceptions R975) -/

section trapReturn

variable (c : Csrs)

/-- STATUS at trap return: each field is the entry at the bottom of its stack. -/
theorem statusOnReturn_fields :
    field (statusOnReturn c) 0 4 = (field c.imStack 0 4 : BitVec 4) ∧
    field (statusOnReturn c) 4 2 = (field c.olStack 0 2 : BitVec 2) ∧
    field (statusOnReturn c) 20 2 = (field c.olStack 16 2 : BitVec 2) ∧
    field (statusOnReturn c) 6 8 = (field c.plStack 0 8 : BitVec 8) ∧
    field (statusOnReturn c) 14 6 = (field c.rsStack 0 6 : BitVec 6) := by
  simp [statusOnReturn, field_setField_same, field_setField_of_disjoint]

/-- A stack that has moved down: what was left of it below, the fill at its top. -/
theorem field_stackPop {e r : Nat} (fill : BitVec e) (rest : BitVec r) :
    field (fill ++ rest) 0 r = rest ∧ field (fill ++ rest) r e = fill := by
  refine ⟨field_append_low fill rest, ?_⟩
  rw [field_append_high _ _ _ _ (Nat.le_refl r), Nat.sub_self, field_all]

/-- OL_STACK holds two such stacks, the data levels above the operating levels (10_state R61). -/
theorem field_olStackPop {e r : Nat} (fill : BitVec e) (dl ol : BitVec r) :
    (field (fill ++ dl ++ (fill ++ ol)) 0 r = ol ∧ field (fill ++ dl ++ (fill ++ ol)) r e = fill) ∧
    field (fill ++ dl ++ (fill ++ ol)) (e + r) r = dl ∧ field (fill ++ dl ++ (fill ++ ol)) (e + r + r) e = fill := by
  obtain ⟨olRest, olFill⟩ := field_stackPop fill ol
  obtain ⟨dlRest, dlFill⟩ := field_stackPop fill dl
  rw [field_append_of_le _ _ 0 r (by omega), field_append_of_le _ _ r e (by omega),
    field_append_high _ _ (e + r) r (by omega), field_append_high _ _ (e + r + r) e (by omega), Nat.sub_self,
    Nat.add_sub_cancel_left]
  exact ⟨⟨olRest, olFill⟩, dlRest, dlFill⟩

/-- DBCR at trap return: its history moves down into bit 63, with 0 at the top (D101). -/
theorem dbcrPop_parts (d : Word) :
    bitAt (dbcrPop d) 63 = bitAt d 55 ∧ field (dbcrPop d) 55 7 = (field d 56 7 : BitVec 7) ∧
    bitAt (dbcrPop d) 62 = false ∧ field (dbcrPop d) 0 55 = (field d 0 55 : BitVec 55) := by
  let history : BitVec 8 := 0#1 ++ field d 56 7
  have below (k l : Nat) (h : k + l ≤ 63) :
      (field (dbcrPop d) k l : BitVec l) = field (setField d 55 history) k l :=
    field_setField_of_disjoint _ 63 _ k l (.inl h)
  refine ⟨?_, ?_, ?_, ?_⟩
  · rw [dbcrPop, bitAt_setBitAt _ _ _ (by decide), if_pos rfl]
  · rw [below 55 7 (by decide)]
    exact (field_setField_inside d 55 history 0 7 (by decide) (by decide)).trans (field_append_low 0#1 _)
  · have top : (field (setField d 55 history) 62 1 : BitVec 1) = field history 7 1 :=
      field_setField_inside d 55 history 7 1 (by decide) (by decide)
    have zero : (field history 7 1 : BitVec 1) = 0#1 := (field_stackPop 0#1 (field d 56 7 : BitVec 7)).2
    rw [bitAt, below 62 1 (by decide), top, zero]
    rfl
  · rw [below 0 55 (by decide)]
    exact field_setField_of_disjoint _ _ _ _ _ (.inl (by decide))

/-- RTI clears bit 0 of SEMA and the bit that it names (R655). -/
theorem bitAt_rtiClear_sema (b : BitVec 6) (s : State) {k : Nat} (hk : k < 64) :
    bitAt (rtiClear b s).csr.sema k = if k = 0 ∨ k = b.toNat then false else bitAt s.csr.sema k := by
  have cleared : (rtiClear b s).csr.sema = setBitAt (setBitAt s.csr.sema b.toNat false) 0 false := rfl
  rw [cleared, bitAt_setBitAt _ _ _ hk, bitAt_setBitAt _ _ _ hk]
  by_cases h0 : k = 0 <;> by_cases hb : k = b.toNat <;> simp [h0, hb]

end trapReturn

/-- Settles O20: at level 3 the privilege check, else the return from the trap by its parts. -/
theorem returnFromInterruptRestores : Obligations.ReturnFromInterruptRestores := by
  intro s sema ra
  refine ⟨fun h => ?_, fun h => ?_⟩
  · rw [exec_rti, execRti, if_pos h]
  · obtain ⟨im, ol, dl, pl, rs⟩ := statusOnReturn_fields s.csr
    obtain ⟨olStack, dlStack⟩ := field_olStackPop 0#2 (field s.csr.olStack 18 14) (field s.csr.olStack 2 14)
    refine ⟨trapReturn (rtiClear (sema ||| field (s.x ra) 0 6) s), ?_, rfl, rfl, im, ol, dl, pl, rs, rfl, rfl,
      field_stackPop 7#4 (field s.csr.imStack 4 28), olStack, dlStack,
      field_stackPop 0#8 (field s.csr.plStack 8 56), field_stackPop 8#6 (field s.csr.rsStack 6 42),
      field_stackPop 8#6 (field s.csr.brsStack 6 42), dbcrPop_parts s.csr.dbcr,
      fun k hk => bitAt_rtiClear_sema _ s hk, rfl, rfl, rfl, rfl, rfl, rfl⟩
    rw [exec_rti, execRti, if_neg h]

end Sys2Proof.Machine

namespace Sys2Proof.Machine

/-! ## Interrupt mask and WAIT (45_system R634 to R636) -/

/-- The mask reads what was written (R634, R635). -/
theorem setIm_im (s : State) (v : BitVec 4) : (s.setIm v).im = v := field_setField_same _ _ _ (by decide)

/-- SEI whose target takes the old mask (R634). -/
theorem execSei_of_not_stackFault {s : State} {rt : RegNo} (h : stackFault s s.rs rt (zext64 s.im) = false)
    (ra : RegNo) (m : BitVec 4) :
    execSei rt ra m s = .next ((s.setX rt (zext64 s.im)).setIm (m ||| field (s.x ra) 0 4)).advance := by
  rw [execSei, putX, putReg_of_not_stackFault h, Res.ok_andThen, Res.retire_ok, State.setX]

/-- What a WAIT waits for: its signal, and its time-out if it gives one (R636). -/
theorem waitOver_iff {s : State} {ra rb : RegNo} {imm : BitVec 5} :
    waitOver ra rb imm s = true ↔
      zext64 imm ||| s.x ra ∉ s.waitLow ∨ rb ≠ 0 ∧ s.x rb ∉ s.waitRunning := by
  simp [waitOver]

/-! ## REX (45_system R650) -/

/-- When REX redirects (R650). -/
theorem rexOk_iff {s : State} {pl : BitVec 8} {tgt : BitVec 2} {ra : RegNo} :
    rexOk s pl tgt ra = true ↔
      (tgt = 1 ∧ s.cfg.rexEnabled1 = true ∨ tgt = 2 ∧ s.cfg.rexEnabled2 = true) ∧ s.ol.toNat < tgt.toNat ∧
        tgt.toNat ≤ (rexPl s pl tgt ra).toNat := by
  have level : s.ol.ult tgt = decide (s.ol.toNat < tgt.toNat) := rfl
  have enabled : ((tgt == 1 || tgt == 2) && rexEnabled s tgt) = true ↔
      tgt = 1 ∧ s.cfg.rexEnabled1 = true ∨ tgt = 2 ∧ s.cfg.rexEnabled2 = true := by
    by_cases one : tgt = 1#2
    · simp [rexEnabled, one]
    · simp [rexEnabled, one]
  rw [← enabled, rexOk, level]
  simp only [Bool.and_eq_true, decide_eq_true_iff]
  tauto

/-- The state that a redirection goes to (R650). -/
def rexRedirected (s : State) (im : BitVec 4) (tgt : BitVec 2) (pl : BitVec 8) : State :=
  { s with
    csr := { copyCause s.csr s.ol.toNat tgt.toNat with
      status := setField (setField (setField s.csr.status 0 im) 4 tgt) 6 pl }
    pc := bank4Get s.csr.tvec tgt.toNat }

/-- The levels that REX can redirect to (R650). -/
theorem rexOk_target {s : State} {pl : BitVec 8} {tgt : BitVec 2} {ra : RegNo} (h : rexOk s pl tgt ra = true) :
    tgt = 1 ∨ tgt = 2 :=
  (rexOk_iff.1 h).1.imp And.left And.left

theorem execRex_of_rexOk {s : State} {pl : BitVec 8} {tgt : BitVec 2} {ra : RegNo} (h : rexOk s pl tgt ra = true)
    (im : BitVec 3) : execRex im pl tgt ra s = .next (rexRedirected s (im.setWidth 4) tgt (rexPl s pl tgt ra)) := by
  rw [execRex, if_pos h]
  rcases rexOk_target h with rfl | rfl <;> rfl

/-- A redirection sets mask, level and privilege level, and leaves the register set (R650). -/
theorem rexRedirected_status (s : State) (im : BitVec 4) (tgt : BitVec 2) (pl : BitVec 8) :
    (rexRedirected s im tgt pl).im = im ∧ (rexRedirected s im tgt pl).ol = tgt ∧ (rexRedirected s im tgt pl).pl = pl ∧
    (rexRedirected s im tgt pl).rs = s.rs := by
  simp [rexRedirected, State.im, State.ol, State.pl, State.rs, field_setField_same, field_setField_of_disjoint]

/-- A redirection copies CAUSE and BADADDR and leaves EPC and TVEC (R650, 10_state R41). -/
theorem rexRedirected_csrs (s : State) (im : BitVec 4) {tgt : BitVec 2} (pl : BitVec 8) (h : tgt = 1 ∨ tgt = 2) :
    causeOf (rexRedirected s im tgt pl).csr tgt.toNat = causeOf s.csr s.ol.toNat ∧
    badaddrOf (rexRedirected s im tgt pl).csr tgt.toNat = badaddrOf s.csr s.ol.toNat ∧
    (rexRedirected s im tgt pl).csr.epc = s.csr.epc ∧ (rexRedirected s im tgt pl).csr.tvec = s.csr.tvec := by
  rcases h with rfl | rfl <;> exact ⟨rfl, rfl, rfl, rfl⟩

/-- Settles O21: REX by whether it redirects, SEI and CLI by the mask they set, WAIT by whether it is over. -/
theorem redirectMaskAndWait : Obligations.RedirectMaskAndWait := by
  intro s im pl tgt ra rb rt m imm newPl allowed
  have redirects : rexOk s pl tgt ra = true ↔ allowed := rexOk_iff
  refine ⟨fun h => ?falls, fun h => ?goes, fun h => ?sei, exec_cli s, fun h => ?ends, fun hs ht => ?stalls⟩
  case falls =>
    rw [exec_rex, execRex, if_neg fun ok => h (redirects.1 ok)]
    rfl
  case goes =>
    have ok := redirects.2 h
    obtain ⟨him, hol, hpl, hrs⟩ := rexRedirected_status s (im.setWidth 4) tgt newPl
    obtain ⟨cause, badaddr, epc, tvec⟩ := rexRedirected_csrs s (im.setWidth 4) newPl (rexOk_target ok)
    exact ⟨_, (exec_rex s im pl tgt ra).trans (execRex_of_rexOk ok im), him, hol, hpl, hrs, rfl, cause, badaddr, rfl,
      rfl, epc, tvec⟩
  case sei =>
    have mask : (((s.setX rt (zext64 s.im)).setIm (m ||| field (s.x ra) 0 4)).advance).im = m ||| field (s.x ra) 0 4 :=
      setIm_im (s.setX rt (zext64 s.im)) _
    have kept : (s.setX rt (zext64 s.im)).csr = s.csr := by simp
    refine ⟨_, (exec_sei s rt ra m).trans (execSei_of_not_stackFault h ra m), mask, ?_, ?_⟩
    · rw [← kept]
      rfl
    · rw [mask, ← kept]
      rfl
  case ends => rw [exec_wait, execWait, if_pos (waitOver_iff.2 h)]
  case stalls =>
    have waits : ¬ waitOver ra rb imm s = true := by
      rw [waitOver_iff]
      tauto
    rw [exec_wait, execWait, if_neg waits]

end Sys2Proof.Machine

namespace Sys2Proof.Machine

/-! ## The CSR instructions: the checks, then the access (45_system R640, 60_exceptions R945) -/

section csr

variable {s : State} {bits : Bool} {ol : BitVec 2} {n : BitVec 10} {access : Word → Outcome} {old : Word}

theorem csrChecked_of_absent (h : csrRead s ol.toNat n.toNat = none) : csrChecked bits ol n s access = reserved s := by
  simp only [csrChecked, h]

/-- Bit set and clear of a register without them is reserved, whether it exists or not. -/
theorem csrChecked_of_not_bitCapable (h : csrBitCapable ol.toNat n.toNat = false) :
    csrChecked true ol n s access = reserved s := by
  unfold csrChecked
  split
  · rfl
  · simp only [h, Bool.not_false, Bool.and_true, if_true]

section suited

variable (suited : bits = true → csrBitCapable ol.toNat n.toNat = true)
include suited

/-- A register that exists, with bit set and clear where they are needed: only the level is left to check. -/
theorem csrChecked_of_suited (present : csrRead s ol.toNat n.toNat = some old) :
    csrChecked bits ol n s access = if ol.ult s.ol then .next (raise causePRIV s) else access old := by
  have passes : (bits && !csrBitCapable ol.toNat n.toNat) = false := by
    cases bits with
    | false => rfl
    | true => rw [suited rfl, Bool.not_true, Bool.and_false]
  simp only [csrChecked, present, passes, Bool.false_eq_true, if_false]

/-- The register of a level below the current one (45_system R630). -/
theorem csrChecked_of_below (below : ol.ult s.ol = true) (present : csrRead s ol.toNat n.toNat ≠ none) :
    csrChecked bits ol n s access = .next (raise causePRIV s) := by
  obtain ⟨old, read⟩ := Option.ne_none_iff_exists'.1 present
  rw [csrChecked_of_suited suited read, if_pos below]

theorem csrChecked_of_allowed (level : ol.ult s.ol = false) (read : csrRead s ol.toNat n.toNat = some old) :
    csrChecked bits ol n s access = access old := by
  rw [csrChecked_of_suited suited read, if_neg (ne_true_of_eq_false level)]

end suited

/-- The access writes the register and returns its old value, or takes the stack fault, or is refused (R640). -/
theorem csrAccess_cases (l k : Nat) (rt : RegNo) (old v : Word) (s : State) :
    (csrRefusal s.cfg l k v = none → stackFault s s.rs rt old = false →
      csrAccess l k rt old v s = .next ({ s with csr := csrWrite s.csr l k v }.setReg s.rs rt old).advance) ∧
    (csrRefusal s.cfg l k v = none → stackFault s s.rs rt old = true →
      csrAccess l k rt old v s = .next (raise causeSTK s)) ∧
    (∀ r, csrRefusal s.cfg l k v = some r → csrAccess l k rt old v s = .refused r) := by
  refine ⟨fun accepted fits => ?_, fun accepted faults => ?_, fun r refused => ?_⟩
  · have passes : guardX rt old s = .ok () s := guardX_eq_ok.2 ⟨fits, rfl⟩
    simp only [csrAccess, accepted]
    rw [passes, Res.ok_andThen, Res.retire_ok]
  · have stops : guardX rt old s = .exc causeSTK s := if_pos faults
    simp only [csrAccess, accepted]
    rw [stops, Res.exc_andThen, Res.retire_exc]
  · simp only [csrAccess, refused]

end csr

/-- Settles O22: each of the four by the checks, then by its access. -/
theorem csrInstructionsAccessTheRegister : Obligations.CsrInstructionsAccessTheRegister := by
  intro s ol n rt ra writes
  have plain : false = true → csrBitCapable ol.toNat n.toNat = true := fun h => absurd h Bool.false_ne_true
  have writesOf {i : Instr} {old v : Word} (h : exec i s = csrAccess ol.toNat n.toNat rt old v s) :
      writes i old v := by
    simp only [writes, h]
    exact csrAccess_cases _ _ _ _ _ s
  refine ⟨fun absent i hi => ?absent, fun incapable => ⟨?set, ?clear⟩, fun below present =>
    ⟨fun i hi => ?below, fun capable i hi => ?belowBits⟩, fun level old read => ⟨fun fits => ?read, fun faults => ?fault,
      ?write, fun capable => ⟨?writeSet, ?writeClear⟩⟩⟩
  case absent =>
    have isReserved {bits : Bool} {access : Word → Outcome} :
        csrChecked bits ol n s access = .next (if s.cfg.reservedFault then raise causeUNIMP s else s.advance) :=
      (csrChecked_of_absent absent).trans (reserved_eq s)
    simp only [List.mem_cons, List.not_mem_nil, or_false] at hi
    rcases hi with rfl | rfl | rfl | rfl <;> exact isReserved
  case set | clear => exact (csrChecked_of_not_bitCapable incapable).trans (reserved_eq s)
  case below =>
    simp only [List.mem_cons, List.not_mem_nil, or_false] at hi
    rcases hi with rfl | rfl <;> exact csrChecked_of_below plain below present
  case belowBits =>
    simp only [List.mem_cons, List.not_mem_nil, or_false] at hi
    rcases hi with rfl | rfl <;> exact csrChecked_of_below (fun _ => capable) below present
  case read => exact (csrChecked_of_allowed plain level read).trans (writeX_of_not_stackFault fits)
  case fault => exact (csrChecked_of_allowed plain level read).trans (writeX_of_stackFault faults)
  case write => exact writesOf (csrChecked_of_allowed plain level read)
  case writeSet | writeClear => exact writesOf (csrChecked_of_allowed (fun _ => capable) level read)

end Sys2Proof.Machine

namespace Sys2Proof.Machine

/-! ## The TLB instruction (45_system R660) and the aging of the TLB (20_memory R168) -/

section tlb

variable {s : State} {cmd tn : BitVec 4} {rt ra : RegNo}

theorem execTlb_of_reserved (h : 12 ≤ cmd.toNat) : execTlb cmd tn rt ra s = reserved s := if_pos h

/-- A command that is not reserved takes the privilege violation above level 0 (45_system R630). -/
theorem execTlb_of_level (h : cmd.toNat < 12) (level : s.ol ≠ 0) :
    execTlb cmd tn rt ra s = .next (raise causePRIV s) := by
  rw [execTlb, if_neg (Nat.not_le.2 h), if_pos level]

section machineLevel

variable (level : s.ol = 0)
include level

/-- The register read and the count read write a register (R660). -/
theorem execTlb_readRegister : execTlb 7 tn rt ra s = writeX rt (tlbRegGet s.tlb tn) s := by
  rw [execTlb, if_neg (by decide), if_neg (not_not_intro level), if_pos rfl]

theorem execTlb_readCount : execTlb 10 tn rt ra s = writeX rt (zext64 (tlbCount s.tlb (tlbIndex s.tlb))) s := by
  rw [execTlb, if_neg (by decide), if_neg (not_not_intro level), if_neg (by decide), if_pos rfl]

/-- Every other command changes the TLB alone (R660). -/
theorem execTlb_command (h : cmd.toNat < 12) (h7 : cmd ≠ 7) (h10 : cmd ≠ 10) :
    execTlb cmd tn rt ra s = .next { s with tlb := tlbCommand cmd tn (s.x ra) s.freeIdx s.tlb }.advance := by
  rw [execTlb, if_neg (Nat.not_le.2 h), if_neg (not_not_intro level), if_neg h7, if_neg h10]

end machineLevel

/-- A cleared entry is not valid (20_memory R161). -/
theorem tlbValid_tlbCleared (e : TlbEntry) : tlbValid (tlbCleared e) = false := by
  have none : (field (tlbCleared e).attr 0 3 : BitVec 3) = 0 := field_setField_same e.attr 0 _ (by decide)
  rw [tlbValid, none]
  rfl

/-- After the entries are cleared none is valid, listed or not (R660). -/
theorem tlbValid_clearEntries (k : Nat) : ∀ m : Store TlbEntry,
    tlbValid (storeGet tlbEntryZero (clearEntries m) k) = false
  | [] => rfl
  | (n, e) :: m => by
    have ih := tlbValid_clearEntries k m
    rw [clearEntries]
    split
    · exact ih
    · rw [storeGet]
      split
      · exact tlbValid_tlbCleared e
      · exact ih

/-- The aging counter while it does not underflow counts the cycles down (20_memory R168). -/
theorem agingAfter_toNat_add {afc aging : BitVec 24} {n : Nat} (h : n ≤ aging.toNat) :
    (agingAfter afc aging n).toNat + n = aging.toNat := by
  have small := aging.isLt
  rw [agingAfter, if_pos h, BitVec.toNat_ofNat, Nat.mod_eq_of_lt (by omega), Nat.sub_add_cancel h]

theorem tlbAge_refcnts_of_le {n draw : Nat} {t : TlbState} (h : n ≤ t.aging.toNat) :
    (tlbAge n draw t).refcnts = t.refcnts := if_pos h

end tlb

/-- Settles O24: the reserved commands, the level, each command at level 0, and what moves by itself. -/
theorem tlbInstructionCommands : Obligations.TlbInstructionCommands := by
  intro s tn rt ra t idx way filled
  refine ⟨fun cmd h => (execTlb_of_reserved h).trans (reserved_eq s), fun level cmd h => execTlb_of_level h level,
    fun level => ?commands, ?itself⟩
  case commands =>
    have runs (cmd : BitVec 4) (h : cmd.toNat < 12 ∧ cmd ≠ 7 ∧ cmd ≠ 10) :
        exec (.tlb cmd tn rt ra) s = .next { s with tlb := tlbCommand cmd tn (s.x ra) s.freeIdx t }.advance := by
      obtain ⟨assigned, not7, not10⟩ := h
      exact execTlb_command level assigned not7 not10
    exact ⟨runs 0 (by decide), runs 1 (by decide), runs 2 (by decide), runs 3 (by decide), runs 4 (by decide),
      runs 5 (by decide), runs 6 (by decide),
      fun fits => (execTlb_readRegister level).trans (writeX_of_not_stackFault fits), runs 8 (by decide),
      ⟨_, runs 9 (by decide), fun k => tlbValid_clearEntries k t.entries, rfl, rfl⟩,
      fun fits => (execTlb_readCount level).trans (writeX_of_not_stackFault fits), runs 11 (by decide)⟩
  case itself =>
    exact ⟨rfl, fun h => ⟨agingAfter_toNat_add h, tlbAge_refcnts_of_le h⟩,
      agingAfter_underflow t.afc t.aging (Config.freeTick s.freeIdx)⟩

end Sys2Proof.Machine

namespace Sys2Proof.Machine

/-! ## Compressed arithmetic (46_compressed R706 to R709, R711 to R718, R730, R731) -/

section compressed

variable {i : Instr} {rt : RegNo} {s : State}

/-- Three zero bits below a field scale its sign-extended value by eight, as ADDISP's amount is scaled (R706). -/
theorem sext64_append_zero3 {n : Nat} (v : BitVec n) : sext64 (v ++ (0 : BitVec 3)) = 8 * sext64 v :=
  calc sext64 (v ++ (0 : BitVec 3))
    _ = BitVec.ofInt 64 (2 ^ 3 * v.toInt) := congrArg (BitVec.ofInt 64) BitVec.toInt_append_zero
    _ = 8 * sext64 v := BitVec.ofInt_mul (2 ^ 3) v.toInt

/-- The count field of a compressed shift is below the width, so it is the count (R711 to R713). -/
theorem shiftBy_amount (k : ShiftKind) (amt : BitVec 5) (a : Word) :
    shiftBy k amt.toNat 64 a = shiftFn k 64 a amt.toNat := by
  have small : amt.toNat < 64 := by have := amt.isLt; omega
  rw [shiftBy_eq]
  exact congrArg (shiftFn k 64 a) (Nat.mod_eq_of_lt small)

/-- A whole-register operation on two registers ends as a write of its result (R301). -/
theorem aluReg_sized_whole (f : LaneFn2) (rt ra rb : RegNo) (s : State) :
    aluReg (sized 7 f) rt ra rb s = writeX rt (f 64 (s.x ra) (s.x rb)) s := by
  rw [aluReg_sized, lanes2_whole _ _ _ (.inr rfl)]

/-- What WritesX says, at one state: the register of a compressed map is known in its state only (R701). -/
theorem writes_of_writeX {v : Word} (h : exec i s = writeX rt v s) :
    (stackFault s s.rs rt v = false → exec i s = .next (s.setX rt v).advance) ∧
      (stackFault s s.rs rt v = true → exec i s = .next (raise causeSTK s)) :=
  ⟨fun hs => h.trans (writeX_of_not_stackFault hs), fun hs => h.trans (writeX_of_stackFault hs)⟩

end compressed

/-- Settles O49: each instruction ends as a write of its result, into a named register or one of the compressed map. -/
theorem compressedResults : Obligations.CompressedResults := by
  refine ⟨fun rt ra amt => ?named, fun q r amt s => ?mapped⟩
  case named =>
    refine ⟨writesX_of_writeX fun s => ?addisp, writesX_of_writeX (exec_addi16 · rt amt),
      writesX_of_writeX (exec_ldi16 · rt amt), writesX_of_writeX (exec_andi16 · rt amt),
      writesX_of_writeX fun s => ?shli, writesX_of_writeX (exec_mov16 · ra rt),
      writesX_of_sized_whole (exec_add16 · rt ra) fun _ => rfl⟩
    case addisp => rw [exec_addisp, execAddisp, sext64_append_zero3]
    case shli => rw [exec_shli16, execShli16, shiftBy_amount, shiftFn]
  case mapped =>
    refine ⟨writes_of_writeX (exec_ori16 s q amt), writes_of_writeX ?shri, writes_of_writeX ?asri,
      writes_of_writeX (aluReg_sized_whole fnSub (creg s q) (creg s q) (creg s r) s),
      writes_of_writeX (aluReg_sized_whole fnAnd (creg s q) (creg s q) (creg s r) s),
      writes_of_writeX (aluReg_sized_whole fnOr (creg s q) (creg s q) (creg s r) s),
      writes_of_writeX (aluReg_sized_whole fnXor (creg s q) (creg s q) (creg s r) s)⟩
    case shri => rw [exec_shri16, execShri16, shiftBy_amount, shiftFn, creg]
    case asri => rw [exec_asri16, execAsri16, shiftBy_amount, shiftFn, creg]

end Sys2Proof.Machine

namespace Sys2Proof.Machine

/-! ## Taking a trap: STATUS at entry (60_exceptions R960) -/

section statusOnTrap

variable (scale : Nat) (w : Word) (il : BitVec 4) (vchain : Bool)

/-- STATUS at trap entry: the levels become 0 and VCA records the chaining bit, for every kind of trap. -/
theorem statusOnTrap_levels :
    field (statusOnTrap scale w il vchain) 4 2 = (0 : BitVec 2) ∧
    field (statusOnTrap scale w il vchain) 6 8 = (0 : BitVec 8) ∧
    field (statusOnTrap scale w il vchain) 20 2 = (0 : BitVec 2) := by
  unfold statusOnTrap
  dsimp only
  split <;> simp [setBitAt, field_setField_same, field_setField_of_disjoint]

theorem statusOnTrap_vca : bitAt (statusOnTrap scale w il vchain) 32 = vchain := by
  rw [statusOnTrap, bitAt_setBitAt _ _ _ (by decide), if_pos rfl]

/-- A trap that is no hardware interrupt keeps the interrupt mask and selects register set 0. -/
theorem statusOnTrap_of_no_interrupt :
    field (statusOnTrap scale w 0 vchain) 0 4 = (field w 0 4 : BitVec 4) ∧
    field (statusOnTrap scale w 0 vchain) 14 6 = (0 : BitVec 6) := by
  simp [statusOnTrap, setBitAt, field_setField_same, field_setField_of_disjoint]

/-- A hardware interrupt sets the mask and IRQ to its level, and selects the register set of the level. -/
theorem statusOnTrap_of_interrupt {il : BitVec 4} (h : il ≠ 0) :
    field (statusOnTrap scale w il vchain) 0 4 = il ∧ field (statusOnTrap scale w il vchain) 28 4 = il ∧
    field (statusOnTrap scale w il vchain) 14 6 = BitVec.ofNat 6 (scale * il.toNat) := by
  unfold statusOnTrap
  dsimp only
  rw [if_neg h]
  simp [setBitAt, field_setField_same, field_setField_of_disjoint]

end statusOnTrap

/-- A trap enters at operating level 0. -/
theorem trapEnter_ol (c : BitVec 8) (u : BitVec 6) (il : BitVec 4) (ret : Word) (s : State) :
    (trapEnter c u il ret s).ol = 0 :=
  (statusOnTrap_levels _ _ _ _).1

/-! ## The operating level of an instruction (45_system R630) -/

/-- t has the operating level of s and its trap vectors. -/
structure SameLevel (s t : State) : Prop where
  ol : t.ol = s.ol
  tvec : t.csr.tvec = s.csr.tvec

/-- No part of an instruction touches the operating level or a trap vector: the mask is another field of STATUS. -/
theorem Reaches.sameLevel {s t : State} (h : Reaches s t) : SameLevel s t := by
  induction h with
  | start => exact ⟨rfl, rfl⟩
  | reg r v _ _ ih => exact ⟨by rw [State.ol, setReg_csr]; exact ih.ol, by rw [setReg_csr]; exact ih.tvec⟩
  | access _ ha ih =>
    obtain ⟨-, -, -, tl, k, rfl⟩ := dataAccess_eq_ok ha
    exact ⟨ih.ol, ih.tvec⟩
  | accessFault _ ha ih =>
    obtain ⟨tl, b, d, rfl⟩ := dataAccess_eq_exc ha
    exact ⟨ih.ol, ih.tvec⟩
  | @commit t n pa v _ ih =>
    obtain ⟨m, mt, st, rv, hc, -⟩ := memCommit_frame n pa v t
    rw [hc]
    exact ⟨ih.ol, ih.tvec⟩
  | interruptMask w _ ih =>
    exact ⟨(field_setField_of_disjoint _ _ _ _ _ (.inr (by decide))).trans ih.ol, ih.tvec⟩
  | vec _ _ _ _ ih | mask _ _ _ ih | reserve _ _ _ ih | endReservation _ _ ih | compareValue _ _ ih | aec _ _ ih
  | fstat _ _ ih | writeBarrier _ _ ih | tlb _ _ _ _ ih | tag _ _ _ ih | chain _ _ ih | dataCache _ _ ih
  | instrCache _ ih =>
    exact ⟨ih.ol, ih.tvec⟩

/-- A control and status register of a level other than the machine's is its CAUSE or its BADADDR (10_state R41). -/
theorem csrWrite_of_ne_zero (c : Csrs) {level : Nat} (h : level ≠ 0) (n : Nat) (v : Word) :
    (csrWrite c level n v).status = c.status ∧ (csrWrite c level n v).tvec = c.tvec := by
  unfold csrWrite
  rw [if_neg h]
  split
  · unfold setCause
    split <;> exact ⟨rfl, rfl⟩
  split
  · unfold setBadaddr
    split <;> exact ⟨rfl, rfl⟩
  · exact ⟨rfl, rfl⟩

/-- At level 3 REX does not redirect: its target is level 1 or 2, and must be above the current level (R650). -/
theorem rexOk_at_user_level {s : State} (h : s.ol = 3) (pl : BitVec 8) (tgt : BitVec 2) (ra : RegNo) :
    rexOk s pl tgt ra = false := by
  have notAbove : (3 : BitVec 2).ult tgt = false := by
    revert tgt
    decide
  rw [rexOk, h, notAbove, Bool.and_false, Bool.false_and, Bool.false_and]

/-- What an instruction that is run at level 3 can end in: level 3 again, or a trap at the vector of level 3. -/
theorem Ends.user_level {i : Instr} {s t : State} (h : Ends i s t) (hol : s.ol = 3) :
    t.csr.tvec = s.csr.tvec ∧ (t.ol = 3 ∨ (t.ol = 0 ∧ t.pc = vectorFor s.csr.tvec.r0 3)) := by
  cases h with
  | goesTo p h => exact ⟨h.sameLevel.tvec, .inl (h.sameLevel.ol.trans hol)⟩
  | @traps t c u il ret e h =>
    obtain ⟨ol, tvec⟩ := h.sameLevel
    refine ⟨tvec, .inr ⟨trapEnter_ol c u il ret (noteInstr t), ?_⟩⟩
    have vector : (trapEnter c u il ret (noteInstr t)).pc = vectorFor t.csr.tvec.r0 t.ol := rfl
    rw [vector, tvec, ol, hol]
  | returns b h => exact absurd hol h
  | writesCsr ol n v rt old h =>
    have user : ol.toNat ≠ 0 := by
      rw [hol] at h
      revert ol
      decide
    obtain ⟨status, tvec⟩ := csrWrite_of_ne_zero s.csr user n v
    rw [State.ol, advance_csr, setReg_csr, status, tvec]
    exact ⟨rfl, .inl hol⟩
  | redirects im pl tgt ra w p hok =>
    rw [rexOk_at_user_level hol] at hok
    cases hok
  | moves d q rt ra hi set v =>
    rw [State.ol, advance_csr, setReg_csr]
    exact ⟨rfl, .inl hol⟩
  | stalls | setsVl | handsOn => exact ⟨rfl, .inl hol⟩

/-- Settles O13: every ending of an instruction that is run at level 3 stays there or is a trap at its vector. -/
theorem userLevelIsLeftOnlyByATrap : Obligations.UserLevelIsLeftOnlyByATrap :=
  fun _ _ _ hol he => (exec_ends he).user_level hol

end Sys2Proof.Machine

namespace Sys2Proof.Machine

/-! ## Taking a trap: the stacks, DBCR and CR0 at entry (60_exceptions R960, R991, 10_state R61) -/

/-- OL_STACK with an entry pushed on each of its two stacks, the data levels above the operating levels. -/
theorem field_olStackPush {e r : Nat} (dls ols : BitVec r) (dl ol : BitVec e) :
    (field (dls ++ dl ++ ols ++ ol) 0 e = ol ∧ field (dls ++ dl ++ ols ++ ol) e r = ols) ∧
    field (dls ++ dl ++ ols ++ ol) (r + e) e = dl ∧ field (dls ++ dl ++ ols ++ ol) (e + r + e) r = dls := by
  refine ⟨⟨field_append_low _ _, ?_⟩, ?_, ?_⟩
  · rw [field_append_high _ _ _ _ (Nat.le_refl e), Nat.sub_self, field_append_low]
  · rw [field_append_high _ _ _ _ (by omega), field_append_high _ _ _ _ (by omega), show r + e - e - r = 0 by omega,
      field_append_low]
  · rw [field_append_high _ _ _ _ (by omega), field_append_high _ _ _ _ (by omega),
      field_append_high _ _ _ _ (by omega), show e + r + e - e - r - e = 0 by omega, field_all]

/-- A bit of DBCR at trap entry: its history moves up, bit 63 enters it and is cleared (D101). -/
theorem getLsbD_dbcrPush (d : Word) {i : Nat} (hi : i < 64) :
    (dbcrPush d).getLsbD i =
      if i = 63 then false else if i = 55 then d.getLsbD 63 else if 55 < i then d.getLsbD (i - 1) else d.getLsbD i := by
  rw [dbcrPush, setBitAt, getLsbD_setField _ _ _ _ hi, getLsbD_setField _ _ _ _ hi]
  have history (j : Nat) : BitVec.getLsbD (field d 55 7 ++ field d 63 1 : BitVec 8) j =
      if j < 1 then (field d 63 1).getLsbD j else (field d 55 7).getLsbD (j - 1) := BitVec.getLsbD_append
  obtain rfl | rfl | inside | below : i = 63 ∨ i = 55 ∨ (55 < i ∧ i < 63) ∨ i < 55 := by omega
  · simp
  · rw [history]
    simp [field]
  · rw [if_neg (by omega), if_pos (by omega), if_neg (by omega), if_neg (by omega), if_pos inside.1, history,
      if_neg (by omega), field, BitVec.getLsbD_extractLsb', show 55 + (i - 55 - 1) = i - 1 by omega]
    simp [show i - 55 - 1 < 7 by omega]
  · rw [if_neg (by omega), if_neg (by omega), if_neg (by omega), if_neg (by omega), if_neg (by omega)]

/-- A bit of DBCR at trap return: the history moves down into bit 63, with 0 at its top (D101). -/
theorem getLsbD_dbcrPop (d : Word) {i : Nat} (hi : i < 64) :
    (dbcrPop d).getLsbD i =
      if i = 63 then d.getLsbD 55 else if i = 62 then false else if 55 ≤ i then d.getLsbD (i + 1) else d.getLsbD i := by
  rw [dbcrPop, setBitAt, getLsbD_setField _ _ _ _ hi, getLsbD_setField _ _ _ _ hi]
  have history (j : Nat) : BitVec.getLsbD (0#1 ++ field d 56 7 : BitVec 8) j =
      if j < 7 then (field d 56 7).getLsbD j else (0#1).getLsbD (j - 7) := BitVec.getLsbD_append
  obtain rfl | rfl | inside | below : i = 63 ∨ i = 62 ∨ (55 ≤ i ∧ i < 62) ∨ i < 55 := by omega
  · simp [bitAt_eq_getLsbD]
  · rw [history]
    simp
  · rw [if_neg (by omega), if_pos (by omega), if_neg (by omega), if_neg (by omega), if_pos inside.1, history,
      if_pos (by omega), field, BitVec.getLsbD_extractLsb', show 56 + (i - 55) = i + 1 by omega]
    simp [show i - 55 < 7 by omega]
  · rw [if_neg (by omega), if_neg (by omega), if_neg (by omega), if_neg (by omega), if_neg (by omega)]

/-- The history that a trap pushed is what its return pops, but for the oldest bit. -/
theorem dbcrPop_dbcrPush (d : Word) : dbcrPop (dbcrPush d) = setBitAt d 62 false := by
  apply BitVec.eq_of_getLsbD_eq
  intro i hi
  rw [getLsbD_dbcrPop _ hi, setBitAt, getLsbD_setField _ _ _ _ hi]
  obtain rfl | rfl | inside | below : i = 63 ∨ i = 62 ∨ (55 ≤ i ∧ i < 62) ∨ i < 55 := by omega
  · rw [getLsbD_dbcrPush d (by decide)]
    simp
  · simp
  · rw [if_neg (by omega), if_neg (by omega), if_pos inside.1, if_neg (by omega), getLsbD_dbcrPush d (by omega),
      if_neg (by omega), if_neg (by omega), if_pos (by omega), Nat.add_sub_cancel]
  · rw [if_neg (by omega), if_neg (by omega), if_neg (by omega), if_neg (by omega), getLsbD_dbcrPush d hi,
      if_neg (by omega), if_neg (by omega), if_neg (by omega)]

/-- Two fields are equal that have the same bits. -/
theorem field_eq_of_getLsbD {m : Nat} {x y : BitVec m} {lo k n : Nat}
    (h : ∀ i < n, x.getLsbD (lo + i) = y.getLsbD (k + i)) : (field x lo n : BitVec n) = field y k n := by
  apply BitVec.eq_of_getLsbD_eq
  intro i hi
  simp only [field, BitVec.getLsbD_extractLsb', hi, decide_true, Bool.true_and, h i hi]

/-- DBCR at trap entry: bit 63 goes into the history, which moves up. -/
theorem dbcrPush_parts (d : Word) :
    bitAt (dbcrPush d) 63 = false ∧ bitAt (dbcrPush d) 55 = bitAt d 63 ∧
    field (dbcrPush d) 56 7 = (field d 55 7 : BitVec 7) ∧ field (dbcrPush d) 0 55 = (field d 0 55 : BitVec 55) := by
  refine ⟨?_, ?_, field_eq_of_getLsbD fun i hi => ?_, field_eq_of_getLsbD fun i hi => ?_⟩
  · rw [bitAt_eq_getLsbD, getLsbD_dbcrPush d (by decide), if_pos rfl]
  · rw [bitAt_eq_getLsbD, bitAt_eq_getLsbD, getLsbD_dbcrPush d (by decide)]
    rfl
  · rw [getLsbD_dbcrPush d (by omega), if_neg (by omega), if_neg (by omega), if_pos (by omega)]
    congr 1
    omega
  · rw [getLsbD_dbcrPush d (by omega), if_neg (by omega), if_neg (by omega), if_neg (by omega)]

/-- CR0 at trap entry keeps its bits but for bit 63, which only a hardware interrupt writes (10_state R43). -/
theorem cr0OnTrap_low (w : Word) (il : BitVec 4) (debug : Bool) :
    field (cr0OnTrap w il debug) 0 63 = (field w 0 63 : BitVec 63) := by
  unfold cr0OnTrap
  split
  · rfl
  · exact field_setField_of_disjoint _ _ _ _ _ (.inl (by decide))

theorem bitAt_cr0OnTrap {il : BitVec 4} (h : il ≠ 0) (w : Word) (debug : Bool) :
    bitAt (cr0OnTrap w il debug) 63 = debug := by
  rw [cr0OnTrap, if_neg h, bitAt_setBitAt _ _ _ (by decide), if_pos rfl]

/-- CAUSE at trap entry: the user field above the cause (R960). -/
theorem field_causeOnTrap (u : BitVec 6) (c : BitVec 8) :
    field (0#2 ++ u ++ c : BitVec 16) 0 8 = c ∧ field (0#2 ++ u ++ c : BitVec 16) 8 6 = u := by
  refine ⟨field_append_low _ _, ?_⟩
  rw [field_append_high _ _ _ _ (by decide)]
  exact field_append_low _ _

/-- Settles O16: each stack takes its entry, STATUS, DBCR and CR0 by their functions; the rest is not touched. -/
theorem trapEntrySavesAndSwitches : Obligations.TrapEntrySavesAndSwitches := by
  refine ⟨fun c u il ret s => ?_, fun c s => ⟨rfl, rfl, (field_causeOnTrap _ _).1, rfl⟩⟩
  obtain ⟨olStack, dlStack⟩ := field_olStackPush (field s.csr.olStack 16 14) (field s.csr.olStack 0 14) s.dl s.ol
  obtain ⟨cause, user⟩ := field_causeOnTrap u c
  obtain ⟨ol, pl, dl⟩ := statusOnTrap_levels s.cfg.irqRsScale s.csr.status il s.vchain
  have sema : bitAt (setBitAt s.csr.sema 0 false) 0 = false := by
    rw [bitAt_setBitAt _ _ _ (by decide), if_pos rfl]
  have plain (h : il = 0) := h ▸ statusOnTrap_of_no_interrupt s.cfg.irqRsScale s.csr.status s.vchain
  have noDebug (h : s.cfg.supportDbg = false) : s.debugMode = false := by rw [State.debugMode, h, Bool.false_and]
  refine ⟨⟨rfl, rfl, rfl, rfl, rfl, rfl, rfl, rfl⟩, field_stackPop _ _, olStack, dlStack, field_stackPop _ _,
    field_stackPop _ _, field_stackPop _ _, dbcrPush_parts _, cause, user, ol, pl, dl, plain,
    statusOnTrap_of_interrupt _ _ _, fun h => if_pos h, cr0OnTrap_low _ _ _,
    fun hil hdbg => (bitAt_cr0OnTrap hil _ _).trans (noDebug hdbg), statusOnTrap_vca _ _ _ _, rfl, sema, rfl, rfl, rfl,
    rfl, rfl, rfl, rfl, rfl, rfl⟩

/-- The vector of a level: the low eight bits of TVEC[0] cleared, and 32 for each level (R961). -/
theorem vectorFor_eq (tvec0 : Word) (ol : BitVec 2) :
    vectorFor tvec0 ol = (tvec0 &&& 0xFFFFFFFFFFFFFF00) + 0x20 * zext64 ol := by
  have kept : ~~~ fieldMask 64 0 8 = 0xFFFFFFFFFFFFFF00 := by decide
  have zero : (0 : BitVec 8).setWidth 64 <<< 0 = 0 := by decide
  have level : BitVec.ofNat 64 (ol.toNat * 32) = 0x20 * zext64 ol := by
    revert ol
    decide
  rw [vectorFor, level, setField, kept, zero]
  exact congrArg (· + _) BitVec.or_zero

/-- The low eight bits of TVEC[0] have no part in a vector. -/
theorem vectorFor_setField_low (tvec0 : Word) (low : BitVec 8) (ol : BitVec 2) :
    vectorFor (setField tvec0 0 low) ol = vectorFor tvec0 ol := by
  have cleared : setField (setField tvec0 0 low) 0 (0 : BitVec 8) = setField tvec0 0 (0 : BitVec 8) := by
    apply BitVec.eq_of_getLsbD_eq
    intro i hi
    rw [getLsbD_setField _ _ _ _ hi, getLsbD_setField _ _ _ _ hi, getLsbD_setField _ _ _ _ hi]
    split <;> rfl
  rw [vectorFor, cleared, vectorFor]

/-- Settles O17: the vector by its formula; the four levels by evaluation. -/
theorem trapVectorIsTvecZeroPlusLevel : Obligations.TrapVectorIsTvecZeroPlusLevel :=
  ⟨fun _ _ _ _ s => ⟨vectorFor_eq _ _, fun _ low _ _ _ => vectorFor_setField_low s.csr.tvec.r0 low s.ol⟩, by decide⟩

/-! ## Returning from a trap just entered (60_exceptions R975) -/

/-- OL_STACK pushed and popped: its two stacks, the underflow fill at the top of each. -/
theorem olStack_push_pop (w : BitVec 32) (dl ol : BitVec 2) :
    let pushed : BitVec 32 := field w 16 14 ++ dl ++ field w 0 14 ++ ol
    (0#2 ++ field pushed 18 14 ++ (0#2 ++ field pushed 2 14) : BitVec 32) =
      setField (setField w 14 (0 : BitVec 2)) 30 (0 : BitVec 2) := by
  intro pushed
  obtain ⟨⟨-, ols⟩, -, dls⟩ := field_olStackPush (field w 16 14 : BitVec 14) (field w 0 14) dl ol
  have upper : (field pushed 18 14 : BitVec 14) = field w 16 14 := dls
  have lower : (field pushed 2 14 : BitVec 14) = field w 0 14 := ols
  rw [upper, lower]
  apply BitVec.eq_of_getLsbD_eq
  intro i hi
  rw [getLsbD_setField _ _ _ _ hi, getLsbD_setField _ _ _ _ hi]
  rw [BitVec.getLsbD_append, BitVec.getLsbD_append, BitVec.getLsbD_append]
  obtain h | h | h | h : i < 14 ∨ (14 ≤ i ∧ i < 16) ∨ (16 ≤ i ∧ i < 30) ∨ 30 ≤ i := by omega
  · rw [if_pos (by omega), if_pos h, if_neg (by omega), if_neg (by omega)]
    simp [field, h]
  · rw [if_pos (by omega), if_neg (by omega), if_neg (by omega), if_pos h]
    rfl
  · rw [if_neg (by omega), if_pos (by omega), if_neg (by omega), if_neg (by omega)]
    simp [field, show i - 16 < 14 by omega, show 16 + (i - 16) = i by omega]
  · rw [if_neg (by omega), if_neg (by omega), if_pos (by omega)]
    simp

/-- Settles O18: STATUS from the entries just pushed; each stack with those below it, and the fill at its top. -/
theorem trapReturnUndoesTrapEntry : Obligations.TrapReturnUndoesTrapEntry := by
  intro c u il ret s t
  let e : Csrs := (trapEnter c u il ret s).csr
  obtain ⟨im, ol, dl, pl, rs⟩ := statusOnReturn_fields e
  obtain ⟨imTop, imRest⟩ := field_stackPop (field s.csr.imStack 0 28 : BitVec 28) s.im
  obtain ⟨⟨olTop, -⟩, dlTop, -⟩ := field_olStackPush (field s.csr.olStack 16 14) (field s.csr.olStack 0 14) s.dl s.ol
  obtain ⟨plTop, plRest⟩ := field_stackPop (field s.csr.plStack 0 56 : BitVec 56) s.pl
  obtain ⟨rsTop, rsRest⟩ := field_stackPop (field s.csr.rsStack 0 42 : BitVec 42) s.rs
  obtain ⟨-, brsRest⟩ := field_stackPop (field s.csr.brsStack 0 42 : BitVec 42) s.rs
  exact ⟨rfl, im.trans imTop, ol.trans olTop, dl.trans dlTop, pl.trans plTop, rs.trans rsTop,
    statusOnTrap_vca _ _ _ _, rfl,
    (congrArg (7#4 ++ ·) imRest).trans (setField_high 4 28 s.csr.imStack 7#4).symm, olStack_push_pop _ _ _,
    (congrArg (0#8 ++ ·) plRest).trans (setField_high 8 56 s.csr.plStack 0#8).symm,
    (congrArg (8#6 ++ ·) rsRest).trans (setField_high 6 42 s.csr.rsStack 8#6).symm,
    (congrArg (8#6 ++ ·) brsRest).trans (setField_high 6 42 s.csr.brsStack 8#6).symm, dbcrPop_dbcrPush _⟩

end Sys2Proof.Machine

namespace Sys2Proof.Machine

/-! ## A step, as its parts (60_exceptions R945) -/

section step

variable {s : State} (hr : s.resetPin = false)
include hr

/-- Without a Reset event a step is its core, and then what moves by itself. -/
theorem step_of_no_reset : step s = mapNext envTick (stepCore s) := if_neg (ne_true_of_eq_false hr)

variable (hm : modeRefusal s = none)
include hm

/-- A pending interrupt is taken before anything else (R951). -/
theorem step_of_interrupt (hi : interruptPending s = true) : step s = .next (envTick (takeInterrupt s)) := by
  rw [step_of_no_reset hr, stepCore, hm]
  simp only [hi, if_true, mapNext]

/-- With no interrupt pending, an instruction-address match is taken before the fetch (R990). -/
theorem step_of_instrMatch (hi : interruptPending s = false) (hd : instrMatches s ≠ 0) :
    step s = .next (envTick (raiseBare causeDBG (noteMatch (instrMatches s) s))) := by
  have hit : (instrMatches s != 0) = true := bne_iff_ne.2 hd
  rw [step_of_no_reset hr, stepCore, hm]
  simp only [hi, hit, Bool.false_eq_true, if_false, if_true, mapNext]

/-- A fetch that raises ends the step with its exception (R980). -/
theorem step_of_fetch_exc {c : BitVec 8} {t : State} (hi : interruptPending s = false) (hd : instrMatches s = 0)
    (hf : fetch s = .exc c t) : step s = .next (envTick (raiseBare c t)) := by
  have noHit : (instrMatches s != 0) = false := bne_eq_false_iff_eq.2 hd
  rw [step_of_no_reset hr, stepCore, hm]
  simp only [hi, noHit, hf, Bool.false_eq_true, if_false, mapNext]

end step

theorem runWord_of_undecoded {s : State} {w : Nat} {e : DecodeError} (h : decodeNat s.cfg.fbccOpcode w = .error e) :
    runWord w s = reserved s := by
  simp only [runWord, h]

/-- Settles O4: the step runs the fetched word, which decodes to an allowed or a forbidden instruction, or not. -/
theorem stepRunsTheDecodedInstruction : Obligations.StepRunsTheDecodedInstruction := by
  intro s s1 n w hr hm hi hd hf after
  have runs : step s = after (runWord w (s1.load n w)) := by
    rw [step_of_fetch hr hm hi hd hf]
    rfl
  refine ⟨fun i hdec hok => ?_, fun e hdec => ?_, fun i hdec hforb hres => ?_⟩
  · rw [runs, runWord_of_decoded (s := s1.load n w) hdec, execAtLevel_of_allowed hok]
  · rw [runs, runWord_of_undecoded (s := s1.load n w) hdec]
  · rw [runs, runWord_of_decoded (s := s1.load n w) hdec, execAtLevel_of_forbidden hforb hres]

/-- Settles O8: the interrupt, the match and the fetch fault each end the step; single step by its condition. -/
theorem interruptsAndDebugTrapsPrecedeTheInstruction : Obligations.InterruptsAndDebugTrapsPrecedeTheInstruction := by
  refine ⟨fun s hr hm => ⟨step_of_interrupt hr hm, fun hi hdbg hd => ?_, fun hi hd c t hf => ?_⟩, fun s hdbg he => ?_⟩
  · have hits : instrMatches s = matchBits (instrMatch s.csr s.pc) := if_pos hdbg
    rw [← hits] at hd ⊢
    exact step_of_instrMatch hr hm hi hd
  · exact step_of_fetch_exc hr hm hi hd hf
  · simp [singleStep, hdbg, he]

end Sys2Proof.Machine

namespace Sys2Proof.Machine

/-! ## The element loop (48_vector R843) -/

section loop

variable {f : Nat → State → Res Unit} {P : Nat → State → Prop}

/-- What every element processed or passed over carries from its number to the next, the loop carries to its end. -/
theorem vecLoop_invariant {mk : Word} {hi : Nat}
    (on : ∀ e t, e < hi → bitAt mk e = true → P e t → ∃ u, f e t = .ok () u ∧ P (e + 1) u)
    (off : ∀ e t, e < hi → bitAt mk e = false → P e t → P (e + 1) t) :
    ∀ (n e : Nat) (t : State), e + n = hi → P e t → ∃ u, vecLoop mk f n e t = .ok () u ∧ P hi u
  | 0, _, t, he, h => ⟨t, rfl, he ▸ h⟩
  | n + 1, e, t, he, h => by
    rw [vecLoop]
    cases hb : bitAt mk e with
    | false => exact vecLoop_invariant on off n (e + 1) t (by omega) (off e t (by omega) hb h)
    | true =>
      obtain ⟨u, hu, next⟩ := on e t (by omega) hb h
      rw [if_pos rfl, hu, Res.ok_andThen]
      exact vecLoop_invariant on off n (e + 1) u (by omega) next

/-- An element below VL is enabled by its mask bit. -/
theorem enabled_of_lt {s : State} {m : BitVec 3} {e : Nat} (h : e < vecCount s) :
    enabled s m e = bitAt (s.mask m) e := by
  have below : decide (e < min s.vl.toNat 63) = true := decide_eq_true h
  rw [enabled, below, Bool.true_and]

theorem bitAt_of_enabled {s : State} {m : BitVec 3} {e : Nat} (h : enabled s m e = true) :
    bitAt (s.mask m) e = true :=
  (Bool.and_eq_true_iff.1 h).2

theorem lt_of_enabled {s : State} {m : BitVec 3} {e : Nat} (h : enabled s m e = true) : e < vecCount s :=
  of_decide_eq_true (Bool.and_eq_true_iff.1 h).1

theorem vecCount_le (s : State) : vecCount s ≤ 63 := Nat.min_le_right _ _

/-- An enabled element has a place in its register. -/
theorem place_of_enabled {s : State} {m : BitVec 3} {e : Nat} (h : enabled s m e = true) : e < 64 :=
  Nat.lt_of_lt_of_le (lt_of_enabled h) (Nat.le_succ_of_le (vecCount_le s))

/-- The enabled elements below one that is not enabled are those up to it. -/
theorem lt_iff_of_not_enabled {s : State} {m : BitVec 3} {e i : Nat} (he : enabled s m e = false)
    (hi : enabled s m i = true) : i < e ↔ i < e + 1 := by
  have other : i ≠ e := by
    rintro rfl
    rw [he] at hi
    cases hi
  omega

/-- The loop over the enabled elements below VL: an invariant of its elements holds after all of them. -/
theorem vecEach_invariant {m : BitVec 3} {s : State} (start : P 0 s)
    (on : ∀ e t, enabled s m e = true → P e t → ∃ u, f e t = .ok () u ∧ P (e + 1) u)
    (off : ∀ e t, enabled s m e = false → bitAt (s.mask m) e = false → P e t → P (e + 1) t) :
    ∃ u, vecEach m f s = .ok () u ∧ P (vecCount s) u :=
  vecLoop_invariant (fun e t he hb => on e t ((enabled_of_lt he).trans hb))
    (fun e t he hb => off e t ((enabled_of_lt he).trans hb) hb) (vecCount s) 0 s (Nat.zero_add _) start

end loop

/-! ## The conditions that FSTAT gathers (48_vector R846, 47_float R768) -/

section fstat

variable (s : State) (m : BitVec 3) (k : Nat → Word → Word)

/-- FSTAT after the enabled elements below n, in ascending order, where element e makes w into k e w. -/
def vecFstatTo (n : Nat) : Word :=
  (List.range n).foldl (fun w e => if bitAt (s.mask m) e then k e w else w) s.csr.fstat

theorem vecFstatTo_vecCount (r : Nat → FpResult) (f : FpResult → Word → Word) :
    vecFstatTo s m (fun e => f (r e)) (vecCount s) = vecFstat s m r f := rfl

theorem vecFstatTo_succ (n : Nat) :
    vecFstatTo s m k (n + 1) = if bitAt (s.mask m) n then k n (vecFstatTo s m k n) else vecFstatTo s m k n := by
  rw [vecFstatTo, List.range_succ, List.foldl_append]
  rfl

/-- What every element leaves, all of them leave. -/
theorem vecFstatTo_keeps {α : Type} (p : Word → α) (h : ∀ e w, p (k e w) = p w) (n : Nat) :
    p (vecFstatTo s m k n) = p s.csr.fstat := by
  induction n with
  | zero => rfl
  | succ n ih =>
    rw [vecFstatTo_succ]
    split
    · rw [h, ih]
    · exact ih

/-- The enables of FSTAT are no condition: gathering leaves them. -/
theorem fstatNote_enables (w : Word) (exc : BitVec 5) (types : BitVec 8) :
    (field (fstatNote w exc types) 24 5 : BitVec 5) = field w 24 5 := by
  unfold fstatNote fstatGx
  dsimp only
  split <;> simp [setBitAt, field_setField_of_disjoint]

theorem fstatAfter_enables (status : FpResult → BitVec 7) (r : FpResult) (w : Word) :
    (field (fstatAfter status r w) 24 5 : BitVec 5) = field w 24 5 :=
  (field_setField_of_disjoint _ _ _ _ _ (.inr (by decide))).trans (fstatNote_enables _ _ _)

end fstat

/-! ## The loop of an instruction that writes elements of one vector register (48_vector R845, R846) -/

section elements

variable {s : State} {m : BitVec 3} {vt : RegNo} {g : Nat → Word} {k : Nat → Word → Word}

/-- The state s with other vector registers, and another FSTAT. -/
abbrev vecState (s : State) (x : Store Word) (w : Word) : State := { s.withFstat w with v := x }

/-- The vector registers before element n: the enabled elements of vt below n hold g, every other one is as in s. -/
structure WrittenTo (s : State) (m : BitVec 3) (vt : RegNo) (g : Nat → Word) (n : Nat) (x : Store Word) : Prop where
  wf : StoreWf 0 x
  vec : ∀ q, ∀ e < 64, State.vec { s with v := x } q e =
    if q = vt ∧ enabled s m e = true ∧ e < n then g e else s.vec q e

/-- What one element does: it writes its element of vt and gathers its conditions, with its sources as they were before
the instruction and the enables of FSTAT as they were. -/
def WritesElement (s : State) (m : BitVec 3) (vt : RegNo) (g : Nat → Word) (k : Nat → Word → Word)
    (f : Nat → State → Res Unit) : Prop :=
  ∀ (e : Nat) (x : Store Word) (w : Word), enabled s m e = true → (∀ q, (vecState s x w).vec q e = s.vec q e) →
    (field w 24 5 : BitVec 5) = field s.csr.fstat 24 5 →
    f e (vecState s x w) = .ok () (((vecState s x w).setVec vt e (g e)).withFstat (k e w))

theorem WrittenTo.zero (hv : StoreWf 0 s.v) : WrittenTo s m vt g 0 s.v :=
  ⟨hv, fun _ _ _ => (if_neg (by omega)).symm⟩

/-- An element that is not enabled is passed over. -/
theorem WrittenTo.skip {e : Nat} {x : Store Word} (h : WrittenTo s m vt g e x) (hb : enabled s m e = false) :
    WrittenTo s m vt g (e + 1) x where
  wf := h.wf
  vec q i hi := by
    rw [h.vec q i hi]
    exact if_congr (and_congr_right fun _ => and_congr_right fun hen => lt_iff_of_not_enabled hb hen) rfl rfl

/-- An enabled element is written. -/
theorem WrittenTo.write {e : Nat} {x : Store Word} (h : WrittenTo s m vt g e x) (hb : enabled s m e = true) :
    WrittenTo s m vt g (e + 1) (storeSet 0 x (vt.toNat * 64 + e) (g e)) where
  wf := storeSet_wf _ _ _ _ h.wf
  vec q i hi := by
    refine (vec_setVec { s with v := x } vt q e i (g e) h.wf (place_of_enabled hb) hi).trans ?_
    rw [h.vec q i hi]
    by_cases here : q = vt ∧ i = e
    · obtain ⟨rfl, rfl⟩ := here
      rw [if_pos ⟨rfl, rfl⟩, if_pos ⟨rfl, hb, Nat.lt_succ_self i⟩]
    · rw [if_neg here]
      refine if_congr (and_congr_right fun hq => and_congr_right fun _ => ?_) rfl rfl
      have other : i ≠ e := fun he => here ⟨hq, he⟩
      omega

/-- The elements from n on are those before the instruction. -/
theorem WrittenTo.source {n : Nat} {x : Store Word} (h : WrittenTo s m vt g n x) {e : Nat} (hn : n ≤ e) (he : e < 64)
    (q : RegNo) : State.vec { s with v := x } q e = s.vec q e := by
  rw [h.vec q e he, if_neg (by omega)]

/-- The elements written are those that are enabled. -/
theorem WrittenTo.vecElems {x : Store Word} (h : WrittenTo s m vt g (vecCount s) x) {t : State} (ht : t.v = x) :
    VecElems s t vt (enabled s m) g := by
  subst ht
  refine ⟨fun e he => (h.vec vt e he).trans (if_congr ?_ rfl rfl), fun q hq e he => ?_⟩
  · exact ⟨fun ⟨_, hen, _⟩ => hen, fun hen => ⟨rfl, hen, lt_of_enabled hen⟩⟩
  · exact (h.vec q e he).trans (if_neg fun h => hq h.1)

/-- The loop writes the enabled elements of vt and gathers what they give, and the instruction goes on. -/
theorem vecEach_writes {f : Nat → State → Res Unit} (hv : StoreWf 0 s.v)
    (hk : ∀ e w, (field (k e w) 24 5 : BitVec 5) = field w 24 5) (hf : WritesElement s m vt g k f) :
    ∃ t, (vecEach m f s).retire = .next t ∧ VecElems s t vt (enabled s m) g ∧
      { t with v := s.v } = (s.withFstat (vecFstatTo s m k (vecCount s))).advance := by
  obtain ⟨u, hu, x, rfl, hx⟩ := vecEach_invariant (m := m) (s := s) (f := f)
    (P := fun n t => ∃ x, t = vecState s x (vecFstatTo s m k n) ∧ WrittenTo s m vt g n x) ⟨s.v, rfl, .zero hv⟩
    (fun e t hb ⟨x, ht, hx⟩ => by
      have done := hf e x (vecFstatTo s m k e) hb (hx.source (Nat.le_refl e) (place_of_enabled hb))
        (vecFstatTo_keeps s m k (fun w => (field w 24 5 : BitVec 5)) hk e)
      rw [← ht] at done
      refine ⟨_, done, _, ?_, hx.write hb⟩
      rw [vecFstatTo_succ, if_pos (bitAt_of_enabled hb), ht]
      rfl)
    (fun e t hb hbit ⟨x, ht, hx⟩ => by
      refine ⟨x, ?_, hx.skip hb⟩
      rw [vecFstatTo_succ, hbit, if_neg Bool.false_ne_true, ht])
  exact ⟨_, by rw [hu, Res.retire_ok], hx.vecElems rfl, rfl⟩

/-- A loop that gathers nothing leaves FSTAT. -/
theorem vecEach_writes_only {f : Nat → State → Res Unit} (hv : StoreWf 0 s.v)
    (hf : WritesElement s m vt g (fun _ w => w) f) :
    ∃ t, (vecEach m f s).retire = .next t ∧ VecElems s t vt (enabled s m) g ∧ { t with v := s.v } = s.advance := by
  obtain ⟨t, ht, elems, rest⟩ := vecEach_writes hv (fun _ _ => rfl) hf
  have unchanged : vecFstatTo s m (fun _ w => w) (vecCount s) = s.csr.fstat :=
    vecFstatTo_keeps s m _ id (fun _ _ => rfl) _
  rw [unchanged] at rest
  exact ⟨t, ht, elems, rest⟩

end elements

end Sys2Proof.Machine

namespace Sys2Proof.Machine

/-! ## Element-wise instructions without conditions (48_vector R860 to R882, R889) -/

section ready

variable {i : Instr} {rs : List RegNo} {s : State} {ok : Bool}

/-- A vector instruction whose unit, form and registers exist does what it states; any other is reserved. -/
theorem vecInstr_of_ready (h : vecReady s ok rs = true) (o : Outcome) : vecInstr ok rs s o = o := if_pos h

theorem vecInstr_of_not_ready (h : vecReady s ok rs = false) (o : Outcome) : vecInstr ok rs s o = reserved s :=
  if_neg (ne_true_of_eq_false h)

theorem isReserved_of_vecInstr {o : Outcome} (hi : exec i s = vecInstr ok rs s o) (h : vecReady s ok rs = false) :
    IsReserved i s :=
  (hi.trans (vecInstr_of_not_ready h o)).trans (reserved_eq s)

end ready

/-- The low six bits of a word, as a number: a shift amount or an element number. -/
theorem toNat_field_six (w : Word) : (field w 0 6 : BitVec 6).toNat = w.toNat % 64 :=
  (Nat.mod_eq_of_lt (BitVec.isLt _)).symm.trans (toNat_countField w)

section elementwise

variable {ok form : State → Bool} {i : Instr} {rs : List RegNo} {m : BitVec 3} {vt : RegNo}

/-- An instruction that maps its source elements, whose values are read before their element is written. -/
theorem vecWrites_of_vecMap {g : State → Nat → Word} {f : State → Nat → State → Word}
    (hok : ∀ s, ok s = vecReady s (form s) rs) (hi : ∀ s, exec i s = vecInstr (form s) rs s (vecMap m vt (f s) s))
    (hf : ∀ s e t, (∀ q, t.vec q e = s.vec q e) → f s e t = g s e) :
    VecWrites ok i vt (fun s => enabled s m) g := by
  refine fun s => ⟨fun h hv => ?_, fun h => isReserved_of_vecInstr (hi s) ((hok s).symm.trans h)⟩
  rw [hi, vecInstr_of_ready ((hok s).symm.trans h)]
  refine vecEach_writes_only hv fun e x w _ source _ => ?_
  rw [putV, hf s e _ source]
  rfl

/-- The same with the operation written over the source elements. -/
theorem vecWrites_of_sources (F : State → Nat → (RegNo → Word) → Word) (hok : ∀ s, ok s = vecReady s (form s) rs)
    (hi : ∀ s, exec i s = vecInstr (form s) rs s (vecMap m vt (fun e t => F s e fun q => t.vec q e) s)) :
    VecWrites ok i vt (fun s => enabled s m) fun s e => F s e fun q => s.vec q e :=
  vecWrites_of_vecMap hok hi fun s e _ source => congrArg (F s e) (funext source)

end elementwise

end Sys2Proof.Machine

namespace Sys2Proof.Machine

/-- The precision check of a form, as the claims write it (R842). -/
theorem vecLenOk_eq (len : VecLen) (s : State) :
    (match len with | .short => true | .long p _ => p == 2 || s.cfg.fpPrcIgnored) = vecLenOk s len := by
  cases len <;> rfl

/-- The amount of a vector shift, as the spec writes it: a register, an element or an immediate (R878). The element
is the one before the instruction. -/
theorem vecShiftAmt_eq (sl : ShiftLen) (b : RegNo) (s t : State) (e : Nat) (source : ∀ q, t.vec q e = s.vec q e) :
    vecShiftAmt sl b s t e = match sl with
      | .short => (s.x b).toNat % 64
      | .long s2 _ _ => if s2 = 0 then (s.x b).toNat % 64 else if s2 = 1 then (s.vec b e).toNat % 64 else b.toNat := by
  cases sl with
  | short => exact toNat_field_six _
  | long s2 p r =>
    obtain rfl | rfl | rfl | rfl : s2 = 0 ∨ s2 = 1 ∨ s2 = 2 ∨ s2 = 3 := by
      revert s2
      decide
    · exact toNat_field_six _
    · exact (toNat_field_six _).trans (congrArg (·.toNat % 64) (source b))
    · rfl
    · rfl

/-- A one-source operation, as the spec writes it. -/
theorem vecWrites_of_vecOne {ok : State → Bool} {i : Instr} {len : VecLen} {m : BitVec 3} {vt va : RegNo}
    {f g : Word → Word} (hok : ∀ s, ok s = vecReady s (vecLenOk s len) [vt, va])
    (hi : ∀ s, exec i s = vecOne f len m vt va s) (hf : ∀ a, f a = g a) :
    VecWrites ok i vt (fun s => enabled s m) fun s e => g (s.vec va e) :=
  vecWrites_of_vecMap hok hi fun _ _ _ source => (congrArg f (source va)).trans (hf _)

/-- The absolute value of an element (R869). -/
theorem vabs_eq (fp : Bool) (a : Word) : (if fp then fpAbsolute else fnAbs 64) a =
    if fp then a &&& 0x7FFFFFFFFFFFFFFF else if a.slt 0 then -a else a := by
  have negate : (0 : Word) - a = -a := BitVec.zero_sub a
  cases fp
  · rw [if_neg Bool.false_ne_true, if_neg Bool.false_ne_true, fnAbs, negate]
  · rfl

/-- The sign of an element (R870). -/
theorem vsign_eq (fp : Bool) (a : Word) : (if fp then fpSignum else wSign) a =
    if fp then fpSignum a else if a.slt 0 then -1 else if a = 0 then 0 else 1 := by
  have ones : BitVec.allOnes 64 = (-1 : Word) := by decide
  cases fp
  · rw [if_neg Bool.false_ne_true, if_neg Bool.false_ne_true, wSign, ones]
  · rfl

/-- Settles O55: each instruction maps the operation, as the spec writes it, over its source elements. -/
theorem vectorElementwiseResults : Obligations.VectorElementwiseResults := by
  intro fp len sl m vt va vb ra rb amt ready shReady amount
  have form (rs : List RegNo) (s : State) : ready rs s = vecReady s (vecLenOk s len) rs :=
    congrArg (vecReady s · rs) (vecLenOk_eq len s)
  have shForm (s : State) : shReady s = vecReady s (vecShiftOk s sl) (vecShiftRegs sl vt va vb) := by
    cases sl <;> rfl
  have shift (f : Word → Nat → Word) {i : Instr} (hi : ∀ s, exec i s = vecShift f sl m vt va vb s) :
      VecWrites shReady i vt (fun s => enabled s m) fun s e => f (s.vec va e) (amount s e) := by
    refine vecWrites_of_vecMap shForm hi fun s e t source => congrArg₂ f (source va) ?_
    cases sl <;> exact vecShiftAmt_eq _ vb s t e source
  refine ⟨vecWrites_of_sources (fun _ _ v => v va + v vb) (form _) fun _ => rfl,
    vecWrites_of_sources (fun _ _ v => v va - v vb) (form _) fun _ => rfl,
    vecWrites_of_sources (fun _ _ v => v va * v vb) (form _) fun _ => rfl,
    vecWrites_of_sources (fun s _ v => fnDivS s.cfg.divByZero 64 (v va) (v vb)) (form _) fun _ => rfl,
    vecWrites_of_sources (fun s _ v => v va + s.x rb) (form _) fun _ => rfl,
    vecWrites_of_sources (fun s _ v => v va - s.x rb) (form _) fun _ => rfl,
    vecWrites_of_sources (fun s _ v => v va * s.x rb) (form _) fun _ => rfl,
    vecWrites_of_sources (fun s _ v => fnDivS s.cfg.divByZero 64 (v va) (s.x rb)) (form _) fun _ => rfl,
    vecWrites_of_sources (fun s _ v => s.x rb - v va) (form _) fun _ => rfl,
    vecWrites_of_vecOne (f := fun a => 0 - a) (form _) (fun _ => rfl) BitVec.zero_sub,
    vecWrites_of_sources (fun _ _ v => v va &&& v vb) (form _) fun _ => rfl,
    vecWrites_of_sources (fun s _ v => v va &&& s.x rb) (form _) fun _ => rfl,
    vecWrites_of_sources (fun _ _ v => v va ||| v vb) (form _) fun _ => rfl,
    vecWrites_of_sources (fun s _ v => v va ||| s.x rb) (form _) fun _ => rfl,
    vecWrites_of_sources (fun _ _ v => v va ^^^ v vb) (form _) fun _ => rfl,
    vecWrites_of_sources (fun s _ v => v va ^^^ s.x rb) (form _) fun _ => rfl,
    vecWrites_of_vecOne (form _) (fun _ => rfl) (vabs_eq fp),
    vecWrites_of_vecOne (form _) (fun _ => rfl) (vsign_eq fp),
    vecWrites_of_vecOne (form _) (fun _ => rfl) fun a => congrArg (BitVec.ofNat 64) (ones_eq_length a 64),
    vecWrites_of_sources (fun s e _ => boolWord (bitAt (s.x ra) e)) (form _) fun _ => rfl,
    vecWrites_of_sources (fun s e _ => if amt.toNat ≤ e then s.vec va (e - amt.toNat) else 0) (form _) fun _ => rfl,
    vecWrites_of_sources (fun s e _ => if e + amt.toNat < vecCount s then s.vec va (e + amt.toNat) else 0) (form _)
      fun _ => rfl,
    shift _ fun _ => rfl, shift _ fun _ => rfl, shift _ fun _ => rfl⟩

end Sys2Proof.Machine

namespace Sys2Proof.Machine

/-! ## Floating-point element operations (48_vector R842 to R846) -/

section floatElements

variable {ok form : State → Bool} {i : Instr} {rs : List RegNo} {m : BitVec 3} {vt : RegNo}
  {status : FpResult → BitVec 7}

/-- Conditions that are not enabled are noted, and nothing is raised (47_float R768). -/
theorem fpFlags_of_untrapped {t : State} (h : field t.csr.fstat 24 5 = (0 : BitVec 5)) (r : FpResult) :
    fpFlags r t = .ok () (t.withFstat (fstatNote t.csr.fstat r.exc r.types)) := by
  have untrapped : r.exc &&& field (t.withFstat (fstatNote t.csr.fstat r.exc r.types)).csr.fstat 24 5 = 0 := by
    rw [withFstat_csr, fstatNote_enables, h]
    exact BitVec.and_zero
  rw [fpFlags, if_pos untrapped]

/-- An element result with no exception enabled: it is written, and its conditions and status go to FSTAT (R768). -/
theorem fpFinish_putV {r : FpResult} {t : State} (h : field t.csr.fstat 24 5 = (0 : BitVec 5)) (e : Nat) :
    fpFinish status (putV vt e) r t =
      .ok () ((t.setVec vt e r.bits).withFstat (fstatAfter status r t.csr.fstat)) := by
  rw [fpFinish, fpFlags_of_untrapped h]
  rfl

/-- An instruction that maps a floating-point operation over its source elements. -/
theorem vecFpWrites_of_sources (F : State → Nat → (RegNo → Word) → FpResult)
    (hok : ∀ s, ok s = vecReady s (form s) rs)
    (hi : ∀ s, exec i s = vecInstr (form s) rs s (vecMapFp m vt status (fun e t => F s e fun q => t.vec q e) s)) :
    VecFpWrites ok i m vt status fun s e => F s e fun q => s.vec q e := by
  refine fun s => ⟨fun h hv enables => ?_, fun h => isReserved_of_vecInstr (hi s) ((hok s).symm.trans h)⟩
  rw [hi, vecInstr_of_ready ((hok s).symm.trans h), ← vecFstatTo_vecCount]
  refine vecEach_writes (k := fun e => fstatAfter status (F s e fun q => s.vec q e)) hv
    (fun _ _ => fstatAfter_enables _ _ _) fun e x w _ source hw => ?_
  have untrapped : field (vecState s x w).csr.fstat 24 5 = (0 : BitVec 5) := hw.trans enables
  have result : (F s e fun q => (vecState s x w).vec q e) = F s e fun q => s.vec q e :=
    congrArg (F s e) (funext source)
  exact (congrArg (fpFinish status (putV vt e) · _) result).trans (fpFinish_putV untrapped e)

end floatElements

/-- The rounding environment of a form, as the claims write it (R842, R763). -/
theorem vecEnv_eq (s : State) (op : Bool) (len : VecLen) : vecEnv s op len =
    { mode := fpMode (match len with
        | .short => field s.csr.fstat 29 3
        | .long _ r => if op = false ∨ r = s.cfg.rmDynamic then field s.csr.fstat 29 3 else r)
      tininess := s.cfg.fpTininess, nan := s.cfg.fpNanResult } := by
  cases len with
  | short => rfl
  | long p r =>
    cases op with
    | false => rfl
    | true => simp [vecEnv, vecRm, rmEff, fpEnv, State.fpRm]

/-- Settles O56: each instruction maps the floating-point operation over its source elements. -/
theorem vectorFloatResults : Obligations.VectorFloatResults := by
  intro fp len m vt va vb rb ready env
  have form (rs : List RegNo) (s : State) : ready rs s = vecReady s (vecLenOk s len) rs :=
    congrArg (vecReady s · rs) (vecLenOk_eq len s)
  have environment : env = fun op s => vecEnv s op len := funext fun op => funext fun s => (vecEnv_eq s op len).symm
  rw [environment]
  exact ⟨vecFpWrites_of_sources (fun s _ v => fpAdd (vecEnv s true len) (v va) (v vb)) (form _) fun _ => rfl,
    vecFpWrites_of_sources (fun s _ v => fpSub (vecEnv s true len) (v va) (v vb)) (form _) fun _ => rfl,
    vecFpWrites_of_sources (fun s _ v => fpMul (vecEnv s true len) (v va) (v vb)) (form _) fun _ => rfl,
    vecFpWrites_of_sources (fun s _ v => fpDiv (vecEnv s true len) (v va) (v vb)) (form _) fun _ => rfl,
    vecFpWrites_of_sources (fun s _ v => fpAdd (vecEnv s true len) (v va) (s.f rb)) (form _) fun _ => rfl,
    vecFpWrites_of_sources (fun s _ v => fpSub (vecEnv s true len) (v va) (s.f rb)) (form _) fun _ => rfl,
    vecFpWrites_of_sources (fun s _ v => fpMul (vecEnv s true len) (v va) (s.f rb)) (form _) fun _ => rfl,
    vecFpWrites_of_sources (fun s _ v => fpDiv (vecEnv s true len) (v va) (s.f rb)) (form _) fun _ => rfl,
    vecFpWrites_of_sources (fun s _ v => fpSub (vecEnv s true len) (s.f rb) (v va)) (form _) fun _ => rfl,
    vecFpWrites_of_sources (fun s _ v => fpSub (vecEnv s true len) 0 (v va)) (form _) fun _ => rfl,
    vecFpWrites_of_sources (fun s _ v => fpToInt (vecEnv s fp len) (v va)) (form _) fun _ => rfl,
    vecFpWrites_of_sources (fun s _ v => fpOfInt (vecEnv s fp len) (v va)) (form _) fun _ => rfl⟩

end Sys2Proof.Machine

namespace Sys2Proof.Machine

/-! ## Compares: the mask bits of the enabled elements (48_vector R893) -/

section compares

variable {s : State} {m mt cn : BitVec 3} {g : Nat → Bool} {k : Nat → Word → Word}

/-- The state s with other mask registers, and another FSTAT. -/
abbrev maskState (s : State) (x : Bank8) (w : Word) : State := { s.withFstat w with vm := x }

theorem mask_setMask (s : State) (j k : BitVec 3) (w : Word) :
    (s.setMask j w).mask k = if k = j then w else s.mask k := by
  have number (a : BitVec 3) : a.toNat % 8 = a.toNat := Nat.mod_eq_of_lt a.isLt
  refine (bank8Get_set s.vm j.toNat k.toNat w).trans (if_congr ?_ rfl rfl)
  rw [number, number]
  exact BitVec.toNat_inj

/-- The mask registers before element n: the bits of mt of the enabled elements below n hold g, every other bit is as
in s. -/
structure ComparedTo (s : State) (m mt : BitVec 3) (g : Nat → Bool) (n : Nat) (x : Bank8) : Prop where
  bit : ∀ e < 64, bitAt (State.mask { s with vm := x } mt) e =
    if enabled s m e = true ∧ e < n then g e else bitAt (s.mask mt) e
  other : ∀ j, j ≠ mt → State.mask { s with vm := x } j = s.mask j

theorem ComparedTo.zero : ComparedTo s m mt g 0 s.vm :=
  ⟨fun _ _ => (if_neg (by omega)).symm, fun _ _ => rfl⟩

theorem ComparedTo.skip {e : Nat} {x : Bank8} (h : ComparedTo s m mt g e x) (hb : enabled s m e = false) :
    ComparedTo s m mt g (e + 1) x where
  other := h.other
  bit i hi := by
    rw [h.bit i hi]
    exact if_congr (and_congr_right fun hen => lt_iff_of_not_enabled hb hen) rfl rfl

theorem ComparedTo.write {e : Nat} {x : Bank8} (h : ComparedTo s m mt g e x) (hb : enabled s m e = true) :
    ComparedTo s m mt g (e + 1) (State.setMaskBit { s with vm := x } mt e (g e)).vm where
  other j hj := by
    refine Eq.trans ?_ (h.other j hj)
    exact (mask_setMask { s with vm := x } mt j _).trans (if_neg hj)
  bit i hi := by
    have written : State.mask { s with vm := (State.setMaskBit { s with vm := x } mt e (g e)).vm } mt =
        setBitAt (State.mask { s with vm := x } mt) e (g e) :=
      (mask_setMask { s with vm := x } mt mt _).trans (if_pos rfl)
    rw [written, bitAt_setBitAt _ _ _ hi, h.bit i hi]
    by_cases here : i = e
    · subst here
      rw [if_pos rfl, if_pos ⟨hb, Nat.lt_succ_self i⟩]
    · rw [if_neg here]
      exact if_congr (and_congr_right fun _ => by omega) rfl rfl

/-- The loop writes the mask bits of the enabled elements and gathers what they give, and the instruction goes on. -/
theorem vecEach_compares {f : Nat → State → Res Unit}
    (hk : ∀ e w, (field (k e w) 24 5 : BitVec 5) = field w 24 5)
    (hf : ∀ e x w, (field w 24 5 : BitVec 5) = field s.csr.fstat 24 5 →
      f e (maskState s x w) = .ok () (((maskState s x w).setMaskBit mt e (g e)).withFstat (k e w))) :
    ∃ t, (vecEach m f s).retire = .next t ∧
      MaskBits s t mt (enabled s m) g (vecFstatTo s m k (vecCount s)) := by
  obtain ⟨u, hu, x, rfl, hx⟩ := vecEach_invariant (m := m) (s := s) (f := f)
    (P := fun n t => ∃ x, t = maskState s x (vecFstatTo s m k n) ∧ ComparedTo s m mt g n x) ⟨s.vm, rfl, .zero⟩
    (fun e t hb ⟨x, ht, hx⟩ => by
      have done := hf e x (vecFstatTo s m k e) (vecFstatTo_keeps s m k (fun w => (field w 24 5 : BitVec 5)) hk e)
      rw [← ht] at done
      refine ⟨_, done, _, ?_, hx.write hb⟩
      rw [vecFstatTo_succ, if_pos (bitAt_of_enabled hb), ht]
      rfl)
    (fun e t hb hbit ⟨x, ht, hx⟩ => by
      refine ⟨x, ?_, hx.skip hb⟩
      rw [vecFstatTo_succ, hbit, if_neg Bool.false_ne_true, ht])
  refine ⟨(maskState s x _).advance, by rw [hu, Res.retire_ok],
    fun e he => (hx.bit e he).trans (if_congr ?_ rfl rfl), hx.other, rfl⟩
  exact ⟨fun h => h.1, fun h => ⟨h, lt_of_enabled h⟩⟩

/-- A compare of integer elements, of operands that the masks and FSTAT have no part in. -/
theorem vecCmpInt_compares (lt : Word → Word → Bool) {a b : Nat → State → Word}
    (ha : ∀ e x w, a e (maskState s x w) = a e s) (hb : ∀ e x w, b e (maskState s x w) = b e s) :
    ∃ t, vecCmpInt lt cn mt m a b s = .next t ∧
      MaskBits s t mt (enabled s m) (fun e => intCond lt cn (a e s) (b e s)) s.csr.fstat := by
  obtain ⟨t, ht, bits⟩ := vecEach_compares (s := s) (m := m) (mt := mt) (k := fun _ w => w)
    (g := fun e => intCond lt cn (a e s) (b e s))
    (f := fun e t => .ok () (t.setMaskBit mt e (intCond lt cn (a e t) (b e t)))) (fun _ _ => rfl)
    (fun e x w _ => by rw [ha, hb]; rfl)
  have unchanged : vecFstatTo s m (fun _ w => w) (vecCount s) = s.csr.fstat :=
    vecFstatTo_keeps s m _ id (fun _ _ => rfl) _
  rw [unchanged] at bits
  exact ⟨t, ht, bits⟩

/-- A compare of floating-point elements with no exception enabled. -/
theorem vecCmpFp_compares {a b : Nat → State → Word} (ha : ∀ e x w, a e (maskState s x w) = a e s)
    (hb : ∀ e x w, b e (maskState s x w) = b e s) (enables : field s.csr.fstat 24 5 = (0 : BitVec 5)) :
    ∃ t, vecCmpFp cn mt m a b s = .next t ∧
      MaskBits s t mt (enabled s m) (fun e => fpCond cn (a e s) (b e s))
        (vecFstat s m (fun e => fpQuietCmp (a e s) (b e s) 0) fun r w => fstatNote w r.exc r.types) := by
  rw [← vecFstatTo_vecCount]
  refine vecEach_compares (k := fun e w => fstatNote w (fpQuietCmp (a e s) (b e s) 0).exc
    (fpQuietCmp (a e s) (b e s) 0).types) (fun _ _ => fstatNote_enables _ _ _) fun e x w hw => ?_
  have untrapped : field (maskState s x w).csr.fstat 24 5 = (0 : BitVec 5) := hw.trans enables
  rw [ha, hb, fpFlags_of_untrapped untrapped, Res.ok_andThen]
  rfl

/-- Every condition code. -/
theorem conditionCode_cases (cn : BitVec 3) :
    cn = 0 ∨ cn = 1 ∨ cn = 2 ∨ cn = 3 ∨ cn = 4 ∨ cn = 5 ∨ cn = 6 ∨ cn = 7 := by
  revert cn
  decide

theorem intCond_eq (lt : Word → Word → Bool) (cn : BitVec 3) (a b : Word) : intCond lt cn a b =
    if cn = 0 then a == b else if cn = 1 then a != b else if cn = 2 then lt a b else if cn = 3 then !lt a b
    else if cn = 4 then !lt b a else if cn = 5 then lt b a else false := by
  rcases conditionCode_cases cn with rfl | rfl | rfl | rfl | rfl | rfl | rfl | rfl <;> rfl

theorem fpCond_eq (cn : BitVec 3) (a b : Word) : fpCond cn a b =
    if cn = 0 then fpEq a b else if cn = 1 then !fpEq a b else if cn = 2 then fpLt a b else if cn = 3 then fpLe b a
    else if cn = 4 then fpLe a b else if cn = 5 then fpLt b a else if cn = 7 then fpUnordered a b else false := by
  rcases conditionCode_cases cn with rfl | rfl | rfl | rfl | rfl | rfl | rfl | rfl <;> rfl

end compares

/-- Settles O57: each compare by its loop, and its condition as the spec writes it. -/
theorem vectorComparesSetMaskBits : Obligations.VectorComparesSetMaskBits := by
  intro len m cn mt va vb rb s form int flt note sets gathered
  have formEq : form = vecLenOk s len := vecLenOk_eq len s
  have integer (lt : Word → Word → Bool) : int lt = intCond lt cn :=
    funext fun a => funext fun b => (intCond_eq lt cn a b).symm
  have float : flt = fpCond cn := funext fun a => funext fun b => (fpCond_eq cn a b).symm
  have compare {i : Instr} {rs : List RegNo} {c : Nat → Bool} {w : Word} {o : Outcome}
      (hi : exec i s = vecInstr (vecLenOk s len && cn != 6) rs s o)
      (ho : ∃ t, o = .next t ∧ MaskBits s t mt (enabled s m) c w) : sets i rs c w := by
    obtain ⟨t, rfl, bits⟩ := ho
    rw [← formEq] at hi
    exact ⟨fun h => ⟨t, hi.trans (vecInstr_of_ready h _), bits⟩, isReserved_of_vecInstr hi⟩
  rw [integer, integer, float]
  exact ⟨compare rfl (vecCmpInt_compares _ (fun _ _ _ => rfl) fun _ _ _ => rfl),
    compare rfl (vecCmpInt_compares _ (fun _ _ _ => rfl) fun _ _ _ => rfl),
    compare rfl (vecCmpInt_compares _ (fun _ _ _ => rfl) fun _ _ _ => rfl),
    compare rfl (vecCmpInt_compares _ (fun _ _ _ => rfl) fun _ _ _ => rfl), fun enables =>
    ⟨compare rfl (vecCmpFp_compares (fun _ _ _ => rfl) (fun _ _ _ => rfl) enables),
      compare rfl (vecCmpFp_compares (fun _ _ _ => rfl) (fun _ _ _ => rfl) enables)⟩⟩

end Sys2Proof.Machine

namespace Sys2Proof.Machine

/-! ## Compress and scan (48_vector R886 to R888) -/

section pack

variable {mk : Word} {vt : RegNo}

/-- The elements from e among the next n whose mask bit is set, in ascending order. -/
def enabledFrom (mk : Word) (e n : Nat) : List Nat := (List.range' e n).filter fun i => bitAt mk i

theorem enabledFrom_succ (mk : Word) (e n : Nat) :
    enabledFrom mk e (n + 1) = if bitAt mk e then e :: enabledFrom mk (e + 1) n else enabledFrom mk (e + 1) n := by
  rw [enabledFrom, List.range'_succ, List.filter_cons]
  rfl

theorem enabledFrom_zero (mk : Word) (n : Nat) :
    enabledFrom mk 0 n = (List.range n).filter fun e => bitAt mk e := by
  rw [enabledFrom, ← List.range_eq_range']

/-- Compression writes one element of vt for each enabled one, from y on, and nothing else. -/
theorem vecPack_vec (f : Nat → Word) : ∀ (n e y : Nat) (t : State), StoreWf 0 t.v → y + n ≤ 64 →
    ∀ q, ∀ i < 64, (vecPack mk vt f n e y t).vec q i =
      if q = vt ∧ y ≤ i ∧ i < y + (enabledFrom mk e n).length then f ((enabledFrom mk e n).getD (i - y) 0)
      else t.vec q i
  | 0, _, _, _, _, _, _, _, _ => by
    rw [if_neg fun h => by simp [enabledFrom] at h; omega]
    rfl
  | n + 1, e, y, t, hv, hy, q, i, hi => by
    rw [vecPack, enabledFrom_succ]
    cases bitAt mk e with
    | false => exact vecPack_vec f n (e + 1) y t hv (by omega) q i hi
    | true =>
      rw [if_pos rfl, if_pos rfl, vecPack_vec f n (e + 1) (y + 1) _ (storeSet_wf _ _ _ _ hv) (by omega) q i hi,
        vec_setVec t vt q y i _ hv (by omega) hi, List.length_cons]
      obtain before | rfl | after := lt_trichotomy i y
      · rw [if_neg (by omega), if_neg (by omega), if_neg (by omega)]
      · rw [if_neg (by omega), Nat.sub_self, List.getD_cons_zero]
        exact if_congr (by simp) rfl rfl
      · have elsewhere : ¬ (q = vt ∧ i = y) := fun h => Nat.ne_of_gt after h.2
        rw [if_neg elsewhere, show i - y = i - (y + 1) + 1 by omega, List.getD_cons_succ]
        exact if_congr (and_congr_right fun _ => by omega) rfl rfl

/-- Compression writes elements of vector registers alone. -/
theorem vecPack_rest (f : Nat → Word) : ∀ (n e y : Nat) (t : State) (x : Store Word),
    { vecPack mk vt f n e y t with v := x } = { t with v := x }
  | 0, _, _, _, _ => rfl
  | n + 1, e, y, t, x => by
    rw [vecPack]
    split
    · exact vecPack_rest f n _ _ _ x
    · exact vecPack_rest f n _ _ _ x

/-- The scan writes to each of its elements the sum of the enabled ones before it. -/
theorem vecScan_vec (v : Word) : ∀ (n e : Nat) (sum : Word) (t : State), StoreWf 0 t.v → e + n ≤ 64 →
    ∀ q, ∀ i < 64, (vecScan mk vt v n e sum t).vec q i =
      if q = vt ∧ e ≤ i ∧ i < e + n then sum + v * BitVec.ofNat 64 (enabledFrom mk e (i - e)).length else t.vec q i
  | 0, _, _, _, _, _, _, _, _ => (if_neg (by omega)).symm
  | n + 1, e, sum, t, hv, he, q, i, hi => by
    rw [vecScan, vecScan_vec v n (e + 1) _ _ (storeSet_wf _ _ _ _ hv) (by omega) q i hi,
      vec_setVec t vt q e i _ hv (by omega) hi]
    obtain before | rfl | after := lt_trichotomy i e
    · rw [if_neg (by omega), if_neg (by omega), if_neg (by omega)]
    · rw [if_neg (by omega), Nat.sub_self]
      refine if_congr (by simp) ?_ rfl
      exact (BitVec.add_zero sum).symm.trans (congrArg (sum + ·) BitVec.mul_zero.symm)
    · have elsewhere : ¬ (q = vt ∧ i = e) := fun h => Nat.ne_of_gt after h.2
      rw [if_neg elsewhere, show i - e = i - (e + 1) + 1 by omega, enabledFrom_succ]
      refine if_congr (and_congr_right fun _ => by omega) ?_ rfl
      cases bitAt mk e with
      | false => rfl
      | true =>
        have one : v * BitVec.ofNat 64 1 = v := BitVec.mul_one v
        rw [if_pos rfl, if_pos rfl, List.length_cons, BitVec.ofNat_add, BitVec.mul_add, one, BitVec.add_assoc,
          BitVec.add_comm v]

theorem vecScan_rest (v : Word) : ∀ (n e : Nat) (sum : Word) (t : State) (x : Store Word),
    { vecScan mk vt v n e sum t with v := x } = { t with v := x }
  | 0, _, _, _, _ => rfl
  | n + 1, _, _, _, x => vecScan_rest v n _ _ _ x

end pack

/-! ## Exchange (48_vector R883) -/

section exchange

variable {s : State} {m : BitVec 3} {va vb : RegNo}

/-- One element exchanged between two registers, which may be the same one. -/
theorem vec_exchange (t : State) (va vb : RegNo) {e : Nat} (hv : StoreWf 0 t.v) (he : e < 64) (q : RegNo) {i : Nat}
    (hi : i < 64) : ((t.setVec va e (t.vec vb e)).setVec vb e (t.vec va e)).vec q i =
      if i = e then t.vec (Equiv.swap va vb q) i else t.vec q i := by
  rw [vec_setVec _ _ _ _ _ _ (storeSet_wf _ _ _ _ hv) he hi, vec_setVec _ _ _ _ _ _ hv he hi]
  by_cases here : i = e
  · subst here
    rw [if_pos rfl]
    by_cases hb : q = vb
    · rw [if_pos ⟨hb, rfl⟩, hb, Equiv.swap_apply_right]
    · by_cases ha : q = va
      · rw [if_neg fun h => hb h.1, if_pos ⟨ha, rfl⟩, ha, Equiv.swap_apply_left]
      · rw [if_neg fun h => hb h.1, if_neg fun h => ha h.1, Equiv.swap_apply_of_ne_of_ne ha hb]
  · rw [if_neg fun h => here h.2, if_neg fun h => here h.2, if_neg here]

/-- The vector registers before element n: the enabled elements below n of the two registers are exchanged. -/
structure ExchangedTo (s : State) (m : BitVec 3) (va vb : RegNo) (n : Nat) (x : Store Word) : Prop where
  wf : StoreWf 0 x
  vec : ∀ q, ∀ i < 64, State.vec { s with v := x } q i =
    if enabled s m i = true ∧ i < n then s.vec (Equiv.swap va vb q) i else s.vec q i

/-- The loop exchanges the enabled elements. -/
theorem vecEach_exchanges (hv : StoreWf 0 s.v) :
    ∃ x, vecEach m (fun e t => .ok () ((t.setVec va e (t.vec vb e)).setVec vb e (t.vec va e))) s =
      .ok () { s with v := x } ∧ ExchangedTo s m va vb (vecCount s) x := by
  obtain ⟨u, hu, x, rfl, hx⟩ := vecEach_invariant (m := m) (s := s)
    (f := fun e t => .ok () ((t.setVec va e (t.vec vb e)).setVec vb e (t.vec va e)))
    (P := fun n t => ∃ x, t = { s with v := x } ∧ ExchangedTo s m va vb n x)
    ⟨s.v, rfl, hv, fun _ _ _ => (if_neg (by omega)).symm⟩
    (fun e t hb ⟨x, ht, hx⟩ => by
      subst ht
      refine ⟨_, rfl, _, rfl, storeSet_wf _ _ _ _ (storeSet_wf _ _ _ _ hx.wf), fun q i hi => ?_⟩
      refine (vec_exchange { s with v := x } va vb hx.wf (place_of_enabled hb) q hi).trans ?_
      rw [hx.vec _ i hi, hx.vec _ i hi]
      by_cases here : i = e
      · subst here
        rw [if_pos rfl, if_neg (by omega), if_pos ⟨hb, Nat.lt_succ_self i⟩]
      · rw [if_neg here]
        exact if_congr (and_congr_right fun _ => by omega) rfl rfl)
    (fun e t hb _ ⟨x, ht, hx⟩ => by
      have passed (i : Nat) : enabled s m i = true ∧ i < e ↔ enabled s m i = true ∧ i < e + 1 :=
        and_congr_right fun hen => lt_iff_of_not_enabled hb hen
      exact ⟨x, ht, hx.wf, fun q i hi => (hx.vec q i hi).trans (if_congr (passed i) rfl rfl)⟩)
  exact ⟨x, hu, hx⟩

end exchange

/-- The elements that a range reaches, of those below one of its numbers. -/
theorem filter_lt_filter_range {p : Nat → Bool} {e n : Nat} (h : e ≤ n) :
    ((List.range n).filter p).filter (fun j => decide (j < e)) = (List.range e).filter p := by
  obtain ⟨k, rfl⟩ := Nat.exists_eq_add_of_le h
  rw [List.range_add, List.filter_append, List.filter_append]
  have below : ((List.range e).filter p).filter (fun j => decide (j < e)) = (List.range e).filter p :=
    List.filter_eq_self.2 fun j hj => decide_eq_true (List.mem_range.1 (List.mem_of_mem_filter hj))
  have above : (((List.range k).map (e + ·)).filter p).filter (fun j => decide (j < e)) = [] := by
    refine List.filter_eq_nil_iff.2 fun j hj => ?_
    obtain ⟨i, -, rfl⟩ := List.mem_map.1 (List.mem_of_mem_filter hj)
    simp
  rw [below, above, List.append_nil]

/-! ## What each instruction writes -/

/-- The element number 63, which names no element (R891, R892). -/
theorem field_six_eq_last (w : Word) : field w 0 6 = (63 : BitVec 6) ↔ w.toNat % 64 = 63 := by
  rw [← toNat_field_six, ← BitVec.toNat_inj]
  rfl

section writes

variable {s : State} {m : BitVec 3} {vt va vb : RegNo} (hv : StoreWf 0 s.v)
include hv

theorem vecPack_writes (f : Nat → Word) :
    let on := (List.range (vecCount s)).filter fun e => bitAt (s.mask m) e
    VecElems s (vecPack (s.mask m) vt f (vecCount s) 0 0 s) vt (fun y => decide (y < on.length))
      fun y => f (on.getD y 0) := by
  intro on
  have bound := vecCount_le s
  have elements := vecPack_vec (mk := s.mask m) (vt := vt) f (vecCount s) 0 0 s hv (by omega)
  rw [enabledFrom_zero] at elements
  refine ⟨fun e he => (elements vt e he).trans (if_congr ?_ rfl rfl), fun q hq e he => ?_⟩
  · simp [on]
  · exact (elements q e he).trans (if_neg fun h => hq h.1)

theorem vecScan_writes (v : Word) :
    let on := (List.range (vecCount s)).filter fun e => bitAt (s.mask m) e
    VecElems s (vecScan (s.mask m) vt v (vecCount s) 0 0 s) vt (fun e => decide (e < vecCount s))
      fun e => v * BitVec.ofNat 64 (on.filter fun j => decide (j < e)).length := by
  intro on
  have bound := vecCount_le s
  have elements := vecScan_vec (mk := s.mask m) (vt := vt) v (vecCount s) 0 0 s hv (by omega)
  refine ⟨fun e he => (elements vt e he).trans ?_, fun q hq e he => ?_⟩
  · by_cases inside : e < vecCount s
    · have count := filter_lt_filter_range (p := fun e => bitAt (s.mask m) e) (Nat.le_of_lt inside)
      rw [if_pos ⟨rfl, Nat.zero_le e, by omega⟩, if_pos (decide_eq_true inside), Nat.sub_zero, enabledFrom_zero, ← count]
      exact BitVec.zero_add _
    · rw [if_neg (by omega), if_neg (by simpa using inside)]
  · exact (elements q e he).trans (if_neg fun h => hq h.1)

/-- The enabled elements of two registers are exchanged, and no other element changes. -/
theorem vecEach_exchanges_elements :
    ∃ t, (vecEach m (fun e t => .ok () ((t.setVec va e (t.vec vb e)).setVec vb e (t.vec va e))) s).retire = .next t ∧
      ((∀ e < 64, t.vec va e = (if enabled s m e then s.vec vb e else s.vec va e) ∧
          t.vec vb e = (if enabled s m e then s.vec va e else s.vec vb e)) ∧
        ∀ r, r ≠ va → r ≠ vb → ∀ e < 64, t.vec r e = s.vec r e) ∧
      { t with v := s.v } = s.advance := by
  obtain ⟨x, hx, exchanged⟩ := vecEach_exchanges (m := m) (va := va) (vb := vb) hv
  have elements (q : RegNo) (e : Nat) (he : e < 64) : State.vec { s with v := x } q e =
      if enabled s m e then s.vec (Equiv.swap va vb q) e else s.vec q e :=
    (exchanged.vec q e he).trans
      (if_congr ⟨fun h => h.1, fun h => ⟨h, lt_of_enabled h⟩⟩ rfl rfl)
  refine ⟨State.advance { s with v := x }, by rw [hx, Res.retire_ok],
    ⟨fun e he => ⟨?_, ?_⟩, fun r ha hb e he => ?_⟩, rfl⟩
  · exact (elements va e he).trans (by rw [Equiv.swap_apply_left])
  · exact (elements vb e he).trans (by rw [Equiv.swap_apply_right])
  · exact (elements r e he).trans (by rw [Equiv.swap_apply_of_ne_of_ne ha hb, ite_self])

/-- One element, named by its number: number 63 is no element (R891). -/
theorem setVec_writes_one (w number : Word) :
    ∃ t, (.next (if field number 0 6 = (63 : BitVec 6) then s else s.setVec vt (field number 0 6).toNat w).advance :
        Outcome) = .next t ∧
      VecElems s t vt (fun e => decide (e < 63) && decide (e = number.toNat % 64)) (fun _ => w) ∧
      { t with v := s.v } = s.advance := by
  have chosen {e : Nat} :
      (decide (e < 63) && decide (e = number.toNat % 64)) = true ↔ e < 63 ∧ e = number.toNat % 64 := by
    rw [Bool.and_eq_true, decide_eq_true_iff, decide_eq_true_iff]
  by_cases none : number.toNat % 64 = 63
  · rw [if_pos ((field_six_eq_last number).2 none)]
    exact ⟨_, rfl, ⟨fun e _ => (if_neg fun h => by have := chosen.1 h; omega).symm, fun _ _ _ _ => rfl⟩, rfl⟩
  · have inRange : number.toNat % 64 < 64 := Nat.mod_lt _ (by decide)
    rw [if_neg fun h => none ((field_six_eq_last number).1 h), toNat_field_six]
    refine ⟨_, rfl, ⟨fun e he => ?_, fun q hq e he => ?_⟩, rfl⟩
    · refine (vec_setVec s vt vt _ e w hv inRange he).trans (if_congr ?_ rfl rfl)
      exact ⟨fun h => chosen.2 ⟨by omega, h.2⟩, fun h => ⟨rfl, (chosen.1 h).2⟩⟩
    · exact (vec_setVec s vt q _ e w hv inRange he).trans (if_neg fun h => hq h.1)

end writes

/-- Settles O58: compression and scan by their recursion, the exchange by its loop, the others by what they write. -/
theorem vectorPackScanAndExchange : Obligations.VectorPackScanAndExchange := by
  intro fp len m vt va vb ra rb rt s hv form n on does
  have formEq : form = vecLenOk s len := vecLenOk_eq len s
  have does_of {i : Instr} {rs : List RegNo} {p : State → Prop} {o : Outcome}
      (hi : exec i s = vecInstr (vecLenOk s len) rs s o)
      (ho : ∃ t, o = .next t ∧ p t ∧ { t with v := s.v } = s.advance) : does i rs p := by
    obtain ⟨t, rfl, ht⟩ := ho
    rw [← formEq] at hi
    exact ⟨fun h => ⟨t, hi.trans (vecInstr_of_ready h _), ht⟩, isReserved_of_vecInstr hi⟩
  have writes {i : Instr} {rs : List RegNo} {v : Word} (hi : exec i s = vecInstr (vecLenOk s len) rs s (writeX rt v s))
      (h : vecReady s form rs = true) (hb : s.cfg.stackBounds = none) : exec i s = .next (s.setX rt v).advance := by
    rw [hi, vecInstr_of_ready (formEq ▸ h), writeX_of_not_stackFault (stackFault_of_unbounded hb _ _ _)]
  have packRest (f : Nat → Word) :
      { (vecPack (s.mask m) vt f (vecCount s) 0 0 s).advance with v := s.v } = s.advance :=
    congrArg State.advance (vecPack_rest f (vecCount s) 0 0 s s.v)
  have scanRest : { (vecScan (s.mask m) vt (s.x ra) (vecCount s) 0 0 s).advance with v := s.v } = s.advance :=
    congrArg State.advance (vecScan_rest (s.x ra) (vecCount s) 0 0 s s.v)
  refine ⟨does_of rfl ⟨_, rfl, vecPack_writes hv _, packRest _⟩, does_of rfl ⟨_, rfl, vecPack_writes hv _, packRest _⟩,
    does_of rfl ⟨_, rfl, vecScan_writes hv _, scanRest⟩, does_of rfl (vecEach_exchanges_elements hv),
    does_of rfl (setVec_writes_one hv _ _), fun h hb => ?_, fun h hb => ⟨_, writes rfl h hb, fun e he => ?_⟩,
    fun h => isReserved_of_vecInstr rfl (formEq ▸ h), fun h => isReserved_of_vecInstr rfl (formEq ▸ h)⟩
  · have element : (if field (s.x ra) 0 6 = (63 : BitVec 6) then 0 else s.vec vb (field (s.x ra) 0 6).toNat) =
        if (s.x ra).toNat % 64 = 63 then 0 else s.vec vb ((s.x ra).toNat % 64) := by
      rw [toNat_field_six]
      exact if_congr (field_six_eq_last _) rfl rfl
    rw [← element]
    exact writes rfl h hb
  · exact bitAt_wordOfBits _ he

end Sys2Proof.Machine

namespace Sys2Proof.Machine

/-! ## Masks and VL (48_vector R895 to R901) -/

/-- The lowest set bit: it is set, and no bit from k below it is (R898). -/
theorem lowestSet_eq_some {a : Word} {j : Nat} : ∀ {n k : Nat}, lowestSet a n k = some j →
    j < k + n ∧ bitAt a j = true ∧ ∀ i, k ≤ i → i < j → bitAt a i = false
  | 0, _, h => absurd h nofun
  | n + 1, k, h => by
    rw [lowestSet] at h
    cases hb : bitAt a k with
    | true =>
      rw [hb, if_pos rfl, Option.some_inj] at h
      subst h
      exact ⟨by omega, hb, fun i hk hi => by omega⟩
    | false =>
      rw [hb, if_neg Bool.false_ne_true] at h
      obtain ⟨hj, set, below⟩ := lowestSet_eq_some h
      refine ⟨by omega, set, fun i hk hi => ?_⟩
      obtain rfl | later := Nat.eq_or_lt_of_le hk
      · exact hb
      · exact below i later hi

theorem lowestSet_eq_none {a : Word} : ∀ {n k : Nat}, lowestSet a n k = none →
    ∀ i, k ≤ i → i < k + n → bitAt a i = false
  | 0, _, _, _, _, _ => by omega
  | n + 1, k, h, i, hk, hi => by
    rw [lowestSet] at h
    cases hb : bitAt a k with
    | true =>
      rw [hb, if_pos rfl] at h
      exact absurd h nofun
    | false =>
      rw [hb, if_neg Bool.false_ne_true] at h
      obtain rfl | later := Nat.eq_or_lt_of_le hk
      · exact hb
      · exact lowestSet_eq_none h i later (by omega)

/-- The number of the lowest set bit of a mask, or 64 (R898). -/
theorem lowestSet_spec (a : Word) :
    let first := (lowestSet a 64 0).getD 64
    (first < 64 ∧ bitAt a first = true ∧ ∀ k < first, bitAt a k = false) ∨
      (first = 64 ∧ ∀ k < 64, bitAt a k = false) := by
  cases h : lowestSet a 64 0 with
  | none => exact .inr ⟨rfl, fun k hk => lowestSet_eq_none h k k.zero_le (by omega)⟩
  | some j =>
    obtain ⟨hj, set, below⟩ := lowestSet_eq_some h
    exact .inl ⟨by simpa using hj, set, fun k hk => below k k.zero_le hk⟩

/-- The number of the highest set bit of a mask, or 64 (R899). -/
theorem highestSet_spec (a : Word) :
    let last := (highestSet a 64).getD 64
    (last < 64 ∧ bitAt a last = true ∧ ∀ k < 64, last < k → bitAt a k = false) ∨
      (last = 64 ∧ ∀ k < 64, bitAt a k = false) := by
  cases h : highestSet a 64 with
  | none => exact .inr ⟨rfl, highestSet_eq_none h⟩
  | some j =>
    obtain ⟨hj, set, above⟩ := highestSet_eq_some h
    exact .inl ⟨hj, set, fun k hk hlt => above k hlt hk⟩

/-- An instruction that names no vector register is there where the unit and its form are. -/
theorem vecReady_no_register (s : State) (ok : Bool) : vecReady s ok [] = (s.cfg.supVector && ok) := by
  simp [vecReady, vregsOk]

section masks

variable {i : Instr} {s : State}

/-- A mask or control instruction with the unit there. -/
theorem vecInstr_of_unit (h : s.cfg.supVector = true) (o : Outcome) : vecInstr true [] s o = o :=
  vecInstr_of_ready (by rw [vecReady_no_register, h, Bool.and_true]) o

theorem isReserved_without_unit {ok : Bool} {o : Outcome} (hi : exec i s = vecInstr ok [] s o)
    (h : s.cfg.supVector = false) : IsReserved i s :=
  isReserved_of_vecInstr hi (by rw [vecReady_no_register, h, Bool.false_and])

/-- A count or a position of a mask, written to a general register. -/
theorem writesXWhen_of_maskCount {rt : RegNo} {n : State → Nat} (hi : ∀ s, exec i s = maskCount rt (n s) s) :
    WritesXWhen (fun s => s.cfg.supVector) i rt fun s => BitVec.ofNat 64 (n s) :=
  writesXWhen_of_writeX (fun s h => (hi s).trans (vecInstr_of_unit h _))
    fun s h => (hi s).trans (vecInstr_of_not_ready (by rw [vecReady_no_register, h, Bool.false_and]) _)

end masks

/-- Settles O59: each instruction by what it writes with the unit there; the two positions by the bits around them. -/
theorem vectorMaskAndControlInstructions : Obligations.VectorMaskAndControlInstructions := by
  intro fp mt ma mb rt ra ct sup masks
  have mask {i : Instr} {p : State → Word → Prop} (v : State → Word) (hi : ∀ s, exec i s = maskResult mt (v s) s)
      (hp : ∀ s, p s (v s)) : masks i p :=
    fun s => ⟨fun h => ⟨v s, (hi s).trans (vecInstr_of_unit h _), hp s⟩, isReserved_without_unit (hi s)⟩
  have notVl (h : ct.toNat < 8) : ct ≠ 15 := by
    rintro rfl
    exact absurd h (by decide)
  have mov {o : Outcome} {s : State} (h : s.cfg.supVector = true) (hct : vmovOk ct = true) :
      vecInstr (vmovOk ct) [] s o = o := vecInstr_of_ready (by rw [vecReady_no_register, h, hct, Bool.and_true]) o
  refine ⟨mask _ (fun _ => rfl) fun _ => rfl, mask _ (fun _ => rfl) fun _ => rfl, mask _ (fun _ => rfl) fun _ => rfl,
    mask _ (fun _ => rfl) fun _ => rfl, mask _ (fun _ => rfl) fun s b hb => bitAt_wordOfBits _ hb,
    writesXWhen_of_maskCount fun s => ?pop,
    ⟨fun s => (lowestSet (s.mask ma) 64 0).getD 64, fun s => (highestSet (s.mask ma) 64).getD 64,
      writesXWhen_of_maskCount fun _ => rfl, writesXWhen_of_maskCount fun _ => rfl,
      fun s => ⟨lowestSet_spec _, highestSet_spec _⟩⟩,
    writesXWhen_of_writeX (fun s h => ?movFrom)
      (fun s h => vecInstr_of_not_ready ((vecReady_no_register s _).trans h) _),
    fun s => ⟨fun h => ⟨vecInstr_of_unit h _, fun hct => ?toMask, fun hct => ?toVl, fun h8 h15 => ?unassigned⟩, fun h =>
      ⟨isReserved_without_unit rfl h, isReserved_without_unit rfl h⟩⟩⟩
  case pop => rw [← ones_eq_length]; rfl
  case movFrom =>
    obtain ⟨unit, number⟩ := Bool.and_eq_true_iff.1 h
    rw [exec_vmovFrom, execVmovFrom, mov unit number]
    by_cases mask : ct.toNat < 8
    · rw [if_neg (notVl mask), if_pos mask]
    · have vl : ct = 15 := by simpa [mask] using number
      rw [if_pos vl, if_neg mask]
  case toMask =>
    rw [exec_vmovTo, execVmovTo, mov h (by simp [vmovOk, hct]), if_neg (notVl hct)]
  case toVl =>
    have low : (field (s.x ra) 0 7 : BitVec 7).toNat = (s.x ra).toNat % 128 :=
      (toNat_field _ _ _).trans (congrArg (· % 2 ^ 7) (Nat.div_one _))
    rw [exec_vmovTo, execVmovTo, mov h (by simp [vmovOk, hct]), if_pos hct, low]
  case unassigned =>
    have number : vmovOk ct = false :=
      Bool.or_eq_false_iff.2 ⟨decide_eq_false (Nat.not_lt.2 h8), beq_eq_false_iff_ne.2 h15⟩
    exact isReserved_of_vecInstr rfl (by rw [vecReady_no_register, number, Bool.and_false])

end Sys2Proof.Machine

namespace Sys2Proof.Machine

/-! ## Vector loads and stores (48_vector R850 to R856) -/

section loads

variable {ok : State → Bool} {i : Instr} {rs : List RegNo} {vt : RegNo} {ea : State → Nat → Word}

/-- What the bus reads does not depend on the vector registers or on FSTAT. -/
theorem busRead_vecState (s : State) (x : Store Word) (w : Word) :
    ∀ n pa, busRead (vecState s x w) n pa = busRead s n pa
  | 0, _ => rfl
  | n + 1, pa => by
    rw [busRead, busRead, busRead_vecState s x w n]
    rfl

/-- A load of the enabled elements, each from an address that its own sources give. -/
theorem vecLoads_of_vecLoad {a : State → Nat → State → Word} (hok : ∀ s, ok s = vecReady s true rs)
    (hi : ∀ s, exec i s = vecLoad vt rs (a s) s)
    (ha : ∀ s e t, (∀ q, t.vec q e = s.vec q e) → a s e t = ea s e) : VecLoads ok i vt ea := by
  refine fun s => ⟨fun h hv access => ?_, fun h => isReserved_of_vecInstr (hi s) ((hok s).symm.trans h)⟩
  rw [hi, vecLoad, vecInstr_of_ready ((hok s).symm.trans h)]
  refine vecEach_writes_only hv fun e x w he source _ => ?_
  have place : dataAccess (ea s e) 8 .read (vecState s x w) = _ := dataAccess_of_accessOk (access e he)
  rw [ha s e _ source, memRead_of_ok place, Res.ok_andThen, busRead_vecState]
  rfl

end loads

section stores

variable {ok : State → Bool} {i : Instr} {rs : List RegNo} {vb : RegNo} {ea : State → Nat → Word}

/-- The checks of an access read the parameters and the control and status registers. -/
theorem AccessOk.congr {s t : State} {a : Word} {n : Nat} {k : AccessKind} (h : AccessOk s a n k) (hc : t.cfg = s.cfg)
    (hr : t.csr = s.csr) : AccessOk t a n k := by
  rw [AccessOk, hc, hr]
  exact h

/-- What the stores of the elements below n leave of the state. -/
structure SameSources (s t : State) : Prop where
  cfg : t.cfg = s.cfg
  csr : t.csr = s.csr
  v : t.v = s.v

theorem SameSources.memCommit {s t : State} (h : SameSources s t) (n pa v : Nat) :
    SameSources s (memCommit n pa v t) := by
  obtain ⟨m, mt, st, rv, hc, -⟩ := memCommit_frame n pa v t
  rw [hc]
  exact ⟨h.cfg, h.csr, h.v⟩

/-- The stores of the enabled elements below n, in ascending order. -/
def vecStoredTo (s : State) (vb : RegNo) (ea : Nat → Word) (n : Nat) : State :=
  (List.range n).foldl (fun t e =>
    if bitAt (s.mask 0) e then memCommit 8 ((ea e).toNat % 2 ^ s.cfg.paBits) (s.vec vb e).toNat t else t) s

theorem vecStoredTo_succ (s : State) (vb : RegNo) (ea : Nat → Word) (n : Nat) :
    vecStoredTo s vb ea (n + 1) =
      if bitAt (s.mask 0) n then
        memCommit 8 ((ea n).toNat % 2 ^ s.cfg.paBits) (s.vec vb n).toNat (vecStoredTo s vb ea n)
      else vecStoredTo s vb ea n := by
  rw [vecStoredTo, List.range_succ, List.foldl_append]
  rfl

theorem sameSources_vecStoredTo (s : State) (vb : RegNo) (ea : Nat → Word) (n : Nat) :
    SameSources s (vecStoredTo s vb ea n) := by
  induction n with
  | zero => exact ⟨rfl, rfl, rfl⟩
  | succ n ih =>
    rw [vecStoredTo_succ]
    split
    · exact ih.memCommit _ _ _
    · exact ih

/-- A store of the enabled elements, each to an address that its own sources give. -/
theorem vecStores_of_vecStore {a : State → Nat → State → Word} (hok : ∀ s, ok s = vecReady s true rs)
    (hi : ∀ s, exec i s = vecStore vb rs (a s) s)
    (ha : ∀ s e t, (∀ q, t.vec q e = s.vec q e) → a s e t = ea s e) : VecStores ok i vb ea := by
  refine fun s => ⟨fun h access => ?_, fun h => isReserved_of_vecInstr (hi s) ((hok s).symm.trans h)⟩
  rw [hi, vecStore, vecInstr_of_ready ((hok s).symm.trans h)]
  obtain ⟨u, hu, rfl⟩ := vecEach_invariant (m := 0) (s := s) (f := fun e t => memWrite (a s e t) 8 (t.vec vb e).toNat t)
    (P := fun n t => t = vecStoredTo s vb (ea s) n) rfl
    (fun e t he ht => by
      obtain ⟨cfg, csr, v⟩ := sameSources_vecStoredTo s vb (ea s) e
      rw [← ht] at cfg csr v
      have source (q : RegNo) : t.vec q e = s.vec q e := congrArg (storeGet 0 · _) v
      have place := dataAccess_of_accessOk ((access e he).congr cfg csr)
      refine ⟨_, by rw [ha s e t source, memWrite_of_ok _ place], ?_⟩
      rw [vecStoredTo_succ, if_pos (bitAt_of_enabled he), ← ht, source, cfg])
    (fun e t _ hbit ht => by rw [vecStoredTo_succ, hbit, if_neg Bool.false_ne_true, ht])
  rw [hu, Res.retire_ok]
  rfl

end stores

/-- Settles O60: each load and store by the address of its elements. -/
theorem vectorLoadsAndStores : Obligations.VectorLoadsAndStores := by
  intro vt ra rc d sc ready
  exact ⟨vecLoads_of_vecLoad (fun _ => rfl) (fun _ => rfl) fun _ _ _ _ => rfl,
    vecLoads_of_vecLoad (fun _ => rfl) (fun _ => rfl) fun _ _ _ _ => rfl,
    vecLoads_of_vecLoad (fun _ => rfl) (fun _ => rfl) fun s _ _ source => congrArg (s.x ra + ·) (source rc),
    vecStores_of_vecStore (fun _ => rfl) (fun _ => rfl) fun _ _ _ _ => rfl,
    vecStores_of_vecStore (fun _ => rfl) (fun _ => rfl) fun _ _ _ _ => rfl,
    vecStores_of_vecStore (fun _ => rfl) (fun _ => rfl) fun s _ _ source => congrArg (s.x ra + ·) (source rc)⟩

end Sys2Proof.Machine

namespace Sys2Proof.Machine

/-! ## Floating-point instructions of scalars: presence, flags, results (47_float R762, R768, R769, R802) -/

section fpEndings

variable {i : Instr} {rt : RegNo} {s : State} {ok : Bool} {r : FpResult}

theorem fpInstr_of_other_precision (m : Outcome) : fpInstr false s m = reserved s := by
  rw [fpInstr, if_neg Bool.false_ne_true, ite_self]

theorem isReserved_of_fpInstr {m : Outcome} (hi : exec i s = fpInstr ok s m)
    (h : s.cfg.numFpu = 0 ∨ ok = false) : IsReserved i s := by
  refine hi.trans (Eq.trans ?_ (reserved_eq s))
  rcases h with absent | rfl
  · exact fpInstr_of_no_unit absent ok m
  · exact fpInstr_of_other_precision m

/-- An instruction that the core has does what it states. -/
theorem exec_of_fpInstr {m : Outcome} (hi : exec i s = fpInstr ok s m) (unit : s.cfg.numFpu ≠ 0) (form : ok = true) :
    exec i s = m := by
  rw [hi, form, fpInstr_of_unit unit]

/-- The state in which FSTAT has gathered the conditions of a result (R768). -/
abbrev fpNoted (r : FpResult) (s : State) : State := s.withFstat (fstatNote s.csr.fstat r.exc r.types)

theorem fpFlags_of_none_enabled (h : r.exc &&& field (fpNoted r s).csr.fstat 24 5 = 0) :
    fpFlags r s = .ok () (fpNoted r s) := if_pos h

theorem fpFlags_of_enabled (h : r.exc &&& field (fpNoted r s).csr.fstat 24 5 ≠ 0) :
    fpFlags r s = .exc causeFLT (fpNoted r s) := if_neg h

theorem putReg_of_stackFault {q : BitVec 6} {v : Word} (h : stackFault s q rt v = true) :
    putReg q rt v s = .exc causeSTK s := putReg_eq_exc.2 ⟨h, rfl, rfl⟩

/-- An instruction that finishes with a rounded result: it ends at the flags, at the write, or after the status. -/
theorem fpWrites_of_fpFinish {ok : State → Bool} {status : FpResult → BitVec 7} {r : State → FpResult}
    (hi : ∀ s, exec i s = fpInstr (ok s) s (fpFinish status (putF rt) (r s) s).retire) :
    FpWrites ok i rt status r := by
  refine fun s => ⟨fun unit form clear fits => ?_, fun unit form clear faults => ?_, fun unit form enabled => ?_,
    isReserved_of_fpInstr (hi s)⟩
  · rw [exec_of_fpInstr (hi s) unit form, fpFinish, fpFlags_of_none_enabled clear, Res.ok_andThen, putF,
      putReg_of_not_stackFault fits, Res.ok_andThen, Res.retire_ok, fpStatus, setReg_csr]
    rfl
  · rw [exec_of_fpInstr (hi s) unit form, fpFinish, fpFlags_of_none_enabled clear, Res.ok_andThen, putF,
      putReg_of_stackFault faults, Res.exc_andThen, Res.retire_exc]
  · rw [exec_of_fpInstr (hi s) unit form, fpFinish, fpFlags_of_enabled enabled, Res.exc_andThen, Res.retire_exc]

/-- The same for a comparison, which writes a general register and no status. -/
theorem fpCompares_of_fpFlags {ok : State → Bool} {r : State → FpResult}
    (hi : ∀ s, exec i s = fpInstr (ok s) s ((fpFlags (r s) s).andThen fun _ t => putX rt (r s).bits t).retire) :
    FpCompares ok i rt r := by
  refine fun s => ⟨fun unit form clear fits => ?_, fun unit form clear faults => ?_, fun unit form enabled => ?_,
    isReserved_of_fpInstr (hi s)⟩
  · rw [exec_of_fpInstr (hi s) unit form, fpFlags_of_none_enabled clear, Res.ok_andThen, putX,
      putReg_of_not_stackFault fits, Res.retire_ok]
    rfl
  · rw [exec_of_fpInstr (hi s) unit form, fpFlags_of_none_enabled clear, Res.ok_andThen, putX,
      putReg_of_stackFault faults, Res.retire_exc]
  · rw [exec_of_fpInstr (hi s) unit form, fpFlags_of_enabled enabled, Res.exc_andThen, Res.retire_exc]

/-- A sign operation: the write alone. -/
theorem fpMoves_of_fpMove {op : Word → Word} {ra : RegNo} {prc : BitVec 4} {v : State → Word}
    (hi : ∀ s, exec i s = fpMove op rt ra prc s) (hv : ∀ s, op (s.f ra) = v s) :
    FpMoves (prcOk · prc) i rt v := by
  have instr (s : State) : exec i s = fpInstr (prcOk s prc) s (putF rt (v s) s).retire := by
    rw [hi, fpMove, hv]
  refine fun s => ⟨fun unit form fits => ?_, fun unit form faults => ?_, isReserved_of_fpInstr (instr s)⟩
  · rw [exec_of_fpInstr (instr s) unit form, putF, putReg_of_not_stackFault fits, Res.retire_ok]
  · rw [exec_of_fpInstr (instr s) unit form, putF, putReg_of_stackFault faults, Res.retire_exc]

end fpEndings

/-- The precision check of a form, as the claims write it (R762). -/
theorem formOk_eq (f : FpForm) (s : State) :
    (match f with | .short _ => true | .long p _ => p == 2 || s.cfg.fpPrcIgnored) = formOk s f := by
  cases f <;> rfl

/-- The rounding code of a form, as the claims write it (R763). -/
theorem formRm_eq (f : FpForm) : (match f with | .short m => m | .long _ m => m) = formRm f := by
  cases f <;> rfl

/-- Settles O50: each instruction finishes with its rounded result. -/
theorem fpArithmeticWritesResultAndStatus : Obligations.FpArithmeticWritesResultAndStatus := by
  intro rt ra rb f prc rm long fromX env fm fok pok
  have precision : fok = (formOk · f) := funext (formOk_eq f)
  have rounding : fm = formRm f := formRm_eq f
  rw [precision, rounding]
  exact ⟨fpWrites_of_fpFinish (exec_fadd · rt ra rb f), fpWrites_of_fpFinish (exec_fsub · rt ra rb f),
    fpWrites_of_fpFinish (exec_fmul · rt ra rb f), fpWrites_of_fpFinish (exec_fdiv · rt ra rb f),
    fpWrites_of_fpFinish (exec_fsqrt · rt ra prc rm long), fpWrites_of_fpFinish (exec_ftoi · rt ra prc rm long),
    fpWrites_of_fpFinish (exec_itof · rt ra fromX prc rm long), fpWrites_of_fpFinish (exec_fcvtsd · rt ra prc rm long)⟩

/-! ## Compares (47_float R775 to R780) -/

/-- The conditions of a comparison that only a signaling NaN makes invalid, as the claims write them. -/
theorem fpQuietCmp_eq (a b v : Word) : fpQuietCmp a b v =
    { fpExact v with
      exc := if fpIsSnan a || fpIsSnan b then excInvalid else 0
      types := if fpIsSnan a || fpIsSnan b then typSnan else 0 } := by
  unfold fpQuietCmp
  split <;> rfl

/-- The conditions of an ordered comparison, as the claims write them. -/
theorem fpOrderedCmp_eq (a b v : Word) : fpOrderedCmp a b v =
    { fpExact v with
      exc := if fpUnordered a b then excInvalid else 0
      types := if fpUnordered a b then typNanCmp ||| (if fpIsSnan a || fpIsSnan b then typSnan else 0) else 0 } := by
  unfold fpOrderedCmp
  split <;> rfl

/-- Five bits side by side are the sum of their weights. -/
theorem zext64_relations (a b c d e : Bool) :
    zext64 (BitVec.ofBool a ++ BitVec.ofBool b ++ BitVec.ofBool c ++ BitVec.ofBool d ++ BitVec.ofBool e) =
      16 * boolWord a + 8 * boolWord b + 4 * boolWord c + 2 * boolWord d + boolWord e := by
  revert a b c d e
  decide

theorem fcmpBits_eq (a b : Word) : fcmpBits a b =
    16 * boolWord (fpUnordered a b) + 8 * boolWord (fpLe a b) + 4 * boolWord (fpMagLt a b) +
      2 * boolWord (fpLt a b) + boolWord (fpEq a b) :=
  zext64_relations _ _ _ _ _

/-- The sign of a double, as the claims write it (R789). -/
theorem fpSignum_eq (v : Word) : fpSignum v =
    if field v 0 63 = (0 : BitVec 63) then 0 else if bitAt v 63 then 0xBFF0000000000000 else 0x3FF0000000000000 := by
  simp only [fpSignum, fpIsZero, beq_iff_eq]

/-- A comparison writes what its operation gives. -/
theorem fpCompares_of_fpCompare {i : Instr} {rt ra rb : RegNo} {f : FpForm} {r : State → FpResult}
    (op : State → Word → Word → FpResult) (hi : ∀ s, exec i s = fpCompare (op s) rt ra rb f s)
    (hr : ∀ s, op s (s.f ra) (s.f rb) = r s) : FpCompares (formOk · f) i rt r :=
  fpCompares_of_fpFlags fun s => (hi s).trans (by rw [fpCompare, hr])

/-- Settles O51: each comparison by its relation and its conditions, each sign operation by its word. -/
theorem fpComparesAndMoves : Obligations.FpComparesAndMoves := by
  intro rt ra rb f prc rm long fok pok snan quiet ordered bit
  have precision : fok = (formOk · f) := funext (formOk_eq f)
  have quietly (a b v : Word) : fpQuietCmp a b v = quiet a b v := fpQuietCmp_eq a b v
  have inOrder (a b v : Word) : fpOrderedCmp a b v = ordered a b v := fpOrderedCmp_eq a b v
  have signals (c : Bool) (a b v : Word) : fpEqCmp c a b v = (if c then ordered else quiet) a b v := by
    cases c
    · exact quietly a b v
    · exact inOrder a b v
  rw [precision]
  exact ⟨
    -- the relation bits
    fpCompares_of_fpCompare _ (exec_fcmp · rt ra rb f) fun _ =>
      (quietly _ _ _).trans (congrArg (quiet _ _) (fcmpBits_eq _ _)),
    -- one relation
    fpCompares_of_fpCompare _ (exec_fslt · rt ra rb f) fun _ => inOrder _ _ _,
    fpCompares_of_fpCompare _ (exec_fsge · rt ra rb f) fun _ => inOrder _ _ _,
    fpCompares_of_fpCompare _ (exec_fsle · rt ra rb f) fun _ => inOrder _ _ _,
    fpCompares_of_fpCompare _ (exec_fsgt · rt ra rb f) fun _ => inOrder _ _ _,
    fpCompares_of_fpCompare _ (exec_fseq · rt ra rb f) fun _ => signals _ _ _ _,
    fpCompares_of_fpCompare _ (exec_fsne · rt ra rb f) fun _ => signals _ _ _ _,
    fpCompares_of_fpCompare _ (exec_fsun · rt ra rb f) fun _ => quietly _ _ _,
    -- the sign bit
    fpMoves_of_fpMove (exec_fmov · rt ra prc rm long) fun _ => rfl,
    fpMoves_of_fpMove (exec_fneg · rt ra prc rm long) fun _ => rfl,
    fpMoves_of_fpMove (exec_fabs · rt ra prc rm long) fun _ => rfl,
    fpMoves_of_fpMove (exec_fnabs · rt ra prc rm long) fun _ => rfl,
    fpMoves_of_fpMove (exec_fsign · rt ra prc rm long) fun s => fpSignum_eq (s.f ra)⟩

end Sys2Proof.Machine

namespace Sys2Proof.Machine

/-! ## FSTAT by its parts, and what the flag instructions make of it (47_float R795 to R798, 10_state R57) -/

/-- A field beside the bit that is replaced. -/
theorem field_setBitAt_of_disjoint {m : Nat} (w : BitVec m) (j : Nat) (b : Bool) (k l : Nat)
    (h : k + l ≤ j ∨ j + 1 ≤ k) : (field (setBitAt w j b) k l : BitVec l) = field w k l :=
  field_setField_of_disjoint w j _ k l h

/-- A bit outside the field that is replaced. -/
theorem bitAt_setField_of_disjoint {m n : Nat} (w : BitVec m) (lo : Nat) (v : BitVec n) (k : Nat)
    (h : k + 1 ≤ lo ∨ lo + n ≤ k) : bitAt (setField w lo v) k = bitAt w k := by
  rw [bitAt, field_setField_of_disjoint w lo v k 1 h, bitAt]

/-- The parts of FSTAT but for bit 9, which is computed from two of them (R768). -/
structure FstatParts where
  flags : BitVec 5
  enables : BitVec 5
  summary : Bool
  swt : Bool
  types : BitVec 8
  status : BitVec 8
  above : BitVec 35

/-- The parts of an FSTAT word (10_state R57). -/
def fstatParts (w : Word) : FstatParts where
  flags := field w 10 5
  enables := field w 24 5
  summary := bitAt w 8
  swt := bitAt w 15
  types := field w 0 8
  status := field w 16 8
  above := field w 29 35

section fstatParts

variable (w : Word) (m : BitVec 6)

@[simp] theorem fstatParts_setFlags (x : BitVec 5) :
    fstatParts (setField w 10 x) = { fstatParts w with flags := x } := by
  simp [fstatParts, field_setField_same, field_setField_of_disjoint, bitAt_setField_of_disjoint]

@[simp] theorem fstatParts_setEnables (x : BitVec 5) :
    fstatParts (setField w 24 x) = { fstatParts w with enables := x } := by
  simp [fstatParts, field_setField_same, field_setField_of_disjoint, bitAt_setField_of_disjoint]

@[simp] theorem fstatParts_setTypes (x : BitVec 8) :
    fstatParts (setField w 0 x) = { fstatParts w with types := x } := by
  simp [fstatParts, field_setField_same, field_setField_of_disjoint, bitAt_setField_of_disjoint]

@[simp] theorem fstatParts_setSummary (b : Bool) :
    fstatParts (setBitAt w 8 b) = { fstatParts w with summary := b } := by
  simp [fstatParts, field_setBitAt_of_disjoint, bitAt_setBitAt]

@[simp] theorem fstatParts_setSwt (b : Bool) :
    fstatParts (setBitAt w 15 b) = { fstatParts w with swt := b } := by
  simp [fstatParts, field_setBitAt_of_disjoint, bitAt_setBitAt]

@[simp] theorem fstatParts_fstatGx : fstatParts (fstatGx w) = fstatParts w := by
  simp [fstatGx, fstatParts, field_setBitAt_of_disjoint, bitAt_setBitAt]

/-- Bit 9 says whether a set flag is enabled (R768). -/
theorem bitAt_nine_fstatGx :
    bitAt (fstatGx w) 9 = ((fstatParts (fstatGx w)).flags &&& (fstatParts (fstatGx w)).enables != 0) := by
  rw [fstatParts_fstatGx, fstatGx, bitAt_setBitAt _ _ _ (by decide), if_pos rfl]
  rfl

/-- The conditions of a result are added to the flags and the types, and the summary says that there were some. -/
theorem fstatParts_fstatNote (exc : BitVec 5) (types : BitVec 8) :
    fstatParts (fstatNote w exc types) =
      { fstatParts w with
        flags := field w 10 5 ||| exc
        summary := bitAt w 8 || exc != 0
        types := field w 0 8 ||| types } := by
  have flags : (field (setField w 0 (field w 0 8 ||| types)) 10 5 : BitVec 5) = field w 10 5 :=
    field_setField_of_disjoint _ _ _ _ _ (.inr (by decide))
  unfold fstatNote
  dsimp only
  rw [fstatParts_fstatGx, flags]
  by_cases nothing : exc = 0
  · subst nothing
    simp only [if_true, fstatParts_setFlags, fstatParts_setTypes, bne_self_eq_false, Bool.or_false]
    rfl
  · have something : (exc != 0) = true := bne_iff_ne.2 nothing
    simp only [if_neg nothing, fstatParts_setSummary, fstatParts_setFlags, fstatParts_setTypes, something, Bool.or_true]

theorem fstatParts_fstatTrigger : fstatParts (fstatTrigger w m) =
    { fstatParts w with
      flags := field w 10 5 ||| field m 0 5
      summary := bitAt w 8 || field m 0 5 != 0
      swt := bitAt w 15 || bitAt m 0 } := by
  unfold fstatTrigger
  dsimp only
  rw [fstatParts_fstatNote]
  cases bitAt m 0
  · simp [fstatParts]
  · simp [fstatParts, field_setBitAt_of_disjoint, bitAt_setBitAt]

theorem fstatParts_fstatClear : fstatParts (fstatClear w m) =
    { fstatParts w with
      flags := field w 10 5 &&& ~~~(field m 0 5)
      summary := bitAt w 8 && !bitAt m 5
      swt := bitAt w 15 && !bitAt m 0
      types := if bitAt m 0 then 0 else field w 0 8 } := by
  have flags : (field (if bitAt m 0 then setField (setBitAt w 15 false) 0 (0 : BitVec 8) else w) 10 5 : BitVec 5) =
      field w 10 5 := by
    split
    · rw [field_setField_of_disjoint _ _ _ _ _ (by decide), field_setBitAt_of_disjoint _ _ _ _ _ (by decide)]
    · rfl
  unfold fstatClear
  dsimp only
  rw [fstatParts_fstatGx, flags, apply_ite fstatParts, fstatParts_setSummary, fstatParts_setFlags,
    apply_ite fstatParts, fstatParts_setTypes, fstatParts_setSwt]
  cases bitAt m 0 <;> cases bitAt m 5 <;> simp [fstatParts]

theorem fstatParts_fstatEnable :
    fstatParts (fstatEnable w m) = { fstatParts w with enables := field w 24 5 ||| field m 0 5 } := by
  rw [fstatEnable, fstatParts_fstatGx, fstatParts_setEnables]

theorem fstatParts_fstatDisable :
    fstatParts (fstatDisable w m) = { fstatParts w with enables := field w 24 5 &&& ~~~(field m 0 5) } := by
  rw [fstatDisable, fstatParts_fstatGx, fstatParts_setEnables]

end fstatParts

/-- The precision check of a flag form, as the claims write it (R762). -/
theorem flagFormOk_eq (f : FlagForm) (s : State) :
    (match f with | .short => true | .long p => p == 2 || s.cfg.fpPrcIgnored) = flagFormOk s f := by
  cases f <;> rfl

/-- A flag instruction goes on with an FSTAT whose bit 9 is computed from the other parts. -/
theorem goes_of_fstatParts {i : Instr} {s : State} {v : Word} {p : FstatParts}
    (hi : exec i s = .next (s.withFstat (fstatGx v)).advance) (hp : fstatParts (fstatGx v) = p)
    (status : p.status = field s.csr.fstat 16 8) (above : p.above = field s.csr.fstat 29 35) :
    ∃ u, exec i s = .next (s.withFstat u).advance ∧ field u 10 5 = p.flags ∧ field u 24 5 = p.enables ∧
      bitAt u 8 = p.summary ∧ bitAt u 15 = p.swt ∧ field u 0 8 = p.types ∧
      bitAt u 9 = (p.flags &&& p.enables != 0) ∧ field u 16 8 = (field s.csr.fstat 16 8 : BitVec 8) ∧
      field u 29 35 = (field s.csr.fstat 29 35 : BitVec 35) := by
  subst hp
  exact ⟨_, hi, rfl, rfl, rfl, rfl, rfl, bitAt_nine_fstatGx v, status, above⟩

/-- The FTX instruction takes FLT after the conditions are noted, and returns to the next instruction (R795). -/
theorem triggerFp_of_enabled {m : BitVec 6} {s : State} (h : field m 0 5 &&& field s.csr.fstat 24 5 ≠ 0) :
    ∃ t, triggerFp m s = .next t ∧ field t.csr.cause0 0 8 = causeFLT ∧ t.csr.epc.r0 = s.nextPc ∧
      t.csr.fstat = fstatTrigger s.csr.fstat m ∧ t.pc = vectorFor s.csr.tvec.r0 s.ol :=
  ⟨_, if_neg h, field_append_low _ causeFLT, rfl, rfl, rfl⟩

theorem triggerFp_of_none_enabled {m : BitVec 6} {s : State} (h : field m 0 5 &&& field s.csr.fstat 24 5 = 0) :
    triggerFp m s = .next (s.withFstat (fstatTrigger s.csr.fstat m)).advance := if_pos h

/-- Settles O52: each instruction by the parts of the FSTAT that it leaves. -/
theorem fpFlagInstructions : Obligations.FpFlagInstructions := by
  intro ra imm f s m ok w all goes
  have precision : ok = flagFormOk s f := flagFormOk_eq f s
  rw [precision]
  refine ⟨fun absent i hi => ?_, fun unit form => ⟨exec_of_fpInstr (exec_fsync s f) unit form, fun clear => ?_,
    fun enabled => ?_, ?_, ?_, ?_⟩⟩
  · simp only [all, List.mem_cons, List.not_mem_nil, or_false] at hi
    obtain rfl | rfl | rfl | rfl | rfl := hi
    · exact isReserved_of_fpInstr (exec_ftx s ra imm f) absent
    · exact isReserved_of_fpInstr (exec_fcx s ra imm f) absent
    · exact isReserved_of_fpInstr (exec_fex s ra imm f) absent
    · exact isReserved_of_fpInstr (exec_fdx s ra imm f) absent
    · exact isReserved_of_fpInstr (exec_fsync s f) absent
  · exact goes_of_fstatParts ((exec_of_fpInstr (exec_ftx s ra imm f) unit form).trans (triggerFp_of_none_enabled clear))
      (fstatParts_fstatTrigger w m) rfl rfl
  · obtain ⟨t, ht, cause, ret, noted, vector⟩ := triggerFp_of_enabled enabled
    have flags := congrArg FstatParts.flags (fstatParts_fstatTrigger w m)
    exact ⟨t, (exec_of_fpInstr (exec_ftx s ra imm f) unit form).trans ht, cause, ret, noted ▸ flags, vector⟩
  · exact goes_of_fstatParts (exec_of_fpInstr (exec_fcx s ra imm f) unit form) (fstatParts_fstatClear w m) rfl rfl
  · exact goes_of_fstatParts (exec_of_fpInstr (exec_fex s ra imm f) unit form) (fstatParts_fstatEnable w m) rfl rfl
  · exact goes_of_fstatParts (exec_of_fpInstr (exec_fdx s ra imm f) unit form) (fstatParts_fstatDisable w m) rfl rfl

end Sys2Proof.Machine

namespace Sys2Proof.Machine

/-! ## Addition with its operands exchanged (47_float R765, R766, R770) -/

/-- The sum of two zeros of one sign has that sign, whichever comes first. -/
theorem fpAddFinite_comm (env : FpEnv) (n1 : Bool) (m1 : Nat) (e1 : Int) (n2 : Bool) (m2 : Nat) (e2 : Int) :
    fpAddFinite env n1 m1 e1 n2 m2 e2 = fpAddFinite env n2 m2 e2 n1 m1 e1 := by
  have zeroSign (other : Bool) : (if m1 = 0 && m2 = 0 && n1 == n2 then n1 else other) =
      if m2 = 0 && m1 = 0 && n2 == n1 then n2 else other := by
    rw [Bool.and_comm (decide (m1 = 0)), Bool.beq_comm]
    by_cases same : n2 = n1
    · rw [same]
    · rw [beq_false_of_ne same, Bool.and_false]
      rfl
  unfold fpAddFinite
  dsimp only
  rw [min_comm e1 e2, Int.add_comm, zeroSign]

section canonical

variable {env : FpEnv} (h : env.nan = .canonical) (a b : Word)

include h

theorem fpNan_of_canonical (ops : List Word) : fpNan env ops = 0x7FF8000000000000 := by
  rw [fpNan, h]

theorem fpInvalid_of_canonical (ops ops' : List Word) (types : BitVec 8) :
    fpInvalid env ops types = fpInvalid env ops' types := by
  rw [fpInvalid, fpInvalid, fpNan_of_canonical h, fpNan_of_canonical h]

theorem fpNanResult_comm : fpNanResult env [a, b] = fpNanResult env [b, a] := by
  have signaling : [a, b].any fpIsSnan = [b, a].any fpIsSnan := by
    simp only [List.any_cons, List.any_nil, Bool.or_false]
    exact Bool.or_comm _ _
  rw [fpNanResult, fpNanResult, signaling, fpNan_of_canonical h, fpNan_of_canonical h,
    fpInvalid_of_canonical h [a, b] [b, a]]

/-- Infinities of opposite sign are invalid in either order; a NaN is the canonical one. -/
theorem fpAddVal_comm (x y : FpVal) : fpAddVal env [a, b] x y = fpAddVal env [b, a] y x := by
  cases x with
  | nan _ =>
    cases y with
    | nan _ => exact fpNanResult_comm h a b
    | inf _ => rfl
    | fin _ _ _ => exact fpNanResult_comm h a b
  | inf n1 =>
    cases y with
    | nan _ => rfl
    | inf n2 =>
      by_cases same : n1 = n2
      · rw [same]
        simp [fpAddVal]
      · simp only [fpAddVal, if_neg same, if_neg (Ne.symm same)]
        exact fpInvalid_of_canonical h _ _ _
    | fin _ _ _ => rfl
  | fin n1 m1 e1 =>
    cases y with
    | nan _ => exact fpNanResult_comm h a b
    | inf _ => rfl
    | fin n2 m2 e2 => exact fpAddFinite_comm env n1 m1 e1 n2 m2 e2

theorem fpAdd_comm : fpAdd env a b = fpAdd env b a := by
  rw [fpAdd, fpBinary, fpBinary, Bool.or_comm, fpNanResult_comm h a b, fpAddVal_comm h a b]

end canonical

/-- Settles O54: the sum does not depend on the order, and nothing else reads the two sources. -/
theorem floatAdditionCommutes : Obligations.FloatAdditionCommutes := by
  intro rt ra rb f s canonical
  have sum := fpAdd_comm (env := fpEnv s (rmEff s (formRm f))) canonical (s.f ra) (s.f rb)
  rw [exec_fadd, exec_fadd, execFadd, execFadd, fpArith, fpArith, sum]

end Sys2Proof.Machine

namespace Sys2Proof.Machine

/-! ## Integers of at most 53 bits as doubles (47_float R763, R790, R791) -/

/-- What is exact is rounded in no mode. -/
theorem fpRoundsUp_of_exact (mode : FpMode) (neg : Bool) (sig d : Nat) : fpRoundsUp mode neg sig 0 d = false := by
  have half : 2 ^ (d - 1) ≠ 0 := Nat.ne_of_gt (Nat.two_pow_pos _)
  cases mode with
  | rne => simp [fpRoundsUp, half.symm]
  | rtz => rfl
  | rup => rfl
  | rdn => rfl
  | rmm => simp [fpRoundsUp]

/-- m * 2^e, when it is k * 2^q, as a multiple of 2^q. -/
theorem fpQuantize_of_exact {m k : Nat} {e q : Int} (h : m * 2 ^ (e - q).toNat = k * 2 ^ (q - e).toNat)
    (mode : FpMode) (neg : Bool) : fpQuantize mode neg m e q = (k, false, false) := by
  unfold fpQuantize
  split
  next le =>
    rw [Int.toNat_of_nonpos (z := q - e) (by omega), pow_zero, Nat.mul_one] at h
    rw [h]
  next gt =>
    rw [Int.toNat_of_nonpos (z := e - q) (by omega), pow_zero, Nat.mul_one] at h
    have quotient : m / 2 ^ (q - e).toNat = k := by rw [h, Nat.mul_div_cancel _ (Nat.two_pow_pos _)]
    have remainder : m % 2 ^ (q - e).toNat = 0 := by rw [h, Nat.mul_mod_left]
    simp [quotient, remainder, fpRoundsUp_of_exact]

/-- A magnitude from 1 to 2^53 is a significand of 53 bits times a power of two. -/
theorem exists_significand {m : Nat} (pos : m ≠ 0) (small : m ≤ 2 ^ 53) :
    ∃ fr < 2 ^ 52, m * 2 ^ (52 - Nat.log2 m) = (2 ^ 52 + fr) * 2 ^ (Nat.log2 m - 52) := by
  have low : 2 ^ Nat.log2 m ≤ m := Nat.log2_self_le pos
  have high : m < 2 ^ (Nat.log2 m + 1) := Nat.lt_log2_self
  by_cases fits : Nat.log2 m ≤ 52
  · obtain ⟨k, hk⟩ := Nat.exists_eq_add_of_le fits
    have above : 2 ^ 52 ≤ m * 2 ^ k := by
      calc 2 ^ 52 = 2 ^ Nat.log2 m * 2 ^ k := by rw [← pow_add, ← hk]
        _ ≤ m * 2 ^ k := Nat.mul_le_mul_right _ low
    have below : m * 2 ^ k < 2 ^ 53 := by
      calc m * 2 ^ k < 2 ^ (Nat.log2 m + 1) * 2 ^ k := Nat.mul_lt_mul_of_pos_right high (Nat.two_pow_pos _)
        _ = 2 ^ 53 := by rw [← pow_add]; congr 1; omega
    refine ⟨m * 2 ^ k - 2 ^ 52, by omega, ?_⟩
    rw [show 52 - Nat.log2 m = k by omega, show Nat.log2 m - 52 = 0 by omega, pow_zero]
    omega
  · have power : 2 ^ 53 ≤ 2 ^ Nat.log2 m := Nat.pow_le_pow_right (by decide) (by omega)
    obtain rfl : m = 2 ^ 53 := by omega
    exact ⟨0, by decide, by rw [Nat.log2_two_pow]; rfl⟩

/-- The double of a sign, an exponent field and a fraction. -/
def fpWord (neg : Bool) (ex fr : Nat) : Word := fpZero neg ||| BitVec.ofNat 64 (ex * 2 ^ 52 + fr)

section fpWord

variable {ex fr : Nat} (neg : Bool)

theorem toNat_fpWord (hex : ex < 2 ^ 11) (hfr : fr < 2 ^ 52) :
    (fpWord neg ex fr).toNat = 2 ^ 63 * neg.toNat + (ex * 2 ^ 52 + fr) := by
  have magnitude : ex * 2 ^ 52 + fr < 2 ^ 63 := by omega
  have sign : (fpZero neg).toNat = 2 ^ 63 * neg.toNat := by
    cases neg <;> rfl
  rw [fpWord, BitVec.toNat_or, sign, BitVec.toNat_ofNat, Nat.mod_eq_of_lt (by omega),
    Nat.two_pow_add_eq_or_of_lt magnitude]

/-- Its value, when the exponent field is that of a normal number (R760). -/
theorem fpVal_fpWord {e : Int} (he : (ex : Int) = e + 1075) (normal : ex ≠ 0) (hex : ex < 2047) (hfr : fr < 2 ^ 52) :
    fpVal (fpWord neg ex fr) = .fin neg (2 ^ 52 + fr) e := by
  have word := toNat_fpWord neg (show ex < 2 ^ 11 by omega) hfr
  have bit := neg.toNat_le
  have sign : bitAt (fpWord neg ex fr) 63 = neg := by
    rw [bitAt_eq_getLsbD, BitVec.getLsbD, word, Nat.testBit_eq_decide_div_mod_eq]
    cases neg <;> simp <;> omega
  have exponent : (field (fpWord neg ex fr) 52 11 : BitVec 11).toNat = ex := by
    rw [field, BitVec.extractLsb'_toNat, word, Nat.shiftRight_eq_div_pow]
    omega
  have fraction : (field (fpWord neg ex fr) 0 52 : BitVec 52).toNat = fr := by
    rw [field, BitVec.extractLsb'_toNat, word, Nat.shiftRight_zero]
    omega
  rw [fpVal, sign, exponent, fraction, fpDecode, if_neg (by omega), if_neg normal]
  congr 1
  norm_num
  omega

end fpWord

/-- A magnitude from 1 to 2^53 is rounded to itself: the double of its significand, with no condition. -/
theorem fpRound_of_significand {m fr : Nat} (pos : m ≠ 0) (small : m ≤ 2 ^ 53) (hfr : fr < 2 ^ 52)
    (h : m * 2 ^ (52 - Nat.log2 m) = (2 ^ 52 + fr) * 2 ^ (Nat.log2 m - 52)) (env : FpEnv) (neg : Bool) :
    fpRound env neg m 0 = fpExact (fpWord neg (Nat.log2 m + 1023) fr) := by
  have top : Nat.log2 m < 54 := (Nat.log2_lt pos).2 (by omega)
  have place : max (0 + (Nat.log2 m : Int) - 52) (-1074) = Nat.log2 m - 52 := by omega
  have above : ((Nat.log2 m : Int) - 52).toNat = Nat.log2 m - 52 := Int.toNat_sub _ 52
  have below : (52 - (Nat.log2 m : Int)).toNat = 52 - Nat.log2 m := Int.toNat_sub 52 _
  have exact : fpQuantize env.mode neg m 0 (Nat.log2 m - 52) = (2 ^ 52 + fr, false, false) := by
    refine fpQuantize_of_exact ?_ env.mode neg
    rwa [Int.zero_sub, Int.neg_sub, Int.sub_zero, above, below]
  have magnitude : ((Nat.log2 m : Int) - 52 + 1074).toNat * 2 ^ 52 + (2 ^ 52 + fr) =
      (Nat.log2 m + 1023) * 2 ^ 52 + fr := by omega
  unfold fpRound
  dsimp only
  rw [place, exact, magnitude, if_neg (by omega)]
  simp [fpExact, fpWord]

/-- A double that is an integer of at most 53 bits is converted to it, with no condition (R790). -/
theorem fpToInt_of_exact {a : Word} {neg : Bool} {sig m : Nat} {e : Int} (ha : fpVal a = .fin neg sig e)
    (h : sig * 2 ^ e.toNat = m * 2 ^ (-e).toNat) (small : m ≤ 2 ^ 53) (env : FpEnv) :
    fpToInt env a = fpExact (BitVec.ofInt 64 (signedOf neg m)) := by
  have exact : fpQuantize env.mode neg sig e 0 = (m, false, false) :=
    fpQuantize_of_exact (by rwa [Int.sub_zero, Int.zero_sub]) env.mode neg
  have bounds : -(2 ^ 53 : Int) ≤ signedOf neg m ∧ signedOf neg m ≤ 2 ^ 53 := by
    unfold signedOf
    split <;> omega
  unfold fpToInt
  rw [ha]
  dsimp only
  rw [exact, if_neg (by norm_num; omega), if_neg (by norm_num; omega)]
  rfl

/-- A word is its sign and its magnitude. -/
theorem signedOf_toInt (n : Word) : signedOf (n.slt 0) n.toInt.natAbs = n.toInt := by
  have sign : n.slt 0 = decide (n.toInt < 0) := rfl
  rw [signedOf, sign]
  by_cases neg : n.toInt < 0
  · simp only [neg, decide_true, if_true]
    omega
  · simp only [neg, decide_false, Bool.false_eq_true, if_false]
    omega

/-- The word of an integer of at most 53 bits as a double is exact (R791). -/
theorem fpOfInt_of_small {n : Word} (hn : n ≠ 0) (small : n.toInt.natAbs ≤ 2 ^ 53) :
    ∃ d e sig, (∀ env, fpOfInt env n = fpExact d) ∧ fpVal d = .fin (n.slt 0) sig e ∧
      sig * 2 ^ e.toNat = n.toInt.natAbs * 2 ^ (-e).toNat := by
  have pos : n.toInt.natAbs ≠ 0 := fun h => hn (BitVec.toInt_inj.1 (by simpa using Int.natAbs_eq_zero.1 h))
  have top : Nat.log2 n.toInt.natAbs < 54 := (Nat.log2_lt pos).2 (by omega)
  obtain ⟨fr, hfr, h⟩ := exists_significand pos small
  refine ⟨_, Nat.log2 n.toInt.natAbs - 52, _, fun env => ?_,
    fpVal_fpWord _ (ex := Nat.log2 n.toInt.natAbs + 1023) (by omega) (by omega) (by omega) hfr, ?_⟩
  · rw [fpOfInt, if_neg hn, fpRound_of_significand pos small hfr h]
  · have above : ((Nat.log2 n.toInt.natAbs : Int) - 52).toNat = Nat.log2 n.toInt.natAbs - 52 := Int.toNat_sub _ 52
    have below : (52 - (Nat.log2 n.toInt.natAbs : Int)).toNat = 52 - Nat.log2 n.toInt.natAbs := Int.toNat_sub 52 _
    rw [Int.neg_sub, above, below, h]

/-- Settles O53: the double is exact, and so is its integer; zero is the double 0. -/
theorem integerSurvivesFloatRoundTrip : Obligations.IntegerSurvivesFloatRoundTrip := by
  intro env env' n small
  by_cases hn : n = 0
  · subst hn
    have back : fpToInt env' 0 = fpExact 0 :=
      fpToInt_of_exact (a := 0) (neg := false) (m := 0) (sig := 0) (e := -1074) rfl
        ((Nat.zero_mul _).trans (Nat.zero_mul _).symm) (by decide) env'
    exact ⟨rfl, congrArg FpResult.bits back, congrArg FpResult.exc back⟩
  · obtain ⟨d, e, sig, double, value, h⟩ := fpOfInt_of_small hn small
    have back := fpToInt_of_exact value h small env'
    rw [signedOf_toInt, BitVec.ofInt_toInt] at back
    rw [double env]
    exact ⟨rfl, congrArg FpResult.bits back, congrArg FpResult.exc back⟩

end Sys2Proof.Machine
